-- ==== Sys2Proof/Word.lean ====
section
/-! DEFINITION. The plain data the MC16 manual speaks of: bytes, tag codes, ports, links, sides and saturation. -/

namespace Sys2Proof

/-- One byte on a serial link. -/
abbrev Byte := BitVec 8

/-- A tag code: 96 bits, a class byte followed by an 88-bit serial (section 1.7). -/
abbrev TagCode := BitVec 96

/-- An antenna port, 0 to 15 (section 1.4). -/
abbrev Port := Fin 16

/-- A front-end link, 0 to 3 (section 1.4). -/
abbrev Link := Fin 4

/-- A section ID, 0 to 4095; the range is kept by the tests of R64, R66 and R44, not by the type. -/
abbrev SectionId := Nat

/-- The side of the aisle. -/
inductive Side where
  | left
  | right
  deriving DecidableEq, Repr

/-- The two sweep generators (section 1.2). -/
inductive Generator where
  | a
  | b
  deriving DecidableEq, Repr

/-- A quantity that saturates stops at its maximum (section 1.7). -/
def satAdd (maximum n k : Nat) : Nat := min maximum (n + k)

/-- The maximum of the 32-bit counters (R5, R26, R58, R101, R123, R147, R164). -/
def max32 : Nat := 4294967295

/-- A 32-bit counter raised by `k`. -/
def sat32 (n k : Nat) : Nat := satAdd max32 n k

/-- A value that is clamped is replaced by the nearest end of its allowed range (section 1.7). -/
def clampNat (low high n : Nat) : Nat := max low (min high n)

/-- Clamping of a signed value (R37). -/
def clampInt (low high n : Int) : Int := max low (min high n)

/-- The big-endian bytes of the low `8 * k` bits of `n`: multi-byte fields are sent most significant byte first
(Chapter 11). -/
def bytesOf : Nat → Nat → List Byte
  | 0, _ => []
  | k + 1, n => BitVec.ofNat 8 (n / 256 ^ k) :: bytesOf k n

/-- The number that a most-significant-first list of bytes spells. -/
def natOf (bytes : List Byte) : Nat := bytes.foldl (fun acc b => acc * 256 + b.toNat) 0

/-- The tag code that twelve bytes spell. -/
def tagOf (bytes : List Byte) : TagCode := BitVec.ofNat 96 (natOf bytes)

/-- The class byte of a tag code, its first byte (section 3.1). -/
def tagClass (t : TagCode) : Nat := (t.extractLsb' 88 8).toNat

/-- The section ID in the low 12 bits of a marker's serial (section 3.2). -/
def tagSection (t : TagCode) : SectionId := (t.extractLsb' 0 12).toNat

/-- The marker tag RHG writes: the marker class, then a serial with the section ID in its low 12 bits and 0 elsewhere
(R189). -/
def markerTag (markerClass : Nat) (x : SectionId) : TagCode :=
  BitVec.ofNat 96 (markerClass % 256 * 2 ^ 88 + x % 4096)

/-- Ports 0 to 7 are on the LEFT side and ports 8 to 15 on the RIGHT side (R3). -/
def portSide (p : Port) : Side := if p.val < 8 then .left else .right

/-- The level of port p is (p mod 8) + 1 (R3). -/
def portLevel (p : Port) : Nat := p.val % 8 + 1

/-- The port is the link number times 4 plus the port-in-group (R3). -/
def portOf (l : Link) (group : Fin 4) : Port := ⟨l.val * 4 + group.val, by omega⟩

/-- The port with the given side and level, section 1.4: each (side, level) pair belongs to one port. -/
def portAt (side : Side) (level : Nat) : Port :=
  match side with
  | .left => ⟨(level + 7) % 8, by omega⟩
  | .right => ⟨8 + (level + 7) % 8, by omega⟩

/-- The two links of a side: LEFT is swept on links 0 and 1, RIGHT on links 2 and 3 (R8). -/
def sideLinks : Side → List Link
  | .left => [0, 1]
  | .right => [2, 3]

/-- The sixteen ports in ascending order. -/
def allPorts : List Port := [0, 1, 2, 3, 4, 5, 6, 7, 8, 9, 10, 11, 12, 13, 14, 15]

/-- The four links in ascending order. -/
def allLinks : List Link := [0, 1, 2, 3]

/-- `f` applied to every element of a vector. -/
def mapAll {α β : Type} {n : Nat} (f : α → β) (v : Vector α n) : Vector β n := ⟨⟨v.toList.map f⟩, by simp⟩

/-- `f` applied to the element at `i`. -/
def modifyAt {α : Type} {n : Nat} (v : Vector α n) (i : Fin n) (f : α → α) : Vector α n := v.set i (f v[i])

end Sys2Proof
end

