-- ==== Sys2Proof/Syntax.lean ====
section
/-! DEFINITION. The commands: one constructor per row of spec/opcode_table.json, in the table's order. -/

namespace Sys2Proof

/-- The steps of the MC16 (spec/opcode_table.json, spec/95_what_each_step_holds.md). A command names what happens at the
device: a line changes, bytes arrive on a link, a time falls due, a block takes up the next piece of its work, or the frame
at the head of the management input queue is dispatched. The contents of a dispatched exchange are those of the frame at
the head, so the exchange rows carry no operands of their own. -/
inductive Instr where
  /-- POWER_ON (R145). -/
  | powerOn
  /-- RESET_LINE (R145): the RESET line becomes asserted. -/
  | resetLine
  /-- RESET_LINE_RELEASE (R145). -/
  | resetLineRelease
  /-- QHOLD_ASSERT (R24). -/
  | qholdAssert
  /-- QHOLD_RELEASE (R24). -/
  | qholdRelease
  /-- FRONT_END_FRAME_JUDGED (R1): the bytes received on the link up to the judgement. -/
  | frontEndFrameJudged (link : Link) (bytes : List Byte)
  /-- SWEEP_FRAME_SENT (R4): the frame in transmission on the link has been sent in full. -/
  | sweepFrameSent (link : Link)
  /-- SWEEP_START (R8): FREE mode, the generator's scheduled start falls due. -/
  | sweepStart (g : Generator)
  /-- A_START (R10): INTERLEAVED mode. -/
  | aStart
  /-- B_START (R10): INTERLEAVED mode. -/
  | bStart
  /-- READ_TAKE (R77). -/
  | readTake
  /-- SECTION_OPEN_AFTER_WAIT (R110). -/
  | sectionOpenAfterWait
  /-- OVERFULL_FINDING_WRITE (R113). -/
  | overfullFindingWrite
  /-- QUIET_EXPIRY (R91). -/
  | quietExpiry
  /-- QUIET_CLOSE (R109) of the named section. -/
  | quietClose (sec : SectionId)
  /-- FORCE_PLACE_AND_RETIRE (R92). -/
  | forcePlaceAndRetire
  /-- REPORTER_TAKE_SECTION (R114). -/
  | reporterTakeSection
  /-- FINDING_WRITE (R118). -/
  | findingWrite
  /-- SECTION_SUMMARY_WRITE (R119). -/
  | sectionSummaryWrite
  /-- DRAIN_COMPLETE (R135). -/
  | drainComplete
  /-- SETTLE (R93). -/
  | settle
  /-- TALLY_FINDING_WRITE (R138). -/
  | tallyFindingWrite
  /-- TALLY_WALK_END (R139). -/
  | tallyWalkEnd
  /-- CLOCK_LIMIT (R134). -/
  | clockLimit
  /-- PREPARING_WALK_END (R130). -/
  | preparingWalkEnd
  /-- CALIBRATION_COMPLETE (R34). -/
  | calibrationComplete
  /-- ACTIVITY_WINDOW_END (R183). -/
  | activityWindowEnd
  /-- UPLINK_FRAME_JUDGED (R148): the bytes received on the uplink up to the judgement. -/
  | uplinkFrameJudged (bytes : List Byte)
  /-- ABORT_PASS (R142): the action of an ABORT-PASS frame with the given sequence tag. -/
  | abortPass (tag : Byte)
  /-- RESTART (R143): the action of a RESTART frame with the given sequence tag. -/
  | restart (tag : Byte)
  /-- PAUSE (R162). -/
  | pause
  /-- RESUME (R163). -/
  | resume
  /-- IDENTIFY (R168). -/
  | identify
  /-- SET_PARAM (R169). -/
  | setParam
  /-- GET_PARAM (R171). -/
  | getParam
  /-- READ_STATUS_PASS (R173). -/
  | readStatusPass
  /-- READ_STATUS_PORTS (R174). -/
  | readStatusPorts
  /-- READ_STATUS_CALIBRATION (R175). -/
  | readStatusCalibration
  /-- READ_STATUS_COUNTERS (R176). -/
  | readStatusCounters
  /-- READ_STATUS_LINKS (R176). -/
  | readStatusLinks
  /-- RESET_PORT_QUEUES (R22). -/
  | resetPortQueues
  /-- RESET_PORT_QUEUES_GLOBAL (R23). -/
  | resetPortQueuesGlobal
  /-- LOAD_HOLDINGS (R64). -/
  | loadHoldings
  /-- LOAD_SECTIONS (R66). -/
  | loadSections
  /-- LOAD_COMPLETE (R65). -/
  | loadComplete
  /-- CLEAR_TABLES (R67). -/
  | clearTables
  /-- CALIBRATE (R29). -/
  | calibrate
  /-- OPEN_PASS (R128). -/
  | openPass
  /-- REHEARSE (R179). -/
  | rehearse
  /-- CLOSE_PASS (R133). -/
  | closePass
  /-- BAD_KIND (R150). -/
  | badKind
  /-- REPLY_FRAME (R161). -/
  | replyFrame
  /-- ALERT_FRAME (R161). -/
  | alertFrame
  /-- REPORT_FRAME (R160). -/
  | reportFrame
  /-- FLUSH_TIME_EXPIRY (R160). -/
  | flushTimeExpiry
  /-- UPLINK_FRAME_END (R159). -/
  | uplinkFrameEnd
  deriving DecidableEq, Repr

end Sys2Proof
end

