-- ==== Sys2Proof/Config.lean ====
section
/-! DEFINITION. What the part fixes: the capacities of R168 and the bounds the chapters name. The manual leaves no value of
the machine open, so there is no free value here. -/

namespace Sys2Proof.Config

/-- The part code of R168. -/
def partCode : Nat := 0x4C10

/-- The revision this edition describes (R168). -/
def revision : Nat := 1

/-- The capacity of the holdings table (R60). -/
def holdingsCapacity : Nat := 16384

/-- The capacity of the section table (R62). -/
def sectionCapacity : Nat := 1024

/-- The slots of the sighting table (R82). -/
def sightingCapacity : Nat := 2048

/-- The capacity of the open-section list (R110). -/
def openCapacity : Nat := 32

/-- The capacity of a placement list (R113). -/
def placementCapacity : Nat := 96

/-- The capacity of a port queue (R18). -/
def portQueueCapacity : Nat := 32

/-- The capacity of the report queue (R154). -/
def reportCapacity : Nat := 512

/-- The count at which producers of findings and summaries wait (R155). -/
def reportWaitMark : Nat := 511

/-- The capacity of the reply queue (R153). -/
def replyCapacity : Nat := 8

/-- The capacity of the management input queue (R149). -/
def mgmtCapacity : Nat := 4

/-- The number of parameters, IDs 1 to 26 (R168). -/
def parameterCount : Nat := 26

/-- The greatest sweep count (R13). -/
def sweepLimit : Nat := 16777215

/-- The greatest pass clock (R126). -/
def clockLimit : Nat := 4294967295

/-- The greatest transit (R52). -/
def transitLimit : Nat := 4095

/-- The greatest score and read count (section 1.7, R84, R86), window count (R182), accumulator count (R33) and finding
tally (Chapter 6). -/
def max16 : Nat := 65535

/-- The largest payload of an uplink frame (section 11.1). -/
def maxPayload : Nat := 1196

end Sys2Proof.Config
end

