-- ==== Sys2Proof/Machine/State.lean ====
section
/-! DEFINITION. The state of the MC16 as plain data: every block's state tables, the parameters, the two lines and the queue
of waiting commands; and the state right after power-on. -/

namespace Sys2Proof.Machine

/-- The MC16 never stops: the manual names no condition that ends its operation, so no meaning raises a fault. -/
inductive Fault where
  deriving DecidableEq, Repr

/-- Why a command has no meaning. -/
inductive Refusal where
  /-- Raised by `exec` alone, for a row of the opcode table that has no meaning yet (safe: the model stops). -/
  | notModelled (mnemonic : String)
  deriving DecidableEq, Repr

/-! ### Value sets -/

/-- A side's assignment (section 1.2). -/
inductive Assign where
  | a
  | b
  | off
  deriving DecidableEq, Repr

/-- The sweep mode (section 1.2). -/
inductive SweepMode where
  | free
  | interleaved
  deriving DecidableEq, Repr

/-- A generator's run state (section 1.2). -/
inductive RunState where
  | stopped
  | running
  | held
  deriving DecidableEq, Repr

/-- The stamp tag of a read entry, at most one (section 1.4). -/
inductive Stamp where
  | late
  | settle
  deriving DecidableEq, Repr

/-- Calibration status (section 2.1). -/
inductive CalStatus where
  | notRun
  | ok
  | clamped
  | failed
  deriving DecidableEq, Repr

/-- Order of travel (Chapter 3). -/
inductive Direction where
  | unknown
  | forward
  | reverse
  deriving DecidableEq, Repr

/-- Circulation status of a holdings record (section 4.1). -/
inductive ItemStatus where
  | shelved
  | reference
  | onLoan
  | inTransit
  | withdrawn
  deriving DecidableEq, Repr

/-- The per-pass mark of a holdings record (section 4.4). -/
inductive Mark where
  | unseen
  | sighted
  | placed
  | disposed
  deriving DecidableEq, Repr

/-- The per-pass state of a section (section 4.5). -/
inductive SectionState where
  | unvisited
  | opened
  | closing
  | closed
  deriving DecidableEq, Repr

/-- Placement confidence (section 5.4). -/
inductive Confidence where
  | firm
  | ambiguous
  deriving DecidableEq, Repr

/-- The close stage of an open-section list entry (Chapter 6). -/
inductive CloseStage where
  | faced
  | quiet
  | requested
  | closing
  deriving DecidableEq, Repr

/-- The pass state (Chapter 7). -/
inductive PassState where
  | idle
  | calibrating
  | preparing
  | scanning
  | settling
  | tallying
  deriving DecidableEq, Repr

/-- The pass source (Chapter 7). -/
inductive PassSource where
  | frontEnds
  | rehearsal
  deriving DecidableEq, Repr

/-- The end reason PSC holds (Chapter 7); absent is `none`. -/
inductive EndReason where
  | complete
  | sweepLimit
  deriving DecidableEq, Repr

/-- The reason a PASS-END carries (R140). -/
inductive PassEndReason where
  | complete
  | sweepLimit
  | aborted
  | restart
  deriving DecidableEq, Repr

/-- The settle stage (Chapter 7). -/
inductive SettleStage where
  | draining
  | placing
  | closingAll
  deriving DecidableEq, Repr

/-- The kinds of finding (Chapter 11). -/
inductive FindingKind where
  | found
  | outOfOrder
  | misshelved
  | statusConflict
  | foreign
  | missing
  | uncertain
  deriving DecidableEq, Repr

/-- The routes by which an OPEN entry is placed (section 5.4). -/
inductive Route where
  | confirm
  | quiet
  | close
  | settle
  | evict
  deriving DecidableEq, Repr

/-- RHG's run state (section 10.3). -/
inductive RhgState where
  | idle
  | waiting
  | presenting
  deriving DecidableEq, Repr

/-- Port mode (section 1.4). -/
inductive PortMode where
  | active
  | muted
  deriving DecidableEq, Repr

/-- Result codes of replies (R166). -/
inductive ResultCode where
  | done
  | clamped
  | aborted
  | badState
  | badParam
  | badKind
  | emptyTable
  | tableFull
  | duplicate
  | badStatus
  | badClass
  | badLevel
  deriving DecidableEq, Repr

/-- An alert: its kind and subject (R158). -/
inductive Alert where
  | portOverflow (p : Port)
  | portSilent (p : Port)
  | portStalled (p : Port)
  | linkError (l : Link)
  | sweepHold
  deriving DecidableEq, Repr

/-- Receive framing state (R1, R148): HUNTING, or RECEIVING with the bytes collected since the sync byte. -/
inductive Rx where
  | hunting
  | receiving (got : List Byte)
  deriving DecidableEq, Repr

/-! ### Parameters -/

/-- The device-wide parameters of R169, by ID; the per-port ones (6 and 7) stand with their port queue. -/
structure Params where
  periodA : Nat
  periodB : Nat
  assignLeft : Assign
  assignRight : Assign
  sweepMode : SweepMode
  markerClass : Nat
  referenceClass : Nat
  readFloor : Nat
  markerThreshold : Nat
  minReads : Nat
  confirmScore : Nat
  margin : Nat
  quietTime : Nat
  orderTolerance : Nat
  minTransit : Nat
  calWindow : Nat
  tNear : Nat
  tFar : Nat
  highMark : Nat
  lowMark : Nat
  flushTime : Nat
  activityWindow : Nat
  hotThreshold : Nat
  activityReporting : Bool
  deriving DecidableEq, Repr

/-! ### FLI and SWG (Chapter 1) -/

/-- A SWEEP frame: the low byte of the sweep number and the dwell in ms. -/
structure SweepFrame where
  echo : Nat
  dwell : Nat
  deriving DecidableEq, Repr

/-- FLI's state for one link (section 1.1). -/
structure LinkState where
  rx : Rx
  errorLatch : Bool
  waiting : Option SweepFrame
  sending : Option SweepFrame
  goodFrames : Nat
  badFrames : Nat
  ignoredReads : Nat
  sweepsSent : Nat
  superseded : Nat
  deriving DecidableEq, Repr

/-- One generator: sweep count, run state and the time of its scheduled start on the device's millisecond time base. -/
structure GenState where
  count : Nat
  run : RunState
  nextStart : Option Nat
  deriving DecidableEq, Repr

/-- A B start that an A start has scheduled (R10): its time, its sweep number and the dwell fixed by A's period. -/
structure BStart where
  due : Nat
  sweep : Nat
  dwell : Nat
  deriving DecidableEq, Repr

/-- SWG's state (section 1.2). `runLeft`, `runRight` and `runMode` are the side assignment and sweep mode in force since PSC
last started the generators (R11). `endsAtB` says that generator A's calibration window has ended and A waits for the B start
of its last sweep before it enters STOPPED (R31). -/
structure Swg where
  genA : GenState
  genB : GenState
  runLeft : Assign
  runRight : Assign
  runMode : SweepMode
  lastB : Option Nat
  bStarts : List BStart
  endsAtB : Bool
  holdAlert : Bool
  deriving DecidableEq, Repr

/-! ### PIQ (section 1.4) -/

/-- A read entry (section 1.4); the full sweep number is absent when the entry is LATE. -/
structure ReadEntry where
  port : Port
  tag : TagCode
  raw : Nat
  sweep : Option Nat
  crcFail : Bool
  collision : Bool
  stamp : Option Stamp
  deriving DecidableEq, Repr

/-- PIQ's four counters of a port (R26). -/
structure PiqCounters where
  entered : Nat
  overflowDrops : Nat
  heldDrops : Nat
  purged : Nat
  deriving DecidableEq, Repr

/-- A port's ingress queue and its flags (section 1.4). -/
structure PortQueue where
  queue : List ReadEntry
  mode : PortMode
  follows : Bool
  episode : Bool
  counters : PiqCounters
  deriving DecidableEq, Repr

/-! ### SCU (Chapter 2) -/

/-- A port's last calibration result (section 2.1); a mean not formed is absent. -/
structure CalResult where
  nearCount : Nat
  nearMean : Option Nat
  farCount : Nat
  farMean : Option Nat
  deriving DecidableEq, Repr

/-- SCU's state for one port (section 2.1). -/
structure ScuPort where
  offset : Int
  gain : Nat
  status : CalStatus
  last : CalResult
  nearSum : Nat
  nearCount : Nat
  farSum : Nat
  farCount : Nat
  carryOver : Nat
  deriving DecidableEq, Repr

/-- SCU's state (section 2.1). -/
structure Scu where
  ports : Vector ScuPort 16
  calPass : Bool
  tallyCarryOver : Nat
  tallyNonReference : Nat
  tallyOtherReference : Nat
  tallyOverCount : Nat
  nearTag : Option TagCode
  farTag : Option TagCode
  deriving DecidableEq, Repr

/-! ### MFU (Chapter 3) -/

/-- A facing record (section 3.3). -/
structure FacingRecord where
  facing : Option SectionId
  transit : Nat
  stalled : Bool
  lastMove : Direction
  deriving DecidableEq, Repr

/-- MFU's pass counters (R58), in the order of the table. -/
structure MfuCounters where
  markerReads : Nat
  weakMarker : Nat
  unmappedMarker : Nat
  crossMarker : Nat
  facingChanges : Nat
  skips : Nat
  reversals : Nat
  referenceDropped : Nat
  deriving DecidableEq, Repr

/-- MFU's state. -/
structure Mfu where
  ports : Vector FacingRecord 16
  counters : MfuCounters
  deriving DecidableEq, Repr

/-! ### TST (Chapter 4) -/

/-- A holdings record with its mark (sections 4.1 and 4.4). -/
structure Holding where
  tag : TagCode
  key : Nat
  home : SectionId
  status : ItemStatus
  mark : Mark
  deriving DecidableEq, Repr

/-- A list item of a placement list (R88). `slot` is the sighting reference, absent once the entry is retired (R98). -/
structure Item where
  slot : Option Nat
  tag : TagCode
  ref : Option Nat
  peak : Nat
  key : Option Nat
  confidence : Confidence
  deriving DecidableEq, Repr

/-- A section record with its per-pass fields (sections 4.2 and 4.5). -/
structure Section where
  id : SectionId
  side : Side
  level : Nat
  expected : Nat
  state : SectionState
  direction : Direction
  rushed : Bool
  overfull : Bool
  evicted : Bool
  orderUnchecked : Bool
  unfacedSince : Option Nat
  list : List Item
  deriving DecidableEq, Repr

/-- TST's two tables. The mark tallies are computed from the marks (section 4.4). -/
structure Tst where
  holdings : List Holding
  sections : List Section
  deriving DecidableEq, Repr

/-! ### SPE (Chapter 5) -/

/-- A candidate of a sighting entry (section 5.3). -/
structure Candidate where
  sec : SectionId
  score : Nat
  peak : Nat
  sweep : Nat
  deriving DecidableEq, Repr

/-- A sighting entry (section 5.3). `placement` is absent while the entry is OPEN and holds the placed section and the
confidence once it is PLACED. -/
structure Sighting where
  slot : Nat
  tag : TagCode
  ref : Option Nat
  candidates : List Candidate
  reads : Nat
  lastRead : Nat
  placement : Option (SectionId × Confidence)
  moves : Nat
  frozen : Bool
  deriving DecidableEq, Repr

/-- SPE's pass counters (R101), in the order of the table. -/
structure SpeCounters where
  taken : Nat
  unswept : Nat
  errorTagged : Nat
  late : Nat
  settle : Nat
  faint : Nat
  noFacing : Nat
  revisit : Nat
  resight : Nat
  shed : Nat
  scored : Nat
  newSightings : Nat
  placedConfirm : Nat
  placedQuiet : Nat
  placedClose : Nat
  placedSettle : Nat
  placedEvict : Nat
  moves : Nat
  freezes : Nat
  evictions : Nat
  deriving DecidableEq, Repr

/-- An opening that SRU makes or waits to make (R106, R110): the section and the direction it opens with. -/
structure OpenRequest where
  sec : SectionId
  direction : Direction
  deriving DecidableEq, Repr

/-- An item read that passed R80 with weight: what R81 to R85 need of it. -/
structure ItemRead where
  tag : TagCode
  sec : SectionId
  weight : Nat
  strength : Nat
  sweep : Nat
  deriving DecidableEq, Repr

/-- What is left of SPE's item of work after an immediate disposition (R113). -/
inductive Continuation where
  /-- Nothing: the item of work ends. -/
  | done
  /-- The force-place and retire request of the section goes on (R92); then an opening, when R110 asked for it. -/
  | forcePlace (sec : SectionId) (after : Option OpenRequest)
  /-- The settle request goes on (R93). -/
  | settle
  /-- An eviction has freed a slot for this read's new entry (R97). -/
  | newEntry (read : ItemRead) (ref : Option Nat)
  deriving DecidableEq, Repr

/-- A finding decided by an immediate disposition that waits for room (R113): the section it is found in, the slot of the
entry it disposes of, the record fields, and what is left of the item of work. -/
structure Disposition where
  sec : SectionId
  slot : Nat
  kind : FindingKind
  tag : TagCode
  home : Option SectionId
  confidence : Confidence
  rest : Continuation
  deriving DecidableEq, Repr

/-- SPE's item of work in hand, between two steps (R74): none, or one that waits on SRU. -/
inductive Work where
  | idle
  /-- A finding of an immediate disposition waits for room in the report queue (R113). -/
  | waitRoom (d : Disposition)
  /-- An opening waits for a place in the open-section list (R110, step 2). -/
  | waitPlace (r : OpenRequest)
  deriving DecidableEq, Repr

/-- SPE's state (Chapter 5). `woken` is the port whose arrival ended SPE's wait on empty queues (R75). `requests` are the
force-place and retire requests handed to SPE and not yet taken, earliest first; `settleRequest` is PSC's (R74).
`scorePending` says that the read in hand is scored and rises in SCORED when its item of work ends (R86, R99). -/
structure Spe where
  table : List Sighting
  pointer : Port
  stale : Vector Nat 16
  woken : Option Port
  work : Work
  requests : List SectionId
  settleRequest : Bool
  scorePending : Bool
  counters : SpeCounters
  deriving DecidableEq, Repr

/-! ### SRU (Chapter 6) -/

/-- The finding tallies of an open-section list entry (Chapter 6). -/
structure Tallies where
  foundHome : Nat
  outOfOrder : Nat
  misshelvedIn : Nat
  foreign : Nat
  conflict : Nat
  deriving DecidableEq, Repr

/-- An entry of the open-section list (Chapter 6). -/
structure OpenSection where
  sec : SectionId
  stage : CloseStage
  tallies : Tallies
  reportPosition : Option Nat
  deriving DecidableEq, Repr

/-- The reporter at work on a CLOSING section (R114 to R119): the list positions, from 1, that the order check flagged, and
whether the finding at the report position is decided and waits for room. -/
structure Reporter where
  sec : SectionId
  flagged : List Nat
  waiting : Bool
  deriving DecidableEq, Repr

/-- SRU's pass counters (R123), in the order of the table. -/
structure SruCounters where
  sectionsOpened : Nat
  sectionsClosed : Nat
  sectionEvictions : Nat
  overfullItems : Nat
  uncheckedSections : Nat
  found : Nat
  outOfOrder : Nat
  misshelved : Nat
  statusConflict : Nat
  foreign : Nat
  deriving DecidableEq, Repr

/-- SRU's state (Chapter 6). `closing` are the CLOSING sections that wait for the reporter, in the order in which they
entered CLOSING (R111). -/
structure Sru where
  openList : List OpenSection
  closeAll : Bool
  reporter : Option Reporter
  closing : List SectionId
  counters : SruCounters
  deriving DecidableEq, Repr

/-! ### PSC (Chapter 7) -/

/-- PSC's pass counters (R147), in the order of the table. -/
structure PscCounters where
  expectedTotal : Nat
  unmapped : Nat
  missing : Nat
  uncertain : Nat
  notCovered : Nat
  deriving DecidableEq, Repr

/-- A MISSING or UNCERTAIN finding of the tally walk that waits for room (R138). -/
structure TallyFinding where
  kind : FindingKind
  tag : TagCode
  home : SectionId
  deriving DecidableEq, Repr

/-- PSC's state (Chapter 7). The positions of the PREPARING walk are `marked` for its marks, `cleared` for its sections and
`preparation` for its counting (R129 parts 2 to 4). -/
structure Psc where
  state : PassState
  source : PassSource
  verbose : Bool
  clock : Nat
  endReason : Option EndReason
  stage : SettleStage
  tallyPosition : Nat
  marked : Nat
  cleared : Nat
  preparation : Nat
  tallyWait : Option TallyFinding
  counters : PscCounters
  deriving DecidableEq, Repr

/-! ### ULP (Chapter 8) -/

/-- A frame waiting in the management input queue: kind, sequence tag and payload. -/
structure MgmtFrame where
  kind : Byte
  tag : Byte
  payload : List Byte
  deriving DecidableEq, Repr

/-- A holdings record as a load block carries it (section 11.3), before the tests of R64. -/
structure RawHolding where
  tag : TagCode
  key : Nat
  home : Nat
  status : Nat
  deriving DecidableEq, Repr

/-- A section record as a load block carries it (section 11.3), before the tests of R66. -/
structure RawSection where
  id : Nat
  side : Nat
  level : Nat
  deriving DecidableEq, Repr

/-- An exchange in hand that takes time (R65, R130); every other exchange ends in the step that dispatches it. -/
inductive Exchange where
  | loadHoldings (tag : Byte) (block : List RawHolding)
  | loadSections (tag : Byte) (block : List RawSection)
  /-- The PREPARING walk of an OPEN-PASS or REHEARSE, with the kind and tag of its request. -/
  | walk (kind : Byte) (tag : Byte)
  deriving DecidableEq, Repr

/-- A reply record (R166): the sequence tag and kind of its request, the result code and the payload. -/
structure Reply where
  tag : Byte
  kind : Byte
  result : ResultCode
  payload : List Byte
  deriving DecidableEq, Repr

/-- A PASS-END record (R140). -/
structure PassEnd where
  reason : PassEndReason
  stateAtEnd : PassState
  source : PassSource
  clock : Nat
  psc : PscCounters
  mfu : MfuCounters
  spe : SpeCounters
  sru : SruCounters
  piq : Vector PiqCounters 16
  deriving DecidableEq, Repr

/-- A SECTION-SUMMARY record (R119). -/
structure Summary where
  sec : SectionId
  expected : Nat
  tallies : Tallies
  rushed : Bool
  overfull : Bool
  evicted : Bool
  orderUnchecked : Bool
  direction : Direction
  deriving DecidableEq, Repr

/-- A FINDING record (section 11.5). -/
structure Finding where
  kind : FindingKind
  tag : TagCode
  found : Option SectionId
  home : Option SectionId
  confidence : Option Confidence
  deriving DecidableEq, Repr

/-- An upstream record of the report queue (section 8.4). -/
inductive Record where
  | finding (f : Finding)
  | summary (r : Summary)
  | activity (p : Port) (reads hot : Nat)
  | passEnd (r : PassEnd)
  deriving DecidableEq, Repr

/-- A record in the report queue with its entry time on ULP's time base (R154). -/
structure QueuedRecord where
  record : Record
  entry : Nat
  deriving DecidableEq, Repr

/-- An upstream frame in transmission: kind, sequence tag and payload (section 11.1). -/
structure UpFrame where
  kind : Byte
  tag : Byte
  payload : List Byte
  deriving DecidableEq, Repr

/-- ULP's counters (R164), in the order of the table. -/
structure UlpCounters where
  goodFrames : Nat
  badLength : Nat
  badCrc : Nat
  mgmtOverrun : Nat
  replyLost : Nat
  activityDropped : Nat
  holdEpisodes : Nat
  sentFrames : Nat
  recordsSent : Nat
  deriving DecidableEq, Repr

/-- ULP's state (Chapter 8). `alerts` is the alert pending set, kept in the sending order of R161; `now` is ULP's
millisecond time base. -/
structure Ulp where
  rx : Rx
  mgmt : List MgmtFrame
  inHand : Option Exchange
  replies : List Reply
  reports : List QueuedRecord
  alerts : List Alert
  paused : Bool
  hold : Bool
  sending : Option UpFrame
  frameNumber : Nat
  now : Nat
  counters : UlpCounters
  deriving DecidableEq, Repr

/-! ### PAM and RHG (Chapter 10) -/

/-- PAM's window: a start time and an end time on the pass clock (section 10.1). -/
structure Window where
  start : Nat
  stop : Nat
  deriving DecidableEq, Repr

/-- PAM's state for one port (section 10.1). -/
structure PamPort where
  reads : Nat
  hot : Nat
  disqualified : Bool
  empty : Nat
  silent : Bool
  deriving DecidableEq, Repr

/-- PAM's state; a STOPPED window is `none`. -/
structure Pam where
  window : Option Window
  ports : Vector PamPort 16
  deriving DecidableEq, Repr

/-- RHG's state (section 10.3). `list` holds the holdings references of the current section's presentation list. -/
structure Rhg where
  run : RhgState
  pace : Option Nat
  displacement : Option Nat
  ordinal : Nat
  current : Option Nat
  list : List Nat
  sweeps : Nat
  deriving DecidableEq, Repr

/-! ### The whole device -/

/-- The state of the MC16: the twelve blocks, the parameters, the levels of the QHOLD and RESET lines, and the queue of
waiting commands, first in, first out. -/
structure State where
  params : Params
  links : Vector LinkState 4
  swg : Swg
  piq : Vector PortQueue 16
  scu : Scu
  mfu : Mfu
  tst : Tst
  spe : Spe
  sru : Sru
  psc : Psc
  ulp : Ulp
  pam : Pam
  rhg : Rhg
  qhold : Bool
  resetLine : Bool
  pending : List Instr
  deriving DecidableEq, Repr

/-! ### Power-on values -/

/-- Every parameter at its default (R169). -/
def Params.default : Params where
  periodA := 20
  periodB := 20
  assignLeft := .a
  assignRight := .b
  sweepMode := .free
  markerClass := 0xE1
  referenceClass := 0xE2
  readFloor := 40
  markerThreshold := 120
  minReads := 3
  confirmScore := 600
  margin := 300
  quietTime := 400
  orderTolerance := 3
  minTransit := 10
  calWindow := 16
  tNear := 200
  tFar := 80
  highMark := 448
  lowMark := 320
  flushTime := 50
  activityWindow := 1000
  hotThreshold := 220
  activityReporting := false

/-- A link after power-on (section 1.1). -/
def LinkState.reset : LinkState := ⟨.hunting, false, none, none, 0, 0, 0, 0, 0⟩

/-- SWG after power-on (section 1.2, R14). -/
def Swg.reset : Swg where
  genA := ⟨0, .stopped, none⟩
  genB := ⟨0, .stopped, none⟩
  runLeft := .a
  runRight := .b
  runMode := .free
  lastB := none
  bStarts := []
  endsAtB := false
  holdAlert := false

/-- PIQ's counters at 0 (R26). -/
def PiqCounters.zero : PiqCounters := ⟨0, 0, 0, 0⟩

/-- A port queue after power-on (R26). -/
def PortQueue.reset : PortQueue := ⟨[], .active, false, false, PiqCounters.zero⟩

/-- A port's SCU state after power-on (R28). -/
def ScuPort.reset : ScuPort := ⟨0, 1024, .notRun, ⟨0, none, 0, none⟩, 0, 0, 0, 0, 0⟩

/-- SCU after power-on (R28). -/
def Scu.reset : Scu := ⟨Vector.replicate 16 ScuPort.reset, true, 0, 0, 0, 0, none, none⟩

/-- A facing record after power-on (R59). -/
def FacingRecord.reset : FacingRecord := ⟨none, 0, false, .unknown⟩

/-- MFU's counters at 0 (R59). -/
def MfuCounters.zero : MfuCounters := ⟨0, 0, 0, 0, 0, 0, 0, 0⟩

/-- MFU after power-on (R59). -/
def Mfu.reset : Mfu := ⟨Vector.replicate 16 FacingRecord.reset, MfuCounters.zero⟩

/-- TST after power-on (R73). -/
def Tst.reset : Tst := ⟨[], []⟩

/-- SPE's counters at 0 (R101). -/
def SpeCounters.zero : SpeCounters := ⟨0, 0, 0, 0, 0, 0, 0, 0, 0, 0, 0, 0, 0, 0, 0, 0, 0, 0, 0, 0⟩

/-- SPE after power-on (R102). -/
def Spe.reset : Spe := ⟨[], 0, Vector.replicate 16 0, none, .idle, [], false, false, SpeCounters.zero⟩

/-- Finding tallies at 0 (R106). -/
def Tallies.zero : Tallies := ⟨0, 0, 0, 0, 0⟩

/-- SRU's counters at 0 (R123). -/
def SruCounters.zero : SruCounters := ⟨0, 0, 0, 0, 0, 0, 0, 0, 0, 0⟩

/-- SRU after power-on (R124). -/
def Sru.reset : Sru := ⟨[], false, none, [], SruCounters.zero⟩

/-- PSC's counters at 0 (R147). -/
def PscCounters.zero : PscCounters := ⟨0, 0, 0, 0, 0⟩

/-- PSC after power-on (R146). -/
def Psc.reset : Psc := ⟨.idle, .frontEnds, false, 0, none, .draining, 0, 0, 0, 0, none, PscCounters.zero⟩

/-- ULP's counters at 0 (R164). -/
def UlpCounters.zero : UlpCounters := ⟨0, 0, 0, 0, 0, 0, 0, 0, 0⟩

/-- ULP after power-on (R165). -/
def Ulp.reset : Ulp := ⟨.hunting, [], none, [], [], [], false, false, none, 0, 0, UlpCounters.zero⟩

/-- A port's PAM state after power-on (R186). -/
def PamPort.reset : PamPort := ⟨0, 0, false, 0, false⟩

/-- PAM after power-on (R186). -/
def Pam.reset : Pam := ⟨none, Vector.replicate 16 PamPort.reset⟩

/-- RHG after power-on (R191). -/
def Rhg.reset : Rhg := ⟨.idle, none, none, 0, none, [], 0⟩

/-- The MC16 right after power-on, with QHOLD and RESET released and no command waiting. -/
def State.reset : State where
  params := Params.default
  links := Vector.replicate 4 LinkState.reset
  swg := Swg.reset
  piq := Vector.replicate 16 PortQueue.reset
  scu := Scu.reset
  mfu := Mfu.reset
  tst := Tst.reset
  spe := Spe.reset
  sru := Sru.reset
  psc := Psc.reset
  ulp := Ulp.reset
  pam := Pam.reset
  rhg := Rhg.reset
  qhold := false
  resetLine := false
  pending := []

end Sys2Proof.Machine
end

