-- ==== Sys2Proof/Machine/Frames.lean ====
section
/-! DEFINITION. Frames on the links: the CRC-16, the receiver that hunts and collects, the envelope of an upstream frame, and
the byte layouts of the upstream records (Chapter 11). -/

namespace Sys2Proof.Machine

/-! ### CRC-16 (R192) -/

/-- The register after one data bit: it is shifted left and, when the bit leaving it differs from the data bit, exclusive-ORed
with 0x1021. -/
def crcBit (register : BitVec 16) (bit : Bool) : BitVec 16 :=
  if register.msb = bit then register <<< 1 else register <<< 1 ^^^ 0x1021#16

/-- The register after one byte, most significant bit first. -/
def crcByte (register : BitVec 16) (b : Byte) : BitVec 16 :=
  [7, 6, 5, 4, 3, 2, 1, 0].foldl (fun r i => crcBit r (b.getLsbD i)) register

/-- The CRC-16 of a list of bytes, from the register 0xFFFF, with no final inversion (R192). -/
def crc16 (bytes : List Byte) : BitVec 16 := bytes.foldl crcByte 0xFFFF#16

/-! ### Receiving (R1, R148) -/

/-- What one byte brings to an end: nothing yet, a length outside the link's range, or a frame with all its bytes from the
length through the CRC. -/
inductive RxEvent where
  | none
  | badLength
  | frame (got : List Byte)
  deriving DecidableEq, Repr

/-- The value of the length field, once both its bytes are in. -/
def rxLength (got : List Byte) : Nat := natOf (got.take 2)

/-- The receiver takes one byte: in HUNTING it looks for 0xA5, in RECEIVING it collects the length, then that many bytes more.
It returns to HUNTING whenever a frame is judged. -/
def rxByte (lengthOk : Nat → Bool) (rx : Rx) (b : Byte) : Rx × RxEvent :=
  match rx with
  | .hunting => (if b = 0xA5#8 then .receiving [] else .hunting, .none)
  | .receiving got =>
    let now := got ++ [b]
    if now.length < 2 then (.receiving now, .none)
    else if lengthOk (rxLength now) = false then (.hunting, .badLength)
    else if now.length < 2 + rxLength now then (.receiving now, .none)
    else (.hunting, .frame now)

/-- The CRC, computed over the bytes from the length through the payload, matches the CRC received. -/
def crcMatches (got : List Byte) : Bool :=
  decide (natOf (got.drop (got.length - 2)) = (crc16 (got.take (got.length - 2))).toNat)

/-- The kind byte of a collected frame (section 11.1). -/
def frameKind (got : List Byte) : Byte := got.getD 2 0

/-- The sequence tag of a collected frame (section 11.1). -/
def frameTag (got : List Byte) : Byte := got.getD 3 0

/-- The payload of a collected frame (section 11.1). -/
def framePayload (got : List Byte) : List Byte := (got.drop 4).take (got.length - 6)

/-- The kind code of READ (section 11.1). -/
def kindRead : Byte := 0x10

/-- The length of a READ frame is 19 (section 11.2). -/
def readLengthOk (n : Nat) : Bool := n == 19

/-- The length field of an uplink frame lies in 4 to 1,200 (R148). -/
def uplinkLengthOk (n : Nat) : Bool := decide (4 ≤ n) && decide (n ≤ 1200)

/-! ### The envelope (section 11.1) -/

/-- The bytes of a frame on the link: sync, length, kind, sequence tag, payload and CRC. -/
def wireBytes (kind tag : Byte) (payload : List Byte) : List Byte :=
  let body := bytesOf 2 (payload.length + 4) ++ kind :: tag :: payload
  0xA5 :: body ++ bytesOf 2 (crc16 body).toNat

/-- The kind code of SWEEP (section 11.1). -/
def kindSweep : Byte := 0x11

/-- The bytes of a SWEEP frame: sequence tag 0, the low 8 bits of the sweep number, the dwell (section 11.2). -/
def SweepFrame.wire (f : SweepFrame) : List Byte :=
  wireBytes kindSweep 0 [BitVec.ofNat 8 f.echo, BitVec.ofNat 8 f.dwell]

/-- The bytes of an upstream frame. -/
def UpFrame.wire (f : UpFrame) : List Byte := wireBytes f.kind f.tag f.payload

/-- The kind codes of the upstream frames (section 11.1). -/
def kindReply : Byte := 0x40

/-- The kind code of ALERT. -/
def kindAlert : Byte := 0x41

/-- The kind code of REPORT. -/
def kindReport : Byte := 0x42

/-! ### Codes and fields -/

/-- A flag is one byte, 0 or 1 (section 11.4). -/
def flagByte (b : Bool) : List Byte := [if b then 1 else 0]

/-- One byte with a value. -/
def oneByte (n : Nat) : List Byte := bytesOf 1 n

/-- A section ID or NONE: 0xFFFF for absent (Chapter 11). -/
def sectionBytes (x : Option SectionId) : List Byte :=
  match x with
  | none => bytesOf 2 0xFFFF
  | some n => bytesOf 2 n

/-- A four-byte item that may be absent: 0xFFFFFFFF for absent (section 11.4). -/
def optional4 (x : Option Nat) : List Byte :=
  match x with
  | none => bytesOf 4 0xFFFFFFFF
  | some n => bytesOf 4 n

/-- A mean: 0xFFFF for one not formed (section 11.4). -/
def meanBytes (x : Option Nat) : List Byte :=
  match x with
  | none => bytesOf 2 0xFFFF
  | some n => bytesOf 2 n

/-- The twelve bytes of a tag code. -/
def tagBytes (t : TagCode) : List Byte := bytesOf 12 t.toNat

/-- A tag code that may be absent: a presence byte, then 12 bytes, 0 when absent (section 11.4). -/
def optionalTag (t : Option TagCode) : List Byte :=
  match t with
  | none => 0 :: bytesOf 12 0
  | some t => 1 :: tagBytes t

/-- Four-byte counters, in order. -/
def counterBytes (counters : List Nat) : List Byte := counters.flatMap (bytesOf 4)

/-- The code of a result (section 11.4). -/
def ResultCode.code : ResultCode → Nat
  | .done => 0
  | .clamped => 1
  | .aborted => 2
  | .badState => 3
  | .badParam => 4
  | .badKind => 5
  | .emptyTable => 6
  | .tableFull => 7
  | .duplicate => 8
  | .badStatus => 9
  | .badClass => 10
  | .badLevel => 11

/-- The position of a pass state in its list, first = 0 (section 11.4); the same codes stand in a PASS-END's state at end. -/
def PassState.code : PassState → Nat
  | .idle => 0
  | .calibrating => 1
  | .preparing => 2
  | .scanning => 3
  | .settling => 4
  | .tallying => 5

/-- FRONT-ENDS 0, REHEARSAL 1. -/
def PassSource.code : PassSource → Nat
  | .frontEnds => 0
  | .rehearsal => 1

/-- UNKNOWN 0, FORWARD 1, REVERSE 2. -/
def Direction.code : Direction → Nat
  | .unknown => 0
  | .forward => 1
  | .reverse => 2

/-- A 0, B 1, OFF 2 (section 11.3). -/
def Assign.code : Assign → Nat
  | .a => 0
  | .b => 1
  | .off => 2

/-- FREE 0, INTERLEAVED 1 (section 11.3). -/
def SweepMode.code : SweepMode → Nat
  | .free => 0
  | .interleaved => 1

/-- ACTIVE 0, MUTED 1 (section 11.3). -/
def PortMode.code : PortMode → Nat
  | .active => 0
  | .muted => 1

/-- STOPPED, RUNNING, HELD by their position in the list of section 1.2. -/
def RunState.code : RunState → Nat
  | .stopped => 0
  | .running => 1
  | .held => 2

/-- NOT-RUN, OK, CLAMPED, FAILED by their position in the list of section 2.1. -/
def CalStatus.code : CalStatus → Nat
  | .notRun => 0
  | .ok => 1
  | .clamped => 2
  | .failed => 3

/-- DRAINING, PLACING, CLOSING-ALL by their position in PSC's state table. -/
def SettleStage.code : SettleStage → Nat
  | .draining => 0
  | .placing => 1
  | .closingAll => 2

/-- Absent, COMPLETE, SWEEP-LIMIT by their position in PSC's state table. -/
def endReasonCode : Option EndReason → Nat
  | none => 0
  | some .complete => 1
  | some .sweepLimit => 2

/-- HUNTING 0, RECEIVING 1, by their position in FLI's state table. -/
def Rx.code : Rx → Nat
  | .hunting => 0
  | .receiving _ => 1

/-- The kind byte of a FINDING (section 11.5). -/
def FindingKind.code : FindingKind → Nat
  | .found => 1
  | .outOfOrder => 2
  | .misshelved => 3
  | .statusConflict => 4
  | .foreign => 5
  | .missing => 6
  | .uncertain => 7

/-- FIRM 0, AMBIGUOUS 1, 0xFF absent (section 11.5). -/
def confidenceCode : Option Confidence → Nat
  | none => 0xFF
  | some .firm => 0
  | some .ambiguous => 1

/-- The reason byte of a PASS-END (section 11.5). -/
def PassEndReason.code : PassEndReason → Nat
  | .complete => 1
  | .sweepLimit => 2
  | .aborted => 3
  | .restart => 4

/-- The kind and subject bytes of an alert (section 11.5). -/
def Alert.bytes : Alert → List Byte
  | .portOverflow p => oneByte 1 ++ oneByte p.val
  | .portSilent p => oneByte 2 ++ oneByte p.val
  | .portStalled p => oneByte 3 ++ oneByte p.val
  | .linkError l => oneByte 4 ++ oneByte l.val
  | .sweepHold => oneByte 5 ++ oneByte 0xFF

/-! ### Counter lists, in the order of their tables -/

/-- R58. -/
def MfuCounters.toList (c : MfuCounters) : List Nat :=
  [c.markerReads, c.weakMarker, c.unmappedMarker, c.crossMarker, c.facingChanges, c.skips, c.reversals, c.referenceDropped]

/-- R101, the five PLACED counters in the order listed. -/
def SpeCounters.toList (c : SpeCounters) : List Nat :=
  [c.taken, c.unswept, c.errorTagged, c.late, c.settle, c.faint, c.noFacing, c.revisit, c.resight, c.shed, c.scored,
    c.newSightings, c.placedConfirm, c.placedQuiet, c.placedClose, c.placedSettle, c.placedEvict, c.moves, c.freezes,
    c.evictions]

/-- R123. -/
def SruCounters.toList (c : SruCounters) : List Nat :=
  [c.sectionsOpened, c.sectionsClosed, c.sectionEvictions, c.overfullItems, c.uncheckedSections, c.found, c.outOfOrder,
    c.misshelved, c.statusConflict, c.foreign]

/-- R147. -/
def PscCounters.toList (c : PscCounters) : List Nat :=
  [c.expectedTotal, c.unmapped, c.missing, c.uncertain, c.notCovered]

/-- R26: entered, overflow drops, held drops, purged (section 11.5). -/
def PiqCounters.toList (c : PiqCounters) : List Nat := [c.entered, c.overflowDrops, c.heldDrops, c.purged]

/-- R5. -/
def LinkState.counters (l : LinkState) : List Nat :=
  [l.goodFrames, l.badFrames, l.ignoredReads, l.sweepsSent, l.superseded]

/-- R164. -/
def UlpCounters.toList (c : UlpCounters) : List Nat :=
  [c.goodFrames, c.badLength, c.badCrc, c.mgmtOverrun, c.replyLost, c.activityDropped, c.holdEpisodes, c.sentFrames,
    c.recordsSent]

/-! ### Upstream records (section 11.5) -/

/-- The nineteen bytes of a FINDING. -/
def Finding.bytes (f : Finding) : List Byte :=
  oneByte 0x01 ++ oneByte f.kind.code ++ tagBytes f.tag ++ sectionBytes f.found ++ sectionBytes f.home ++
    oneByte (confidenceCode f.confidence)

/-- The flags byte of a SECTION-SUMMARY: bits 0 to 3 the flags, bits 5 and 4 the direction. -/
def Summary.flags (r : Summary) : Nat :=
  r.rushed.toNat + 2 * r.overfull.toNat + 4 * r.evicted.toNat + 8 * r.orderUnchecked.toNat + 16 * r.direction.code

/-- The sixteen bytes of a SECTION-SUMMARY. -/
def Summary.bytes (r : Summary) : List Byte :=
  oneByte 0x02 ++ bytesOf 2 r.sec ++ bytesOf 2 r.expected ++ bytesOf 2 r.tallies.foundHome ++
    bytesOf 2 r.tallies.outOfOrder ++ bytesOf 2 r.tallies.misshelvedIn ++ bytesOf 2 r.tallies.foreign ++
    bytesOf 2 r.tallies.conflict ++ oneByte r.flags

/-- The nine counts of R140 that stand apart in a PASS-END: expected, found-home, misshelved, missing, uncertain, not-covered,
foreign, conflict, unmapped. -/
def PassEnd.counts (r : PassEnd) : List Nat :=
  [r.psc.expectedTotal, r.sru.found + r.sru.outOfOrder, r.sru.misshelved, r.psc.missing, r.psc.uncertain, r.psc.notCovered,
    r.sru.foreign, r.sru.statusConflict, r.psc.unmapped]

/-- The 452 bytes of a PASS-END. -/
def PassEnd.bytes (r : PassEnd) : List Byte :=
  oneByte 0x04 ++ oneByte r.reason.code ++ oneByte r.stateAtEnd.code ++ oneByte r.source.code ++ bytesOf 4 r.clock ++
    counterBytes r.counts ++ counterBytes r.mfu.toList ++ counterBytes r.spe.toList ++ counterBytes r.sru.toList ++
    counterBytes (r.piq.toList.flatMap PiqCounters.toList)

/-- The bytes of an upstream record, opening with its type byte. -/
def Record.bytes : Record → List Byte
  | .finding f => f.bytes
  | .summary r => r.bytes
  | .activity p reads hot => oneByte 0x03 ++ oneByte p.val ++ bytesOf 2 reads ++ bytesOf 2 hot
  | .passEnd r => r.bytes

/-- The size of a record with its type byte (section 11.5). -/
def Record.size : Record → Nat
  | .finding _ => 19
  | .summary _ => 16
  | .activity _ _ _ => 6
  | .passEnd _ => 452

end Sys2Proof.Machine
end

