-- ==== Sys2Proof/Machine/Operands.lean ====
section
/-! DEFINITION. What the payload of a management request or a READ frame says: each field where Chapter 11 puts it. A payload
of another shape reads as `none`, and R167 refuses it. -/

namespace Sys2Proof.Machine

/-! ### Kinds (section 11.1) -/

/-- IDENTIFY. -/
def kindIdentify : Byte := 0x20

/-- SET-PARAM. -/
def kindSetParam : Byte := 0x21

/-- GET-PARAM. -/
def kindGetParam : Byte := 0x22

/-- READ-STATUS. -/
def kindReadStatus : Byte := 0x23

/-- RESET-PORT-QUEUES. -/
def kindResetPortQueues : Byte := 0x24

/-- LOAD-HOLDINGS. -/
def kindLoadHoldings : Byte := 0x25

/-- LOAD-SECTIONS. -/
def kindLoadSections : Byte := 0x26

/-- CLEAR-TABLES. -/
def kindClearTables : Byte := 0x27

/-- CALIBRATE. -/
def kindCalibrate : Byte := 0x28

/-- OPEN-PASS. -/
def kindOpenPass : Byte := 0x29

/-- REHEARSE. -/
def kindRehearse : Byte := 0x2A

/-- CLOSE-PASS. -/
def kindClosePass : Byte := 0x2B

/-- ABORT-PASS. -/
def kindAbortPass : Byte := 0x30

/-- RESTART. -/
def kindRestart : Byte := 0x31

/-- PAUSE. -/
def kindPause : Byte := 0x32

/-- RESUME. -/
def kindResume : Byte := 0x33

/-- The kind byte names a downstream exchange that waits in the management input queue (R150). -/
def kindKnown (k : Byte) : Bool := decide (0x20 ≤ k.toNat) && decide (k.toNat ≤ 0x2B)

/-! ### READ frames (section 11.2) -/

/-- The fields of a READ frame. -/
structure ReadFrame where
  group : Fin 4
  collision : Bool
  checkFailed : Bool
  tag : TagCode
  raw : Nat
  echo : Nat
  deriving DecidableEq, Repr

/-- The fields of a READ payload: bits 1 and 0 of the first byte are the port-in-group, bit 6 collision, bit 7 reply check
failed; then the tag code, the raw strength and the sweep echo. Bits 5 to 2 are ignored. -/
def readFields (payload : List Byte) : ReadFrame :=
  let first := payload.getD 0 0
  { group := ⟨first.toNat % 4, by omega⟩
    collision := first.getLsbD 6
    checkFailed := first.getLsbD 7
    tag := tagOf ((payload.drop 1).take 12)
    raw := (payload.getD 13 0).toNat
    echo := (payload.getD 14 0).toNat }

/-! ### Management requests (section 11.3) -/

/-- A 0 or 1 byte as no or yes; any other value names nothing (R167). -/
def yesNo (n : Nat) : Option Bool :=
  if n = 0 then some false else if n = 1 then some true else none

/-- SET-PARAM: parameter ID, port selector, value. -/
def setParamFields (payload : List Byte) : Option (Nat × Nat × Nat) :=
  if payload.length = 6 then some ((payload.getD 0 0).toNat, (payload.getD 1 0).toNat, natOf (payload.drop 2)) else none

/-- GET-PARAM: parameter ID, port selector. -/
def getParamFields (payload : List Byte) : Option (Nat × Nat) :=
  if payload.length = 2 then some ((payload.getD 0 0).toNat, (payload.getD 1 0).toNat) else none

/-- The five groups of READ-STATUS: PASS 1, PORTS 2, CALIBRATION 3, COUNTERS 4, LINKS 5. -/
inductive StatusGroup where
  | pass
  | ports
  | calibration
  | counters
  | links
  deriving DecidableEq, Repr

/-- READ-STATUS: the group; a group that is not one of the five names nothing (R172). -/
def statusGroup (payload : List Byte) : Option StatusGroup :=
  if payload.length = 1 then
    match (payload.getD 0 0).toNat with
    | 1 => some .pass
    | 2 => some .ports
    | 3 => some .calibration
    | 4 => some .counters
    | 5 => some .links
    | _ => none
  else none

/-- RESET-PORT-QUEUES: GLOBAL, or the mask of the named ports. -/
inductive ResetTarget where
  | named (mask : Nat)
  | global
  deriving DecidableEq, Repr

/-- RESET-PORT-QUEUES: mode 0 named or 1 GLOBAL, then the port mask. A request that names no port and not GLOBAL is refused
(R177). -/
def resetTarget (payload : List Byte) : Option ResetTarget :=
  if payload.length = 3 then
    match (payload.getD 0 0).toNat with
    | 0 => if natOf (payload.drop 1) = 0 then none else some (.named (natOf (payload.drop 1)))
    | 1 => some .global
    | _ => none
  else none

/-- The first `n` groups of `size` bytes. -/
def chunks (size : Nat) : Nat → List Byte → List (List Byte)
  | 0, _ => []
  | n + 1, bytes => bytes.take size :: chunks size n (bytes.drop size)

/-- A holdings record of 23 bytes. -/
def rawHolding (b : List Byte) : RawHolding :=
  ⟨tagOf (b.take 12), natOf ((b.drop 12).take 8), natOf ((b.drop 20).take 2), (b.getD 22 0).toNat⟩

/-- A section record of 4 bytes. -/
def rawSection (b : List Byte) : RawSection :=
  ⟨natOf (b.take 2), (b.getD 2 0).toNat, (b.getD 3 0).toNat⟩

/-- The blocks of `size`-byte records that a load frame carries: the payload must hold exactly as many as its count gives
(R167). -/
def loadBlock (size : Nat) (payload : List Byte) : Option (List (List Byte)) :=
  match payload with
  | [] => none
  | count :: rest => if rest.length = count.toNat * size then some (chunks size count.toNat rest) else none

/-- CLEAR-TABLES: which tables are named, holdings and sections. HOLDINGS 1, SECTIONS 2, BOTH 3 (R67). -/
def clearTarget (payload : List Byte) : Option (Bool × Bool) :=
  if payload.length = 1 then
    match (payload.getD 0 0).toNat with
    | 1 => some (true, false)
    | 2 => some (false, true)
    | 3 => some (true, true)
    | _ => none
  else none

/-- CALIBRATE: the NEAR and the FAR tag code. -/
def calibrateFields (payload : List Byte) : Option (TagCode × TagCode) :=
  if payload.length = 24 then some (tagOf (payload.take 12), tagOf (payload.drop 12)) else none

/-- OPEN-PASS: the verbose flag. -/
def openPassFields (payload : List Byte) : Option Bool :=
  if payload.length = 1 then yesNo (payload.getD 0 0).toNat else none

/-- REHEARSE: the pace, the displacement and the verbose flag. -/
def rehearseFields (payload : List Byte) : Option (Nat × Nat × Bool) :=
  if payload.length = 3 then
    match yesNo (payload.getD 2 0).toNat with
    | none => none
    | some verbose => some ((payload.getD 0 0).toNat, (payload.getD 1 0).toNat, verbose)
  else none

/-! ### Named values (section 11.3) -/

/-- A 0, B 1, OFF 2. -/
def assignOf : Nat → Option Assign
  | 0 => some .a
  | 1 => some .b
  | 2 => some .off
  | _ => none

/-- FREE 0, INTERLEAVED 1. -/
def modeOf : Nat → Option SweepMode
  | 0 => some .free
  | 1 => some .interleaved
  | _ => none

/-- ACTIVE 0, MUTED 1. -/
def portModeOf : Nat → Option PortMode
  | 0 => some .active
  | 1 => some .muted
  | _ => none

/-- SHELVED 1, REFERENCE 2, ON-LOAN 3, IN-TRANSIT 4, WITHDRAWN 5. -/
def statusOf : Nat → Option ItemStatus
  | 1 => some .shelved
  | 2 => some .reference
  | 3 => some .onLoan
  | 4 => some .inTransit
  | 5 => some .withdrawn
  | _ => none

/-- LEFT 0, RIGHT 1. -/
def sideOf : Nat → Option Side
  | 0 => some .left
  | 1 => some .right
  | _ => none

end Sys2Proof.Machine
end

