-- ==== Sys2Proof/Machine/Ops.lean ====
section
/-! DEFINITION. The named operations over State: one update per block, the tables of TST, the ports and links, and the
counters. -/

namespace Sys2Proof.Machine

/-! ### One update per block -/

/-- `s` with its `params` replaced. -/
def State.setParams (s : State) (v : Params) : State := { s with params := v }

/-- `s` with its `links` replaced. -/
def State.setLinks (s : State) (v : Vector LinkState 4) : State := { s with links := v }

/-- `s` with its `swg` replaced. -/
def State.setSwg (s : State) (v : Swg) : State := { s with swg := v }

/-- `s` with its `piq` replaced. -/
def State.setPiq (s : State) (v : Vector PortQueue 16) : State := { s with piq := v }

/-- `s` with its `scu` replaced. -/
def State.setScu (s : State) (v : Scu) : State := { s with scu := v }

/-- `s` with its `mfu` replaced. -/
def State.setMfu (s : State) (v : Mfu) : State := { s with mfu := v }

/-- `s` with its `tst` replaced. -/
def State.setTst (s : State) (v : Tst) : State := { s with tst := v }

/-- `s` with its `spe` replaced. -/
def State.setSpe (s : State) (v : Spe) : State := { s with spe := v }

/-- `s` with its `sru` replaced. -/
def State.setSru (s : State) (v : Sru) : State := { s with sru := v }

/-- `s` with its `psc` replaced. -/
def State.setPsc (s : State) (v : Psc) : State := { s with psc := v }

/-- `s` with its `ulp` replaced. -/
def State.setUlp (s : State) (v : Ulp) : State := { s with ulp := v }

/-- `s` with its `pam` replaced. -/
def State.setPam (s : State) (v : Pam) : State := { s with pam := v }

/-- `s` with its `rhg` replaced. -/
def State.setRhg (s : State) (v : Rhg) : State := { s with rhg := v }

/-- `s` with its `qhold` replaced. -/
def State.setQhold (s : State) (v : Bool) : State := { s with qhold := v }

/-- `s` with its `resetLine` replaced. -/
def State.setResetLine (s : State) (v : Bool) : State := { s with resetLine := v }

/-- `s` with its `pending` replaced. -/
def State.setPending (s : State) (v : List Instr) : State := { s with pending := v }

/-! ### Ports and links -/

/-- FLI's record of one link, updated. -/
def State.modLink (s : State) (l : Link) (f : LinkState → LinkState) : State := s.setLinks (modifyAt s.links l f)

/-- One port queue, updated. -/
def State.modPiq (s : State) (p : Port) (f : PortQueue → PortQueue) : State := s.setPiq (modifyAt s.piq p f)

/-- SCU's record of one port, updated. -/
def State.modScu (s : State) (p : Port) (f : ScuPort → ScuPort) : State :=
  s.setScu { s.scu with ports := modifyAt s.scu.ports p f }

/-- One facing record, updated. -/
def State.modFacing (s : State) (p : Port) (f : FacingRecord → FacingRecord) : State :=
  s.setMfu { s.mfu with ports := modifyAt s.mfu.ports p f }

/-- PAM's record of one port, updated. -/
def State.modPam (s : State) (p : Port) (f : PamPort → PamPort) : State :=
  s.setPam { s.pam with ports := modifyAt s.pam.ports p f }

/-- SPE's stale count of one port, set (R76). -/
def State.setStale (s : State) (p : Port) (n : Nat) : State :=
  s.setSpe { s.spe with stale := modifyAt s.spe.stale p (fun _ => n) }

/-- `f` run for the sixteen ports in ascending order. -/
def State.forPorts (s : State) (f : Port → State → State) : State := allPorts.foldl (fun t p => f p t) s

/-- `f` carried out `n` times. -/
def repeated (f : State → State) : Nat → State → State
  | 0, s => s
  | n + 1, s => repeated f n (f s)

/-! ### Counters -/

/-- MFU's pass counters, updated (R58). -/
def State.countMfu (s : State) (f : MfuCounters → MfuCounters) : State :=
  s.setMfu { s.mfu with counters := f s.mfu.counters }

/-- SPE's pass counters, updated (R101). -/
def State.countSpe (s : State) (f : SpeCounters → SpeCounters) : State :=
  s.setSpe { s.spe with counters := f s.spe.counters }

/-- SRU's pass counters, updated (R123). -/
def State.countSru (s : State) (f : SruCounters → SruCounters) : State :=
  s.setSru { s.sru with counters := f s.sru.counters }

/-- PSC's pass counters, updated (R147). -/
def State.countPsc (s : State) (f : PscCounters → PscCounters) : State :=
  s.setPsc { s.psc with counters := f s.psc.counters }

/-- ULP's counters, updated (R164). -/
def State.countUlp (s : State) (f : UlpCounters → UlpCounters) : State :=
  s.setUlp { s.ulp with counters := f s.ulp.counters }

/-! ### The pass -/

/-- A pass is open while the pass state is PREPARING, SCANNING, SETTLING or TALLYING (Chapter 7). -/
def PassState.isOpen : PassState → Bool
  | .idle => false
  | .calibrating => false
  | .preparing => true
  | .scanning => true
  | .settling => true
  | .tallying => true

/-- The pass clock counts in SCANNING, SETTLING and TALLYING (R126). -/
def PassState.clockRuns : PassState → Bool
  | .idle => false
  | .calibrating => false
  | .preparing => false
  | .scanning => true
  | .settling => true
  | .tallying => true

/-- Reads are classified, quiet expiries and quiet closes run in SCANNING and SETTLING (R125). -/
def PassState.takesReads : PassState → Bool
  | .idle => false
  | .calibrating => false
  | .preparing => false
  | .scanning => true
  | .settling => true
  | .tallying => false

/-! ### The tables of TST -/

/-- A record whose status is SHELVED or REFERENCE is expected (section 4.1). -/
def ItemStatus.isExpected : ItemStatus → Bool
  | .shelved => true
  | .reference => true
  | .onLoan => false
  | .inTransit => false
  | .withdrawn => false

/-- The holdings reference of the record whose tag code equals `tag` in all 96 bits, or NOT-HELD (R61). -/
def findHolding (holdings : List Holding) (tag : TagCode) : Option Nat := holdings.findIdx? (fun h => h.tag == tag)

/-- The mark of one holdings record, set (R68). -/
def setMark (holdings : List Holding) (ref : Nat) (m : Mark) : List Holding :=
  holdings.modify ref (fun h => { h with mark := m })

/-- The mark of the record an entry refers to, set; a NOT-HELD tag has no mark. -/
def State.mark (s : State) (ref : Option Nat) (m : Mark) : State :=
  match ref with
  | none => s
  | some r => s.setTst { s.tst with holdings := setMark s.tst.holdings r m }

/-- The number of holdings records with a mark: TST's mark tally (section 4.4). -/
def markTally (holdings : List Holding) (m : Mark) : Nat := holdings.countP (fun h => h.mark == m)

/-- The section record with an ID, or absent (R62). -/
def findSection (sections : List Section) (x : SectionId) : Option Section := sections.find? (fun y => y.id == x)

/-- The sequence index of a section (R62). -/
def sectionIndex (sections : List Section) (x : SectionId) : Option Nat := sections.findIdx? (fun y => y.id == x)

/-- The per-pass fields of one section, updated. -/
def State.modSection (s : State) (x : SectionId) (f : Section → Section) : State :=
  s.setTst { s.tst with sections := s.tst.sections.map (fun y => if y.id = x then f y else y) }

/-- A section is OPEN. -/
def State.sectionOpen (s : State) (x : SectionId) : Bool :=
  match findSection s.tst.sections x with
  | none => false
  | some y => y.state == .opened

/-- A section's placement list; a section absent from the table has none. -/
def State.listOf (s : State) (x : SectionId) : List Item :=
  match findSection s.tst.sections x with
  | none => []
  | some y => y.list

/-- An entry of the open-section list, updated. -/
def State.modOpen (s : State) (x : SectionId) (f : OpenSection → OpenSection) : State :=
  s.setSru { s.sru with openList := s.sru.openList.map (fun o => if o.sec = x then f o else o) }

/-- The open-section list entry of a section. -/
def findOpen (openList : List OpenSection) (x : SectionId) : Option OpenSection :=
  openList.find? (fun o => o.sec == x)

/-! ### The sighting table -/

/-- SPE's work in hand, set (R74). -/
def State.setWork (s : State) (w : Work) : State := s.setSpe { s.spe with work := w }

/-- SPE's item of work waits on SRU (R74). -/
def State.waiting (s : State) : Bool := s.spe.work != .idle

/-- A scored read counted (R86). -/
def State.countScored (s : State) : State := s.countSpe (fun c => { c with scored := sat32 c.scored 1 })

/-- A scored read has been dealt with: it is counted. While its item of work waits for room (R113), the counting is kept for the
end of the item, so that a read in hand stands in no outcome counter of SPE's (R99; DEDUCED, log entry 41). -/
def State.endScored (s : State) : State :=
  if s.waiting then s.setSpe { s.spe with scorePending := true } else s.countScored

/-- A wait for room is over: when the item of work has ended, a scored read kept for its end is counted (R99). -/
def State.endWait (s : State) : State :=
  if s.waiting = false ∧ s.spe.scorePending = true then (s.setSpe { s.spe with scorePending := false }).countScored else s

/-- The sighting table, replaced. -/
def State.setTable (s : State) (t : List Sighting) : State := s.setSpe { s.spe with table := t }

/-- The entry in a slot. -/
def entryAt (table : List Sighting) (slot : Nat) : Option Sighting := table.find? (fun e => e.slot == slot)

/-- The entry in a slot, updated. -/
def State.modEntry (s : State) (slot : Nat) (f : Sighting → Sighting) : State :=
  s.setTable (s.spe.table.map (fun e => if e.slot = slot then f e else e))

/-- The table without the entry in a slot: the slot is free. -/
def State.freeSlot (s : State) (slot : Nat) : State := s.setTable (s.spe.table.filter (fun e => e.slot != slot))

/-- The lowest slot from `n` that a table in ascending slot order leaves free. -/
def lowestFreeFrom : Nat → List Sighting → Nat
  | n, [] => n
  | n, e :: rest => if e.slot = n then lowestFreeFrom (n + 1) rest else n

/-- The lowest free slot (R82). -/
def lowestFree (table : List Sighting) : Nat := lowestFreeFrom 0 table

/-- An entry put in its place in ascending slot order. -/
def insertEntry (e : Sighting) : List Sighting → List Sighting
  | [] => [e]
  | x :: rest => if e.slot < x.slot then e :: x :: rest else x :: insertEntry e rest

/-! ### Queues -/

/-- Every port queue is empty. -/
def State.queuesEmpty (s : State) : Bool := s.piq.toList.all (fun q => q.queue.isEmpty)

/-- A port is held when QHOLD is asserted and its follows-global flag is set (section 1.4). -/
def State.portHeld (s : State) (p : Port) : Bool := s.qhold && s.piq[p].follows

end Sys2Proof.Machine
end

