-- ==== Sys2Proof/Machine/Flags.lean ====
section
/-! DEFINITION. The flags and queues that every block raises or fills: the alert pending set, the HOLD request with what it
does to SWG and PAM, the reply queue and the report queue. -/

namespace Sys2Proof.Machine

/-! ### Alerts (R158, R161) -/

/-- The place of an alert in the sending order of R161: kind order, then subject order. -/
def Alert.rank : Alert → Nat
  | .portOverflow p => p.val
  | .portSilent p => 16 + p.val
  | .portStalled p => 32 + p.val
  | .linkError l => 48 + l.val
  | .sweepHold => 52

/-- An alert put in its place in the pending set; an alert already pending adds nothing (R158). -/
def insertAlert (x : Alert) : List Alert → List Alert
  | [] => [x]
  | y :: rest => if x = y then y :: rest else if x.rank < y.rank then x :: y :: rest else y :: insertAlert x rest

/-- An alert posted to ULP's alert pending set (R158). -/
def State.postAlert (s : State) (x : Alert) : State := s.setUlp { s.ulp with alerts := insertAlert x s.ulp.alerts }

/-! ### Replies (R151, R152) -/

/-- A reply record is appended to the reply queue, or is lost as REPLY-LOST when the queue holds 8. -/
def State.queueReply (s : State) (r : Reply) : State :=
  if s.ulp.replies.length < Config.replyCapacity then s.setUlp { s.ulp with replies := s.ulp.replies ++ [r] }
  else s.countUlp (fun c => { c with replyLost := sat32 c.replyLost 1 })

/-! ### HOLD (R12, R156, R181) -/

/-- A RUNNING generator enters HELD when HOLD is requested (R12). -/
def GenState.withhold (g : GenState) : GenState := if g.run = .running then { g with run := .held } else g

/-- While a window runs, its disqualified flag is set for every port when HOLD is requested (R181). -/
def State.disqualifyAll (s : State) : State :=
  match s.pam.window with
  | none => s
  | some _ => s.setPam { s.pam with ports := mapAll (fun q => { q with disqualified := true }) s.pam.ports }

/-- While a window runs, the disqualified flag of one port is set (R181). -/
def State.disqualify (s : State) (p : Port) : State :=
  match s.pam.window with
  | none => s
  | some _ => s.modPam p (fun q => { q with disqualified := true })

/-- ULP requests HOLD: HOLD-EPISODES rises, every RUNNING generator enters HELD, and PAM disqualifies the window (R156, R12,
R181). -/
def State.requestHold (s : State) : State :=
  (((s.setUlp { s.ulp with hold := true }).countUlp
      (fun c => { c with holdEpisodes := sat32 c.holdEpisodes 1 })).setSwg
    { s.swg with genA := s.swg.genA.withhold, genB := s.swg.genB.withhold }).disqualifyAll

/-! ### The report queue (R154 to R156) -/

/-- A record appended to the report queue with its entry time (R154). -/
def State.appendRecord (s : State) (r : Record) : State :=
  s.setUlp { s.ulp with reports := s.ulp.reports ++ [⟨r, s.ulp.now⟩] }

/-- A write to the report queue: the record is appended, and HOLD is requested when the write raises the count to the high
mark while HOLD is not requested (R156). -/
def State.writeRecord (s : State) (r : Record) : State :=
  if s.ulp.hold = false ∧ s.ulp.reports.length + 1 = s.params.highMark then (s.appendRecord r).requestHold
  else s.appendRecord r

/-- A FINDING or SECTION-SUMMARY finds room when the queue holds fewer than 511 records (R118, R155). -/
def State.hasRoom (s : State) : Bool := decide (s.ulp.reports.length < Config.reportWaitMark)

/-- An ACTIVITY record is written below the high mark and dropped at or above it; at 511 it is dropped too (R155). -/
def State.writeActivity (s : State) (r : Record) : State :=
  if s.ulp.reports.length < s.params.highMark ∧ s.ulp.reports.length < Config.reportWaitMark then s.writeRecord r
  else s.countUlp (fun c => { c with activityDropped := sat32 c.activityDropped 1 })

end Sys2Proof.Machine
end

