-- ==== Sys2Proof/Machine/Piq.lean ====
section
/-! DEFINITION. The port ingress queues: arrivals, emptying, and the QHOLD line (section 1.4). -/

namespace Sys2Proof.Machine

/-- While the RESET line is asserted the device holds its power-on state and takes nothing (R145); otherwise the step is
made. -/
def live (s : State) (f : State → State) : Host.Outcome State Fault Refusal :=
  .next (if s.resetLine then s else f s)

/-- SPE waits: it has no item of work in hand, none is handed to it, and every port queue is empty (R75). -/
def State.speWaits (s : State) : Bool :=
  s.spe.work == .idle && s.spe.requests.isEmpty && !s.spe.settleRequest && s.queuesEmpty

/-- The first arrival at any queue ends SPE's wait, and that queue is taken from next (R75). -/
def State.wake (s : State) (p : Port) : State :=
  if s.speWaits then s.setSpe { s.spe with woken := some p } else s

/-- An overflow drop: the counter rises, and the first drop of an episode sets the flag and posts PORT-OVERFLOW (R20). -/
def State.overflowDrop (s : State) (p : Port) : State :=
  let t := s.modPiq p (fun q =>
    { q with episode := true, counters := { q.counters with overflowDrops := sat32 q.counters.overflowDrops 1 } })
  if s.piq[p].episode then t else t.postAlert (.portOverflow p)

/-- A read entry arriving at the queue of its port, from FLI or from RHG: the first case of R19 that applies. -/
def State.arrive (s : State) (e : ReadEntry) : State :=
  if s.piq[e.port].mode = .muted then s
  else if s.portHeld e.port then
    s.modPiq e.port (fun q => { q with counters := { q.counters with heldDrops := sat32 q.counters.heldDrops 1 } })
  else if Config.portQueueCapacity ≤ s.piq[e.port].queue.length then s.overflowDrop e.port
  else
    (s.wake e.port).modPiq e.port (fun q =>
      { q with queue := q.queue ++ [e], counters := { q.counters with entered := sat32 q.counters.entered 1 } })

/-- A queue reset of one port (R22): its entries are discarded and counted as purged, the episode flag is cleared, and the
port's stale count and carry-over count become 0 (R76, R32). -/
def State.emptyPort (s : State) (p : Port) : State :=
  let n := s.piq[p].queue.length
  let t := ((s.modPiq p (fun q =>
    { q with queue := [], episode := false, counters := { q.counters with purged := sat32 q.counters.purged n } })).setStale
      p 0).modScu p (fun c => { c with carryOver := 0 })
  if t.spe.woken = some p then t.setSpe { t.spe with woken := none } else t

/-- A port becomes held: PIQ empties its queue (R23, R24), and PAM disqualifies its window (R181). -/
def State.becomeHeld (s : State) (p : Port) : State := (s.emptyPort p).disqualify p

/-- QHOLD becomes asserted: every follows-global port becomes held (R24). -/
def qholdAssertStep (s : State) : State :=
  if s.qhold then s
  else (s.setQhold true).forPorts (fun p t => if t.piq[p].follows then t.becomeHeld p else t)

/-- QHOLD_ASSERT. The level of the line is an input: it changes while RESET is asserted too. -/
def execQholdAssert (s : State) : Host.Outcome State Fault Refusal :=
  .next (if s.resetLine then s.setQhold true else qholdAssertStep s)

/-- QHOLD_RELEASE: held ports stop being held (R24). -/
def execQholdRelease (s : State) : Host.Outcome State Fault Refusal := .next (s.setQhold false)

end Sys2Proof.Machine
end

