-- ==== Sys2Proof/Machine/Exchange.lean ====
section
/-! DEFINITION. Dispatch from the management input queue, replies, and the exchanges IDENTIFY, RESET-PORT-QUEUES and an unknown
kind (sections 8.2, 9.1, 9.2 and 9.5). -/

namespace Sys2Proof.Machine

/-! ### Dispatch (R150) -/

/-- The head frame is held back by its own deferral (R150, R128). -/
def State.heldBack (s : State) (f : MgmtFrame) : Bool :=
  let full := decide (Config.reportCapacity ≤ s.ulp.reports.length)
  if f.kind = kindOpenPass ∨ f.kind = kindRehearse then s.psc.state == .settling || s.psc.state == .tallying || full
  else if f.kind = kindCalibrate then full
  else false

/-- The frame that ULP may dispatch now: no exchange in hand, fewer than 8 replies, and a head that is not held back (R150). -/
def State.dispatchable (s : State) : Option MgmtFrame :=
  match s.ulp.mgmt with
  | [] => none
  | f :: _ =>
    if s.ulp.inHand = none ∧ s.ulp.replies.length < Config.replyCapacity ∧ s.heldBack f = false then some f else none

/-- The head frame has left the management input queue (R150). -/
def State.popMgmt (s : State) : State := s.setUlp { s.ulp with mgmt := s.ulp.mgmt.tail }

/-- The step that dispatches the head frame when `mine` says that the step is its own; otherwise nothing happens. -/
def State.dispatch (s : State) (mine : MgmtFrame → Bool) (act : MgmtFrame → State → State) : State :=
  match s.dispatchable with
  | none => s
  | some f => if mine f then act f s.popMgmt else s

/-- The frame is of a kind. -/
def ofKind (k : Byte) (f : MgmtFrame) : Bool := f.kind == k

/-- The reply to a dispatched frame: its tag and its kind, a result code and a payload (R151, R166). -/
def State.reply (s : State) (f : MgmtFrame) (r : ResultCode) (payload : List Byte) : State :=
  s.queueReply ⟨f.tag, f.kind, r, payload⟩

/-- A refusal: it changes no state and its payload is empty (R166). -/
def State.refuse (s : State) (f : MgmtFrame) (r : ResultCode) : State := s.reply f r []

/-! ### IDENTIFY (R168) -/

/-- The payload of IDENTIFY: part code, revision, then the twelve capacities in table order (R168, section 11.4). -/
def identifyPayload : List Byte :=
  bytesOf 2 Config.partCode ++ oneByte Config.revision ++
    [16, 4, Config.holdingsCapacity, Config.sectionCapacity, Config.sightingCapacity, Config.openCapacity,
      Config.placementCapacity, Config.portQueueCapacity, Config.reportCapacity, Config.replyCapacity, Config.mgmtCapacity,
      Config.parameterCount].flatMap (bytesOf 2)

/-- IDENTIFY: a payload that is not empty is refused (R167). -/
def identifyAct (f : MgmtFrame) (s : State) : State :=
  if f.payload = [] then s.reply f .done identifyPayload else s.refuse f .badParam

/-- IDENTIFY (R168). -/
def identifyStep (s : State) : State := s.dispatch (ofKind kindIdentify) identifyAct

/-! ### RESET-PORT-QUEUES (R22, R23, R177) -/

/-- The mask of the ports that satisfy `p`, bit p for port p. -/
def maskOf (p : Port → Bool) : Nat := (allPorts.map (fun q => if p q then 2 ^ q.val else 0)).sum

/-- The ports that satisfy `p` emptied, and the reply: the mask of ports emptied and the entries discarded per port. -/
def State.resetPorts (s : State) (f : MgmtFrame) (p : Port → Bool) : State :=
  (s.forPorts (fun q t => if p q then t.emptyPort q else t)).reply f .done
    (bytesOf 2 (maskOf p) ++ allPorts.flatMap (fun q => oneByte (if p q then s.piq[q].queue.length else 0)))

/-- RESET-PORT-QUEUES: the named ports, or every follows-global port with GLOBAL. -/
def resetPortQueuesAct (f : MgmtFrame) (s : State) : State :=
  match resetTarget f.payload with
  | none => s.refuse f .badParam
  | some (.named mask) => s.resetPorts f (fun q => mask.testBit q.val)
  | some .global => s.resetPorts f (fun q => s.piq[q].follows)

/-- The frame is a RESET-PORT-QUEUES that does not say GLOBAL (a refused one may be dispatched by either step). -/
def isNamedReset (f : MgmtFrame) : Bool := ofKind kindResetPortQueues f && resetTarget f.payload != some .global

/-- The frame is a RESET-PORT-QUEUES that names no ports by mask. -/
def isGlobalReset (f : MgmtFrame) : Bool :=
  ofKind kindResetPortQueues f &&
    match resetTarget f.payload with
    | some (.named _) => false
    | some .global => true
    | none => true

/-- RESET_PORT_QUEUES (R22). -/
def resetPortQueuesStep (s : State) : State := s.dispatch isNamedReset resetPortQueuesAct

/-- RESET_PORT_QUEUES_GLOBAL (R23). -/
def resetPortQueuesGlobalStep (s : State) : State := s.dispatch isGlobalReset resetPortQueuesAct

/-! ### BAD-KIND (R150) -/

/-- A frame of a kind that names no downstream exchange: the reply carries the kind byte received as its payload (R166). -/
def badKindAct (f : MgmtFrame) (s : State) : State := s.reply f .badKind [f.kind]

/-- BAD_KIND (R150). -/
def badKindStep (s : State) : State := s.dispatch (fun f => !kindKnown f.kind) badKindAct

/-- IDENTIFY. -/
def execIdentify (s : State) : Host.Outcome State Fault Refusal := live s identifyStep

/-- RESET_PORT_QUEUES. -/
def execResetPortQueues (s : State) : Host.Outcome State Fault Refusal := live s resetPortQueuesStep

/-- RESET_PORT_QUEUES_GLOBAL. -/
def execResetPortQueuesGlobal (s : State) : Host.Outcome State Fault Refusal := live s resetPortQueuesGlobalStep

/-- BAD_KIND. -/
def execBadKind (s : State) : Host.Outcome State Fault Refusal := live s badKindStep

end Sys2Proof.Machine
end

