-- ==== Sys2Proof/Machine/Settling.lean ====
section
/-! DEFINITION. Leaving SCANNING and entering TALLYING: what PSC stops and sets as the pass moves on (sections 7.3 and 7.4). -/

namespace Sys2Proof.Machine

/-- A generator stopped: STOPPED, with no scheduled start and its count kept (R7). -/
def GenState.halt (g : GenState) : GenState := { g with run := .stopped, nextStart := none }

/-- PSC stops the generators: both enter STOPPED and every scheduled start is cancelled (R7). -/
def State.stopGenerators (s : State) : State :=
  s.setSwg { s.swg with genA := s.swg.genA.halt, genB := s.swg.genB.halt, bStarts := [], endsAtB := false }

/-- PSC stops PAM's window; its counts stay as they stood (R181). -/
def State.stopWindow (s : State) : State := s.setPam { s.pam with window := none }

/-- RHG stops where it stands and enters IDLE (R190). -/
def State.stopRhg (s : State) : State := s.setRhg { s.rhg with run := .idle }

/-- The closing action of a pass in SCANNING: the end reason is set, the generators, PAM's window and RHG stop, and SETTLING is
entered in stage DRAINING (R133 to R135, R190). -/
def State.enterSettling (s : State) (reason : EndReason) : State :=
  let t := ((s.stopGenerators).stopWindow).stopRhg
  t.setPsc { t.psc with state := .settling, endReason := some reason, stage := .draining }

/-- A close by PSC itself, at the sweep limit, at the clock limit or by RHG: it has no effect outside SCANNING (R133, R134). -/
def State.internalClose (s : State) (reason : EndReason) : State :=
  if s.psc.state = .scanning then s.enterSettling reason else s

/-- On SRU's signal that every opened section is CLOSED, PSC takes close-all out of force, sets the tally position to 0 and
enters TALLYING (R136). -/
def State.enterTallying (s : State) : State :=
  let t := s.setSru { s.sru with closeAll := false }
  t.setPsc { t.psc with state := .tallying, tallyPosition := 0, tallyWait := none }

/-- SPE's item of work waits to open a section (R110). -/
def State.awaitsPlace (s : State) : Bool :=
  match s.spe.work with
  | .waitPlace _ => true
  | .waitRoom _ => false
  | .idle => false

/-- SRU signals PSC in SETTLING when close-all is in force and the open-section list is empty; an opening that waits for its
place keeps the signal back (R119, R120, R136). -/
def State.signalIfClosed (s : State) : State :=
  if s.psc.state = .settling ∧ s.sru.closeAll = true ∧ s.sru.openList = [] ∧ s.awaitsPlace = false then s.enterTallying
  else s

/-- CLOCK_LIMIT: the pass clock at its end in SCANNING closes the pass with reason SWEEP-LIMIT (R134). -/
def clockLimitStep (s : State) : State :=
  if s.psc.clock = Config.clockLimit then s.internalClose .sweepLimit else s

end Sys2Proof.Machine
end

