-- ==== Sys2Proof/Machine/Rhg.lean ====
section
/-! DEFINITION. The rehearsal generator: presentation lists, the cursor over the section table, and what it writes at a sweep
start (section 10.3). -/

namespace Sys2Proof.Machine

/-! ### The driving generator (R6) -/

/-- The generator that drives a side, from the assignment of the side and the sweep mode (R6). -/
def driverOf (mode : SweepMode) (assign : Assign) : Option Generator :=
  match mode, assign with
  | .free, .a => some .a
  | .free, .b => some .b
  | .free, .off => none
  | .interleaved, .a => some .a
  | .interleaved, .b => some .a
  | .interleaved, .off => none

/-- The assignment of a side in force for the run (R11). -/
def Swg.assign (w : Swg) : Side → Assign
  | .left => w.runLeft
  | .right => w.runRight

/-- The generator that drives a side in the run (R6, R11). -/
def Swg.driver (w : Swg) (side : Side) : Option Generator := driverOf w.runMode (w.assign side)

/-- A generator drives a side in the run. -/
def Swg.drives (w : Swg) (g : Generator) : Bool := w.driver .left == some g || w.driver .right == some g

/-! ### Presentation lists (R188) -/

/-- The expected records in load order, with their holdings references. -/
def expectedRecords (holdings : List Holding) : List (Holding × Nat) :=
  holdings.zipIdx.filter (fun h => h.1.status.isExpected)

/-- The section that follows a section in its level run: the one of the same side and level with the least sequence index
above (R188). -/
def nextInRun (sections : List Section) (x : SectionId) : Option Section :=
  match sectionIndex sections x, findSection sections x with
  | some i, some y => (sections.drop (i + 1)).find? (fun z => z.side == y.side && z.level == y.level)
  | _, _ => none

/-- The section in which the expected record of the given number is presented, if any (R188). -/
def presentedIn (sections : List Section) (d number : Nat) (h : Holding) : Option SectionId :=
  match findSection sections h.home with
  | none => none
  | some y => if d ≠ 0 ∧ number % d = 0 then (nextInRun sections h.home).map Section.id else some y.id

/-- A holdings reference put into a list in ascending sort key, behind the records of an equal key. -/
def insertByKey (x : Holding × Nat) : List (Holding × Nat) → List (Holding × Nat)
  | [] => [x]
  | y :: rest => if x.1.key < y.1.key then x :: y :: rest else y :: insertByKey x rest

/-- The presentation list of a section: the records presented there in ascending sort key, equal keys in load order (R188). -/
def presentationList (tst : Tst) (d : Nat) (x : SectionId) : List Nat :=
  let numbered := (expectedRecords tst.holdings).zipIdx
  let here := numbered.filter (fun h => presentedIn tst.sections d (h.2 + 1) h.1.1 == some x)
  (here.foldl (fun acc h => insertByKey h.1 acc) []).map Prod.snd

/-! ### The cursor (R189, R190) -/

/-- The first sequence index from `i` on whose section's side is driven in the run (R189). -/
def State.nextDriven (s : State) (i : Nat) : Option Nat :=
  ((s.tst.sections.zipIdx.drop i).find? (fun y => (s.swg.driver y.1.side).isSome)).map Prod.snd

/-- RHG takes the section of sequence index `i`, or the next whose side is driven, as current: it forms its presentation list
and sets the section sweep count to 0. When no section is left it enters IDLE, with no current section, and closes the pass
itself (R189, R190). With a displacement of 0 no record is numbered, and the displacement ordinal stands (R188, R191). DESIGN
CHOICE (log entry 26): with a displacement the ordinal is the number of expected records from the first list on, and at RHG's
own completion the presentation list and the section sweep count are emptied at once, not at the end of the pass. -/
def State.rhgTake (s : State) (i : Nat) : State :=
  match s.nextDriven i with
  | none =>
    (s.setRhg { s.rhg with run := .idle, current := none, list := [], sweeps := 0 }).internalClose .complete
  | some j =>
    let x := (s.tst.sections[j]?.map Section.id).getD 0
    s.setRhg { s.rhg with
      run := .presenting
      current := some j
      list := presentationList s.tst (s.rhg.displacement.getD 0) x
      ordinal :=
        if s.rhg.displacement.getD 0 = 0 then s.rhg.ordinal else (expectedRecords s.tst.holdings).length
      sweeps := 0 }

/-- The section RHG presents. -/
def State.rhgSection (s : State) : Option Section :=
  match s.rhg.run, s.rhg.current with
  | .presenting, some i => s.tst.sections[i]?
  | _, _ => none

/-- A synthetic read entry (R25): no error tag, never LATE, SETTLE in INTERLEAVED mode for sweeps 0 and 1. -/
def State.rhgEntry (s : State) (p : Port) (tag : TagCode) (raw sweep : Nat) : ReadEntry :=
  { port := p, tag := tag, raw := raw, sweep := some sweep, crcFail := false, collision := false,
    stamp := if s.swg.runMode = .interleaved ∧ sweep ≤ 1 then some .settle else none }

/-- The entry RHG writes with the section sweep count at `k`: the marker at 0, the k-th record at 1 to n, none above (R189). -/
def State.rhgRead (s : State) (y : Section) (sweep : Nat) : Option ReadEntry :=
  let p := portAt y.side y.level
  if s.rhg.sweeps = 0 then some (s.rhgEntry p (markerTag s.params.markerClass y.id) 255 sweep)
  else
    match s.rhg.list[s.rhg.sweeps - 1]? with
    | none => none
    | some ref =>
      match s.tst.holdings[ref]? with
      | none => none
      | some h => some (s.rhgEntry p h.tag 200 sweep)

/-- RHG acts at a sweep start of its current section's side: the entry arrives at the port queue and the section sweep count
rises (R189). -/
def State.rhgPresent (s : State) (y : Section) (sweep : Nat) : State :=
  let t := match s.rhgRead y sweep with
    | none => s
    | some e => s.arrive e
  t.setRhg { t.rhg with sweeps := t.rhg.sweeps + 1 }

/-- The span of the current section: max(P, n + 2) (R189). -/
def Rhg.span (r : Rhg) : Nat := max (r.pace.getD 0) (r.list.length + 2)

/-- The current section's side is at a sweep start. -/
def State.rhgFacing (s : State) (sides : List Side) : Option Section :=
  match s.rhgSection with
  | none => none
  | some y => if y.side ∈ sides then some y else none

/-- RHG at a sweep start of `sides`, when it is PRESENTING: it presents; a section whose span is reached is done and the next
is taken in the same action; when that one lies on a side at this start, its marker is written at once (R189). -/
def State.rhgAdvance (s : State) (sides : List Side) (sweep : Nat) : State :=
  match s.rhgFacing sides with
  | none => s
  | some y =>
    let t := s.rhgPresent y sweep
    if t.rhg.sweeps < t.rhg.span then t
    else
      let u := t.rhgTake (t.rhg.current.getD 0 + 1)
      match u.rhgFacing sides with
      | none => u
      | some z => u.rhgPresent z sweep

/-- RHG at a sweep start: it leaves WAITING at the first start of the pass that is not a settle sweep, in INTERLEAVED mode the
A start of sweep 2 (R189). -/
def State.rhgStart (s : State) (sides : List Side) (sweep : Nat) (isB : Bool) : State :=
  if s.rhg.run = .waiting then
    if s.swg.runMode = .free ∨ (isB = false ∧ 2 ≤ sweep) then (s.rhgTake 0).rhgAdvance sides sweep else s
  else s.rhgAdvance sides sweep

end Sys2Proof.Machine
end

