-- ==== Sys2Proof/Machine/Fli.lean ====
section
/-! DEFINITION. The front-end link interface: judging frames, the error latch, the read entry and its sweep stamp (sections 1.1
and 1.3). -/

namespace Sys2Proof.Machine

/-! ### Sweep stamps (R15 to R17) -/

/-- A generator's current sweep is its count less 1; there is none at count 0 (section 1.2). -/
def currentSweep (count : Nat) : Option Nat := if count = 0 then none else some (count - 1)

/-- The latest sweep of a side (R15). -/
def Swg.latestSweep (w : Swg) (side : Side) : Option Nat :=
  match w.driver side with
  | none => none
  | some g =>
    match w.runMode, side with
    | .interleaved, .right => w.lastB
    | _, _ =>
      match g with
      | .a => currentSweep w.genA.count
      | .b => currentSweep w.genB.count

/-- How far the greatest sweep number not above `s` whose low byte is `echo` lies below `s`: 0 to 255 (R16). -/
def stampDistance (s echo : Nat) : Nat := (s % 256 + 256 - echo % 256) % 256

/-- The full sweep number rebuilt from the echoed byte against the latest sweep, or `none` for a LATE entry (R16). -/
def rebuildSweep (latest : Option Nat) (echo : Nat) : Option Nat :=
  match latest with
  | none => none
  | some s => if stampDistance s echo ≤ s ∧ stampDistance s echo ≤ 3 then some (s - stampDistance s echo) else none

/-- The stamp tag of an entry: LATE without a full sweep number; SETTLE for sweeps 0 and 1 in INTERLEAVED mode (R16, R17). -/
def stampOf (mode : SweepMode) (full : Option Nat) : Option Stamp :=
  match full with
  | none => some .late
  | some s => if mode = .interleaved ∧ s ≤ 1 then some .settle else none

/-- The read entry FLI builds from a good READ frame (R3, R16, R17). -/
def State.readEntry (s : State) (l : Link) (f : ReadFrame) : ReadEntry :=
  let p := portOf l f.group
  let full := rebuildSweep (s.swg.latestSweep (portSide p)) f.echo
  { port := p, tag := f.tag, raw := f.raw, sweep := full, crcFail := f.checkFailed, collision := f.collision,
    stamp := stampOf s.swg.runMode full }

/-! ### Judging (R1 to R3) -/

/-- A frame judged bad: the counter rises and, on a clear latch, the latch is set and LINK-ERROR posted (R1, R2). -/
def State.judgeBad (s : State) (l : Link) : State :=
  let t := s.modLink l (fun k => { k with badFrames := sat32 k.badFrames 1, errorLatch := true })
  if s.links[l].errorLatch then t else t.postAlert (.linkError l)

/-- A frame judged good: the latch clears; in a rehearsal the frame is ignored, otherwise its read entry is delivered to the
queue of its port (R2, R3). -/
def State.judgeGood (s : State) (l : Link) (f : ReadFrame) : State :=
  match s.psc.source with
  | .rehearsal => s.modLink l (fun k => { k with errorLatch := false, ignoredReads := sat32 k.ignoredReads 1 })
  | .frontEnds =>
    (s.modLink l (fun k => { k with errorLatch := false, goodFrames := sat32 k.goodFrames 1 })).arrive (s.readEntry l f)

/-- A frame with all its bytes is good when its kind is READ and its CRC matches (R1); its length was tested as it came in. -/
def State.judgeFrame (s : State) (l : Link) (got : List Byte) : State :=
  if frameKind got = kindRead ∧ crcMatches got = true then s.judgeGood l (readFields (framePayload got)) else s.judgeBad l

/-- The link receives one byte (R1). -/
def State.frontEndByte (l : Link) (s : State) (b : Byte) : State :=
  let r := rxByte readLengthOk s.links[l].rx b
  let t := s.modLink l (fun k => { k with rx := r.1 })
  match r.2 with
  | .none => t
  | .badLength => t.judgeBad l
  | .frame got => t.judgeFrame l got

/-- FRONT_END_FRAME_JUDGED: the link receives the bytes, and each frame they bring to an end is judged (R1). -/
def frontEndFrameJudgedStep (l : Link) (bytes : List Byte) (s : State) : State := bytes.foldl (State.frontEndByte l) s

/-- FRONT_END_FRAME_JUDGED. -/
def execFrontEndFrameJudged (l : Link) (bytes : List Byte) (s : State) : Host.Outcome State Fault Refusal :=
  live s (frontEndFrameJudgedStep l bytes)

end Sys2Proof.Machine
end

