-- ==== Sys2Proof/Machine/Lines.lean ====
section
/-! DEFINITION. Power-on and the RESET line (R145). -/

namespace Sys2Proof.Machine

/-- Every block at its power-on value (R145). The levels of the two lines are inputs, and the commands that wait are not part of
the device. -/
def State.powerOnValues (s : State) : State :=
  ((State.reset.setQhold s.qhold).setResetLine s.resetLine).setPending s.pending

/-- POWER_ON. -/
def execPowerOn (s : State) : Host.Outcome State Fault Refusal := .next s.powerOnValues

/-- RESET_LINE: the line becomes asserted, and every block takes its power-on value. -/
def execResetLine (s : State) : Host.Outcome State Fault Refusal := .next (s.powerOnValues.setResetLine true)

/-- RESET_LINE_RELEASE: the line is released. -/
def execResetLineRelease (s : State) : Host.Outcome State Fault Refusal := .next (s.setResetLine false)

end Sys2Proof.Machine
end

