-- ==== Sys2Proof/Machine/Sections.lean ====
section
/-! DEFINITION. Section reconciliation: how a section opens, is left and entered, begins its close and enters CLOSING, and what
a finding is (sections 6.1 to 6.6). -/

namespace Sys2Proof.Machine

/-! ### Closing (R108, R111, R120) -/

/-- The close of an OPEN section begins: its stage becomes REQUESTED and SPE is handed a force-place and retire request for it
(R108). A section already REQUESTED, CLOSING or CLOSED is left alone. -/
def State.beginClose (s : State) (x : SectionId) : State :=
  match findOpen s.sru.openList x with
  | none => s
  | some o =>
    match o.stage with
    | .requested => s
    | .closing => s
    | .faced => (s.modOpen x (fun o => { o with stage := .requested })).setSpe { s.spe with requests := s.spe.requests ++ [x] }
    | .quiet => (s.modOpen x (fun o => { o with stage := .requested })).setSpe { s.spe with requests := s.spe.requests ++ [x] }

/-- SRU moves a section to CLOSING, behind those that wait for the reporter (R92 step 2, R111). -/
def State.enterClosing (s : State) (x : SectionId) : State :=
  let t := (s.modSection x (fun y => { y with state := .closing })).modOpen x (fun o => { o with stage := .closing })
  t.setSru { t.sru with closing := t.sru.closing ++ [x] }

/-- The close-all request: it comes into force, the close of every OPEN section begins in the order of the open-section list,
and SRU signals at once when no section is OPEN or CLOSING (R120). -/
def State.closeAllSections (s : State) : State :=
  (((s.sru.openList.map OpenSection.sec).foldl (fun t x => t.beginClose x)
      (s.setSru { s.sru with closeAll := true }))).signalIfClosed

/-! ### Opening, leaving and entering (R105 to R107, R47, R48) -/

/-- A section opens at the end of the open-section list, with the direction of the report; while close-all is in force its close
begins at once (R106, R120). -/
def State.openSection (s : State) (r : OpenRequest) : State :=
  let t := s.modSection r.sec (fun y => { y with state := .opened, direction := r.direction })
  let u := (t.setSru { t.sru with openList := t.sru.openList ++ [⟨r.sec, .faced, Tallies.zero, none⟩] }).countSru
    (fun c => { c with sectionsOpened := sat32 c.sectionsOpened 1 })
  if u.sru.closeAll then u.beginClose r.sec else u

/-- A direction that is UNKNOWN takes the move direction; FORWARD or REVERSE is kept (R47, R48). -/
def Direction.learn (held move : Direction) : Direction :=
  match held with
  | .unknown => move
  | .forward => .forward
  | .reverse => .reverse

/-- The stage of a section that is left: FACED becomes QUIET (R105). -/
def CloseStage.leave : CloseStage → CloseStage
  | .faced => .quiet
  | .quiet => .quiet
  | .requested => .requested
  | .closing => .closing

/-- The stage of a section that is entered again: QUIET becomes FACED (R106). -/
def CloseStage.enter : CloseStage → CloseStage
  | .faced => .faced
  | .quiet => .faced
  | .requested => .requested
  | .closing => .closing

/-- The section left of a report at the current pass clock time: an OPEN section takes unfaced-since, starts its quiet close,
and takes the direction and the RUSHED mark the report gives; the loss of a facing gives neither (R105, R107). R105 has no row
for a section that still waits UNVISITED for its place (R110): the model leaves it alone (DESIGN CHOICE, log entry 38). -/
def State.leaveSection (s : State) (x : SectionId) (move : Direction) (rushed : Bool) : State :=
  if s.sectionOpen x then
    (s.modSection x (fun y => { y with
      unfacedSince := some s.psc.clock, direction := y.direction.learn move, rushed := y.rushed || rushed })).modOpen x
      (fun o => { o with stage := o.stage.leave })
  else s

/-- An OPEN section entered again: its quiet close is cancelled, unless it is REQUESTED, and its direction is written by R47
(R106). -/
def State.reenterSection (s : State) (x : SectionId) (move : Direction) : State :=
  (s.modSection x (fun y => { y with unfacedSince := none, direction := y.direction.learn move })).modOpen x
    (fun o => { o with stage := o.stage.enter })

/-! ### Findings (R117, R118, R123) -/

/-- The kind and the home section field of a finding in section `x`, by the first row of R117 that applies. -/
def findingOf (holdings : List Holding) (ref : Option Nat) (x : SectionId) (flagged : Bool) :
    FindingKind × Option SectionId :=
  match ref.bind (fun r => holdings[r]?) with
  | none => (.foreign, none)
  | some h =>
    if h.status.isExpected = false then (.statusConflict, some h.home)
    else if h.home ≠ x then (.misshelved, some h.home)
    else if flagged then (.outOfOrder, some x)
    else (.found, some x)

/-- A finding tally, saturating at 65,535 (Chapter 6). -/
def sat16 (n : Nat) : Nat := satAdd Config.max16 n 1

/-- The finding tallies of a section raised for a finding (R118). -/
def Tallies.raise (t : Tallies) : FindingKind → Tallies
  | .found => { t with foundHome := sat16 t.foundHome }
  | .outOfOrder => { t with foundHome := sat16 t.foundHome, outOfOrder := sat16 t.outOfOrder }
  | .misshelved => { t with misshelvedIn := sat16 t.misshelvedIn }
  | .foreign => { t with foreign := sat16 t.foreign }
  | .statusConflict => { t with conflict := sat16 t.conflict }
  | .missing => t
  | .uncertain => t

/-- SRU's pass counter for the kind of a finding raised (R123). -/
def SruCounters.raise (c : SruCounters) : FindingKind → SruCounters
  | .found => { c with found := sat32 c.found 1 }
  | .outOfOrder => { c with outOfOrder := sat32 c.outOfOrder 1 }
  | .misshelved => { c with misshelved := sat32 c.misshelved 1 }
  | .foreign => { c with foreign := sat32 c.foreign 1 }
  | .statusConflict => { c with statusConflict := sat32 c.statusConflict 1 }
  | .missing => c
  | .uncertain => c

/-- The finding tally of the section and the pass counter for the kind are raised (R118). -/
def State.tallyFinding (s : State) (x : SectionId) (k : FindingKind) : State :=
  (s.modOpen x (fun o => { o with tallies := o.tallies.raise k })).countSru (fun c => c.raise k)

/-- A FOUND finding in a pass opened without the verbose flag is counted and not written (R118). -/
def State.writes (s : State) (k : FindingKind) : Bool := k != .found || s.psc.verbose

end Sys2Proof.Machine
end

