-- ==== Sys2Proof/Machine/Placement.lean ====
section
/-! DEFINITION. Placement of sighting entries: the lead and the FIRM test, the list item, a full list, early retire, eviction,
moves and freezing, and the force-place and retire request (sections 5.3 to 5.6, R110, R113). -/

namespace Sys2Proof.Machine

/-! ### Lead, margin and the FIRM test (R87, R89) -/

/-- The candidate with the highest score, the earliest added where scores tie. -/
def leadOf : List Candidate → Option Candidate
  | [] => none
  | c :: rest =>
    match leadOf rest with
    | none => some c
    | some d => if c.score < d.score then some d else some c

/-- The highest score among the candidates other than that of section `x`, or 0. -/
def runnerUp (candidates : List Candidate) (x : SectionId) : Nat :=
  (candidates.filter (fun c => c.sec != x)).foldl (fun m c => max m c.score) 0

/-- The lead score minus the runner-up score (R87). -/
def marginOf (candidates : List Candidate) : Nat :=
  match leadOf candidates with
  | none => 0
  | some c => c.score - runnerUp candidates c.sec

/-- The FIRM test (R89). -/
def firm (q : Params) (e : Sighting) : Bool := decide (q.minReads ≤ e.reads) && decide (q.margin ≤ marginOf e.candidates)

/-- The confidence the FIRM test gives (R89). -/
def confidenceOf (q : Params) (e : Sighting) : Confidence := if firm q e then .firm else .ambiguous

/-- The section of the lead. -/
def Sighting.leadSection (e : Sighting) : Option SectionId := (leadOf e.candidates).map Candidate.sec

/-- The candidate an entry holds for a section. -/
def Sighting.candidate (e : Sighting) (x : SectionId) : Option Candidate := e.candidates.find? (fun c => c.sec == x)

/-! ### List items (R88, R112) -/

/-- The list item of an entry: its slot, tag code, holdings reference, peak sweep, sort key and confidence (R88). -/
def itemOf (holdings : List Holding) (e : Sighting) (peak : Nat) (k : Confidence) : Item :=
  { slot := some e.slot, tag := e.tag, ref := e.ref, peak := peak,
    key := (e.ref.bind (fun r => holdings[r]?)).map Holding.key, confidence := k }

/-- An item added at the end of a section's list (R112). -/
def State.addItem (s : State) (x : SectionId) (i : Item) : State := s.modSection x (fun y => { y with list := y.list ++ [i] })

/-- The item of the entry in a slot taken out of a section's list; the items behind it close up (R112). -/
def State.removeItem (s : State) (x : SectionId) (slot : Nat) : State :=
  s.modSection x (fun y => { y with list := y.list.filter (fun i => i.slot != some slot) })

/-- The item of the entry in a slot, updated in a section's list (R86, R96, R98). -/
def State.modItem (s : State) (x : SectionId) (slot : Nat) (f : Item → Item) : State :=
  s.modSection x (fun y => { y with list := y.list.map (fun i => if i.slot = some slot then f i else i) })

/-- A list that holds 96 items takes no more (R113). -/
def State.listFull (s : State) (x : SectionId) : Bool := decide (Config.placementCapacity ≤ (s.listOf x).length)

/-! ### Placing (R88, R113) -/

/-- The placement counter of a route raised (R101). -/
def SpeCounters.route (c : SpeCounters) : Route → SpeCounters
  | .confirm => { c with placedConfirm := sat32 c.placedConfirm 1 }
  | .quiet => { c with placedQuiet := sat32 c.placedQuiet 1 }
  | .close => { c with placedClose := sat32 c.placedClose 1 }
  | .settle => { c with placedSettle := sat32 c.placedSettle 1 }
  | .evict => { c with placedEvict := sat32 c.placedEvict 1 }

/-- The end of an immediate disposition: the old list item of a moving entry goes, a held record becomes DISPOSED, and the
entry leaves the sighting table (R94, R113 step 5). -/
def State.finishDisposal (s : State) (slot : Nat) : State :=
  match entryAt s.spe.table slot with
  | none => s
  | some e =>
    let t := match e.placement with
      | none => s
      | some (y, _) => s.removeItem y slot
    (t.mark e.ref .disposed).freeSlot slot

/-- The FINDING record of an immediate disposition (R113, R117). -/
def Disposition.finding (d : Disposition) : Finding := ⟨d.kind, d.tag, some d.sec, d.home, some d.confidence⟩

/-- An immediate disposition into the full list of section `x` (R113): OVERFULL, the finding decided without an order check,
the tallies, the record written or only counted, and the record disposed of. At 511 records the item of work waits, with the
rest of it kept (R94). -/
def State.disposeFull (s : State) (x : SectionId) (e : Sighting) (k : Confidence) (rest : Continuation) : State :=
  let f := findingOf s.tst.holdings e.ref x false
  let d : Disposition := ⟨x, e.slot, f.1, e.tag, f.2, k, rest⟩
  let t := ((s.modSection x (fun y => { y with overfull := true })).countSru
    (fun c => { c with overfullItems := sat32 c.overfullItems 1 })).tallyFinding x f.1
  if s.writes f.1 = false then t.finishDisposal e.slot
  else if t.hasRoom then (t.writeRecord (.finding d.finding)).finishDisposal e.slot
  else t.setWork (.waitRoom d)

/-- The OPEN entry in a slot is placed in its lead section by a route, with the confidence of the FIRM test (R88, R89); a full
list disposes of it at once (R94). -/
def State.place (s : State) (slot : Nat) (r : Route) (rest : Continuation) : State :=
  match entryAt s.spe.table slot with
  | none => s
  | some e =>
    match leadOf e.candidates with
    | none => s
    | some c =>
      let k := confidenceOf s.params e
      let t := s.countSpe (fun n => n.route r)
      if s.listFull c.sec then t.disposeFull c.sec e k rest
      else
        ((t.addItem c.sec (itemOf s.tst.holdings e c.sweep k)).modEntry slot
          (fun e => { e with placement := some (c.sec, k) })).mark e.ref .placed

/-- Entries placed in ascending slot order; a placement that waits for room leaves the others for when the work goes on. -/
def State.placeMany (s : State) (slots : List Nat) (r : Route) (rest : Continuation) : State :=
  slots.foldl (fun t slot => if t.waiting then t else t.place slot r rest) s

/-- The slots of the OPEN entries that satisfy `p`, ascending. -/
def openSlots (table : List Sighting) (p : Sighting → Bool) : List Nat :=
  (table.filter (fun e => e.placement.isNone && p e)).map Sighting.slot

/-! ### Retiring (R92, R98) -/

/-- An entry is placed in section `x`. -/
def Sighting.placedIn (e : Sighting) (x : SectionId) : Bool :=
  match e.placement with
  | none => false
  | some (y, _) => y == x

/-- Step 3 of R92: each entry placed in section `x` leaves the sighting table, and its held record becomes DISPOSED. -/
def State.retireAll (s : State) (x : SectionId) : State :=
  let t := (s.spe.table.filter (fun e => e.placedIn x)).foldl (fun t e => t.mark e.ref .disposed) s
  t.setTable (s.spe.table.filter (fun e => !e.placedIn x))

/-- An early retire of the entry in a slot (R98): its list item stays with the sighting reference retired, its held record
becomes DISPOSED and the slot is free. -/
def State.earlyRetire (s : State) (slot : Nat) : State :=
  match entryAt s.spe.table slot with
  | none => s
  | some e =>
    match e.placement with
    | none => s
    | some (x, _) => ((s.modItem x slot (fun i => { i with slot := none })).mark e.ref .disposed).freeSlot slot

/-! ### The force-place and retire request (R92, R110) -/

/-- The rest of an opening at the open-section limit: SRU waits for a place (R110 step 2). -/
def State.awaitPlace (s : State) (after : Option OpenRequest) : State :=
  match after with
  | none => s
  | some r => s.setWork (.waitPlace r)

/-- The force-place and retire request for section `x`: step 1 in ascending slot order, then steps 2 and 3, then the wait of
R110 when an opening asked for the close. -/
def State.forcePlaceRun (s : State) (x : SectionId) (after : Option OpenRequest) : State :=
  let t := s.placeMany (openSlots s.spe.table (fun e => e.leadSection == some x)) .close (.forcePlace x after)
  if t.waiting then t else ((t.enterClosing x).retireAll x).awaitPlace after

/-- The settle request (R93): every OPEN entry is placed, after which PSC moves to CLOSING-ALL and hands SRU close-all
(R135, R120). -/
def State.settleRun (s : State) : State :=
  let t := s.placeMany (openSlots s.spe.table (fun _ => true)) .settle .settle
  if t.waiting then t
  else
    let u := t.setSpe { t.spe with settleRequest := false }
    (u.setPsc { u.psc with stage := .closingAll }).closeAllSections

/-- Room made at the open-section limit for the section of `r` (R110): the OPEN section open longest is flagged EVICTED and
closed within the item of work, then the opening waits for a place. -/
def State.makeRoom (s : State) (r : OpenRequest) : State :=
  match s.sru.openList.find? (fun o => o.stage != .closing) with
  | none => s.setWork (.waitPlace r)
  | some o =>
    let t := (s.modSection o.sec (fun y => { y with evicted := true })).modOpen o.sec
      (fun o => { o with stage := .requested })
    let u := (t.setSpe { t.spe with requests := t.spe.requests.erase o.sec }).countSru
      (fun c => { c with sectionEvictions := sat32 c.sectionEvictions 1 })
    u.forcePlaceRun o.sec (some r)

/-- The section entered of a report (R106), by its state; `move` is UNKNOWN for a first facing. -/
def State.enterSection (s : State) (x : SectionId) (move : Direction) : State :=
  match findSection s.tst.sections x with
  | none => s
  | some y =>
    match y.state with
    | .unvisited => if s.sru.openList.length < Config.openCapacity then s.openSection ⟨x, move⟩ else s.makeRoom ⟨x, move⟩
    | .opened => s.reenterSection x move
    | .closing => s
    | .closed => s

/-! ### Confirm, move and freeze (R90, R95, R96) -/

/-- The confirm test is met (R90). -/
def confirms (q : Params) (e : Sighting) : Bool :=
  firm q e &&
    match leadOf e.candidates with
    | none => false
    | some c => decide (q.confirmScore ≤ c.score)

/-- The confirm test of an OPEN entry after a scored read (R90). -/
def State.confirmTest (s : State) (slot : Nat) : State :=
  match entryAt s.spe.table slot with
  | none => s
  | some e => if confirms s.params e then s.place slot .confirm .done else s

/-- The move target of an entry placed in `x`: the other candidate with the highest score whose section is OPEN, the earliest
where scores tie (R95). -/
def State.moveTarget (s : State) (e : Sighting) (x : SectionId) : Option Candidate :=
  leadOf (e.candidates.filter (fun c => c.sec != x && s.sectionOpen c.sec))

/-- The move of the entry in a slot from section `x` to the section of `c` (R95); a full list disposes of it (R94). -/
def State.moveEntry (s : State) (e : Sighting) (x : SectionId) (c : Candidate) : State :=
  let k := confidenceOf s.params e
  let t := s.countSpe (fun n => { n with moves := sat32 n.moves 1 })
  if s.listFull c.sec then t.disposeFull c.sec e k .done
  else
    ((t.removeItem x e.slot).addItem c.sec (itemOf s.tst.holdings e c.sweep k)).modEntry e.slot
      (fun e => { e with placement := some (c.sec, k), moves := e.moves + 1 })

/-- A third overtake freezes the entry where it stands, AMBIGUOUS (R96). -/
def State.freeze (s : State) (e : Sighting) (x : SectionId) : State :=
  ((s.countSpe (fun n => { n with freezes := sat32 n.freezes 1 })).modEntry e.slot
    (fun e => { e with frozen := true, placement := some (x, .ambiguous) })).modItem x e.slot
    (fun i => { i with confidence := .ambiguous })

/-- The move test of a PLACED entry after a scored read (R95, R96). -/
def State.moveTest (s : State) (slot : Nat) : State :=
  match entryAt s.spe.table slot with
  | none => s
  | some e =>
    match e.placement with
    | none => s
    | some (x, _) =>
      if e.frozen then s
      else
        match s.moveTarget e x, e.candidate x with
        | some c, some held =>
          if held.score + s.params.margin ≤ c.score then
            if e.moves < 2 then s.moveEntry e x c else s.freeze e x
          else s
        | _, _ => s

/-! ### New entries and eviction (R82, R97) -/

/-- A new sighting entry in the lowest free slot, its record SIGHTED, then the confirm test; its read is a scored one
(R82, R86). -/
def State.makeEntry (s : State) (r : ItemRead) (ref : Option Nat) : State :=
  let slot := lowestFree s.spe.table
  let e : Sighting :=
    { slot := slot, tag := r.tag, ref := ref, candidates := [⟨r.sec, r.weight, r.strength, r.sweep⟩], reads := 1,
      lastRead := s.psc.clock, placement := none, moves := 0, frozen := false }
  ((((s.setTable (insertEntry e s.spe.table)).mark ref .sighted).countSpe
    (fun c => { c with newSightings := sat32 c.newSightings 1 })).confirmTest slot).endScored

/-- The entry with the oldest last-read time, the lower slot where times tie. -/
def oldestEntry : List Sighting → Option Sighting
  | [] => none
  | e :: rest =>
    match oldestEntry rest with
    | none => some e
    | some f => if f.lastRead < e.lastRead then some f else some e

/-- The victim of an eviction: the oldest OPEN entry, or the oldest PLACED one when every entry is PLACED (R97). -/
def victimOf (table : List Sighting) : Option Sighting :=
  match oldestEntry (table.filter (fun e => e.placement.isNone)) with
  | some e => some e
  | none => oldestEntry table

/-- A slot freed by eviction for the new entry of a read, which then takes it (R97). -/
def State.evictFor (s : State) (r : ItemRead) (ref : Option Nat) : State :=
  match victimOf s.spe.table with
  | none => s
  | some v =>
    let t := s.countSpe (fun c => { c with evictions := sat32 c.evictions 1 })
    let u := if v.placement.isNone then t.place v.slot .evict (.newEntry r ref) else t
    if u.waiting then u else (u.earlyRetire v.slot).makeEntry r ref

/-- A new entry is needed (R82): a slot is free, or one is freed first (R97). -/
def State.newEntry (s : State) (r : ItemRead) (ref : Option Nat) : State :=
  if s.spe.table.length < Config.sightingCapacity then s.makeEntry r ref else s.evictFor r ref

/-! ### The rest of an item of work (R113) -/

/-- The item of work goes on after an immediate disposition has found room. -/
def State.goOn (s : State) : Continuation → State
  | .done => s
  | .forcePlace x after => s.forcePlaceRun x after
  | .settle => s.settleRun
  | .newEntry r ref => s.makeEntry r ref

end Sys2Proof.Machine
end

