-- ==== Sys2Proof/Machine/Mfu.lean ====
section
/-! DEFINITION. The marker and facing unit: tag classes, marker reads, facing changes with their direction, cadence and skips,
and the loss of a facing (Chapter 3). -/

namespace Sys2Proof.Machine

/-- The three tag classes (R42). -/
inductive TagKind where
  | marker
  | reference
  | item
  deriving DecidableEq, Repr

/-- The class of a tag code under the two class parameters (R42). -/
def classify (q : Params) (t : TagCode) : TagKind :=
  if tagClass t = q.markerClass then .marker else if tagClass t = q.referenceClass then .reference else .item

/-- The move direction from sequence index `i` to sequence index `j` (R46). -/
def moveDirection (i j : Nat) : Direction := if i < j then .forward else .reverse

/-- The UNVISITED sections of a level run whose sequence indices lie strictly between two others (R53). -/
def skippedBetween (sections : List Section) (side : Side) (level i j : Nat) : Nat :=
  sections.zipIdx.countP (fun z => decide (min i j < z.2 ∧ z.2 < max i j)
    && z.1.side == side && z.1.level == level && z.1.state == .unvisited)

/-- A move direction that differs from a known last-move direction is a reversal (R49). -/
def isReversal (last move : Direction) : Bool := last != .unknown && last != move

/-- A facing change from section `x` to section `y` on a port (R46): the counters and the facing record, then the report to SRU,
the section left before the section entered. -/
def State.changeFacing (s : State) (p : Port) (x : SectionId) (y : Section) : State :=
  let f := s.mfu.ports[p]
  let i := (sectionIndex s.tst.sections x).getD 0
  let j := (sectionIndex s.tst.sections y.id).getD 0
  let move := moveDirection i j
  let rushed := decide (f.transit < s.params.minTransit) && s.sectionOpen x
  let skips := skippedBetween s.tst.sections y.side y.level i j
  let t := s.countMfu (fun c => { c with
    facingChanges := sat32 c.facingChanges 1
    skips := sat32 c.skips skips
    reversals := if isReversal f.lastMove move then sat32 c.reversals 1 else c.reversals })
  ((t.modFacing p (fun _ => ⟨some y.id, 0, false, move⟩)).leaveSection x move rushed).enterSection y.id move

/-- The first facing of a port whose facing is NONE (R55). -/
def State.firstFacing (s : State) (p : Port) (y : Section) : State :=
  let t := s.countMfu (fun c => { c with facingChanges := sat32 c.facingChanges 1 })
  (t.modFacing p (fun f => { f with facing := some y.id, transit := 0, stalled := false })).enterSection y.id .unknown

/-- An accepted marker for section `y` (R45, R46, R55). -/
def State.acceptMarker (s : State) (p : Port) (y : Section) : State :=
  match s.mfu.ports[p].facing with
  | none => s.firstFacing p y
  | some x => if x = y.id then s else s.changeFacing p x y

/-- What the tests of R44 make of a MARKER read of calibrated strength `c`. -/
def State.testMarker (s : State) (p : Port) (tag : TagCode) (c : Nat) : State :=
  if c < s.params.markerThreshold then s.countMfu (fun k => { k with weakMarker := sat32 k.weakMarker 1 })
  else
    match findSection s.tst.sections (tagSection tag) with
    | none => s.countMfu (fun k => { k with unmappedMarker := sat32 k.unmappedMarker 1 })
    | some y =>
      if y.side ≠ portSide p ∨ y.level ≠ portLevel p then
        s.countMfu (fun k => { k with crossMarker := sat32 k.crossMarker 1 })
      else s.acceptMarker p y

/-- A MARKER read of calibrated strength `c` reaches MFU: it counts in MARKER-READS, whatever becomes of it (R44, R58). -/
def State.markerRead (s : State) (p : Port) (tag : TagCode) (c : Nat) : State :=
  (s.countMfu (fun k => { k with markerReads := sat32 k.markerReads 1 })).testMarker p tag c

/-- A REFERENCE read taken in SCANNING or SETTLING is discarded and counted (R43). -/
def State.referenceRead (s : State) : State :=
  s.countMfu (fun k => { k with referenceDropped := sat32 k.referenceDropped 1 })

/-- A port's facing forced to NONE, with the report to SRU that its section has stopped being faced (R56, R107). When that
section still waits UNVISITED for its place (R110), the report changes nothing (DESIGN CHOICE, log entry 38). -/
def State.loseFacing (s : State) (p : Port) : State :=
  match s.mfu.ports[p].facing with
  | none => s
  | some x =>
    (s.modFacing p (fun f => { f with facing := none, transit := 0, stalled := false })).leaveSection x .unknown false

end Sys2Proof.Machine
end

