-- ==== Sys2Proof/Machine/Scu.lean ====
section
/-! DEFINITION. The strength calibration unit: conversion, the reads of a calibration run, and the outcome of the run
(Chapter 2). -/

namespace Sys2Proof.Machine

/-! ### Conversion (R27) -/

/-- The calibrated strength of a raw strength `r` under offset `o` and gain `g` (R27). -/
def convert (o : Int) (g : Nat) (r : Nat) : Nat :=
  if (r : Int) - o ≤ 0 then 0 else min 255 ((((r : Int) - o).toNat * g + 512) / 1024)

/-- The calibrated strength of a read, with its port's offset and gain as they stand (R27). -/
def State.strength (s : State) (e : ReadEntry) : Nat :=
  convert s.scu.ports[e.port].offset s.scu.ports[e.port].gain e.raw

/-! ### Reads of a run (R32, R33) -/

/-- A read whose count would rise past 65,535 is discarded under the over-count tally (R33). -/
def Scu.overCount (u : Scu) : Scu := { u with tallyOverCount := u.tallyOverCount + 1 }

/-- A NEAR reference read is added to the port's near accumulators (R33). -/
def Scu.addNear (u : Scu) (p : Port) (raw : Nat) : Scu :=
  if Config.max16 ≤ u.ports[p].nearCount then u.overCount
  else { u with ports := modifyAt u.ports p (fun c => { c with nearSum := c.nearSum + raw, nearCount := c.nearCount + 1 }) }

/-- A FAR reference read is added to the port's far accumulators (R33). -/
def Scu.addFar (u : Scu) (p : Port) (raw : Nat) : Scu :=
  if Config.max16 ≤ u.ports[p].farCount then u.overCount
  else { u with ports := modifyAt u.ports p (fun c => { c with farSum := c.farSum + raw, farCount := c.farCount + 1 }) }

/-- A read that reaches SCU while CALIBRATING and is not counted off, dealt with by its class and code (R33). -/
def Scu.accumulate (u : Scu) (referenceClass : Nat) (e : ReadEntry) : Scu :=
  if tagClass e.tag ≠ referenceClass then { u with tallyNonReference := u.tallyNonReference + 1 }
  else if u.nearTag = some e.tag then u.addNear e.port e.raw
  else if u.farTag = some e.tag then u.addFar e.port e.raw
  else { u with tallyOtherReference := u.tallyOtherReference + 1 }

/-- SPE hands SCU a read taken while CALIBRATING: a carried-over one is discarded under its tally (R32), the others are
accumulated (R33). -/
def State.scuRead (s : State) (carried : Bool) (e : ReadEntry) : State :=
  if carried then s.setScu { s.scu with tallyCarryOver := s.scu.tallyCarryOver + 1 }
  else s.setScu (s.scu.accumulate s.params.referenceClass e)

/-! ### Outcomes (R35 to R37) -/

/-- A mean that rounds half up; one whose count is 0 is not formed (R35). -/
def meanOf (sum count : Nat) : Option Nat := if count = 0 then none else some ((sum + count / 2) / count)

/-- The gain before its clamp, from the targets and the difference of the means (R36). -/
def rawGain (tNear tFar d : Nat) : Nat := ((tNear - tFar) * 1024 + d / 2) / d

/-- The offset before its clamp, from the FAR mean, the FAR target and the gain (R37). -/
def rawOffset (mFar tFar g : Nat) : Int := (mFar : Int) - (((tFar * 1024 + g / 2) / g : Nat) : Int)

/-- The last result of a calibrated port: its counts and the means that were formed (R35). -/
def ScuPort.result (c : ScuPort) : CalResult :=
  ⟨c.nearCount, meanOf c.nearSum c.nearCount, c.farCount, meanOf c.farSum c.farCount⟩

/-- A port that fails keeps its offset and gain (R35, R38). -/
def ScuPort.fail (c : ScuPort) : ScuPort := { c with status := .failed, last := c.result }

/-- A port whose two means part: the new gain and offset, clamped, with status OK or CLAMPED (R36, R37). -/
def ScuPort.fit (c : ScuPort) (tNear tFar mNear mFar : Nat) : ScuPort :=
  let g0 := rawGain tNear tFar (mNear - mFar)
  let g := clampNat 256 4095 g0
  let o0 := rawOffset mFar tFar g
  let o := clampInt (-128) 127 o0
  { c with offset := o, gain := g, last := c.result, status := if g = g0 ∧ o = o0 then .ok else .clamped }

/-- The outcome of a calibrated port with a window of `n` sweeps (R35 to R38). -/
def ScuPort.outcome (c : ScuPort) (n tNear tFar : Nat) : ScuPort :=
  if c.nearCount < n / 2 ∨ c.farCount < n / 2 then c.fail
  else
    match meanOf c.nearSum c.nearCount, meanOf c.farSum c.farCount with
    | some mNear, some mFar => if mNear ≤ mFar then c.fail else c.fit tNear tFar mNear mFar
    | _, _ => c.fail

/-- A port that was not calibrated keeps its offset and gain (R38). -/
def ScuPort.notCalibrated (c : ScuPort) : ScuPort := { c with status := .notRun, last := ⟨0, none, 0, none⟩ }

/-- The port's accumulators and carry-over count at 0, their value outside a calibration run (R28). -/
def ScuPort.clearRun (c : ScuPort) : ScuPort :=
  { c with nearSum := 0, nearCount := 0, farSum := 0, farCount := 0, carryOver := 0 }

/-! ### The end of a run (R34, R38, R40) -/

/-- The port is calibrated in the run: its side is driven by a generator (R30). -/
def State.portDriven (s : State) (p : Port) : Bool := (s.swg.driver (portSide p)).isSome

/-- The outcome of one port at completion (R34, R38). -/
def State.portOutcome (s : State) (p : Port) (c : ScuPort) : ScuPort :=
  (if s.portDriven p then c.outcome s.params.calWindow s.params.tNear s.params.tFar else c.notCalibrated).clearRun

/-- A port whose status clears CAL-PASS: FAILED or CLAMPED (R38). -/
def ScuPort.spoils (c : ScuPort) : Bool := c.status == .failed || c.status == .clamped

/-- The results of all ports applied together (R38). -/
def State.applyOutcomes (s : State) : State := s.forPorts (fun p t => t.modScu p (s.portOutcome p))

/-- The windows of all calibrated sides have closed and every port queue is empty (R34). -/
def State.calibrationDone (s : State) : Bool :=
  s.psc.state == .calibrating && s.swg.genA.run == .stopped && s.swg.genB.run == .stopped && s.spe.work == .idle
    && s.queuesEmpty

/-- CALIBRATION_COMPLETE (R34). PSC stops the generators, which cancels a B start that is still scheduled (R7). -/
def calibrationCompleteStep (s : State) : State :=
  if s.calibrationDone then
    let t := (s.applyOutcomes).stopGenerators
    let u := t.setScu { t.scu with
      nearTag := none, farTag := none, calPass := t.scu.calPass && !(t.scu.ports.toList.any ScuPort.spoils) }
    u.setPsc { u.psc with state := .idle }
  else s

/-- A calibration run ended by ABORT-PASS or RESTART (R40); the generators are stopped and PASS-END is written by PSC. -/
def State.abandonCalibration (s : State) : State :=
  s.setScu { s.scu with ports := mapAll ScuPort.clearRun s.scu.ports, nearTag := none, farTag := none, calPass := false }

/-- CALIBRATION_COMPLETE. -/
def execCalibrationComplete (s : State) : Host.Outcome State Fault Refusal := live s calibrationCompleteStep

end Sys2Proof.Machine
end

