-- ==== Sys2Proof/Machine/Pam.lean ====
section
/-! DEFINITION. The port activity monitor: windows, the reports SPE hands it, ACTIVITY records and silence (sections 10.1 and
10.2). -/

namespace Sys2Proof.Machine

/-- The tests of a window start (R181): MUTED, held, a side driven by no generator, or HOLD requested. -/
def State.startsDisqualified (s : State) (p : Port) : Bool :=
  s.piq[p].mode == .muted || s.portHeld p || !s.portDriven p || s.ulp.hold

/-- A window starts at a pass clock time (R181): it ends W later, the counts are 0 and each port's disqualified flag is as the
start tests give it. -/
def State.startWindow (s : State) (start : Nat) : State :=
  (s.setPam { s.pam with window := some ⟨start, start + s.params.activityWindow⟩ }).forPorts
    (fun p t => t.modPam p (fun q => { q with reads := 0, hot := 0, disqualified := s.startsDisqualified p }))

/-- SPE's report of a read taken from a port (R182). -/
def State.pamReport (s : State) (p : Port) (c : Nat) : State :=
  let t := s.modPam p (fun q => if q.silent then { q with silent := false, empty := 0 } else q)
  match t.pam.window with
  | none => t
  | some _ =>
    t.modPam p (fun q => { q with
      reads := sat16 q.reads, hot := if s.params.hotThreshold ≤ c then sat16 q.hot else q.hot })

/-- The ACTIVITY record of one port at a window end (R183). -/
def State.activityOf (s : State) (p : Port) : State :=
  if s.piq[p].mode = .active ∧ 0 < s.pam.ports[p].reads then
    s.writeActivity (.activity p s.pam.ports[p].reads s.pam.ports[p].hot)
  else s

/-- The ACTIVITY records of a window end, in ascending port order, while activity reporting is on (R183). -/
def State.writeActivities (s : State) : State :=
  if s.params.activityReporting then s.forPorts (fun p t => t.activityOf p) else s

/-- A port falls SILENT (R185): the flag, the alert and the loss of its facing. -/
def State.fallSilent (s : State) (p : Port) : State :=
  (((s.modPam p (fun q => { q with empty := 4, silent := true })).postAlert (.portSilent p))).loseFacing p

/-- One port's window judged (R184). -/
def State.judgeWindow (s : State) (p : Port) : State :=
  let q := s.pam.ports[p]
  if q.silent then s.modPam p (fun q => { q with empty := 4 })
  else if 0 < q.reads ∨ q.disqualified = true then s.modPam p (fun q => { q with empty := 0 })
  else if 4 ≤ q.empty + 1 then s.fallSilent p
  else s.modPam p (fun q => { q with empty := q.empty + 1 })

/-- ACTIVITY_WINDOW_END (R183 to R185): the records, the judgement of each port, and the next window from the end time just
reached. -/
def activityWindowEndStep (s : State) : State :=
  match s.pam.window with
  | none => s
  | some w =>
    if w.stop ≤ s.psc.clock then (s.writeActivities.forPorts (fun p t => t.judgeWindow p)).startWindow w.stop else s

/-- ACTIVITY_WINDOW_END. -/
def execActivityWindowEnd (s : State) : Host.Outcome State Fault Refusal := live s activityWindowEndStep

end Sys2Proof.Machine
end

