-- ==== Sys2Proof/Machine/Spe.lean ====
section
/-! DEFINITION. The sighting and placement engine: the round robin, the intake tests, item reads and scoring, and SPE's other
items of work (sections 5.1, 5.2 and 5.4). -/

namespace Sys2Proof.Machine

/-! ### The round robin (R75) -/

/-- The ports in the order pointer, pointer + 1, and so on up to 15, then 0 and upward. -/
def ringFrom (p : Port) : List Port := allPorts.drop p.val ++ allPorts.take p.val

/-- The port after a port: 0 after 15. -/
def nextPointer (p : Port) : Port := ⟨(p.val + 1) % 16, by omega⟩

/-- A port has an entry to take. -/
def State.hasEntry (s : State) (p : Port) : Bool := !s.piq[p].queue.isEmpty

/-- The port taken from next: the one whose arrival ended SPE's wait, else the first non-empty one in the round robin
(R75). -/
def State.takePort (s : State) : Option Port :=
  match s.spe.woken with
  | none => (ringFrom s.spe.pointer).find? s.hasEntry
  | some p => if s.hasEntry p then some p else (ringFrom s.spe.pointer).find? s.hasEntry

/-! ### Work that comes before a read (R74, R91) -/

/-- An OPEN entry whose last-read time plus Q satisfies `due` against the pass clock. -/
def State.expiryIf (s : State) (due : Nat → Nat → Bool) : Option Sighting :=
  if s.psc.state.takesReads then
    s.spe.table.find? (fun e => e.placement.isNone && due (e.lastRead + s.params.quietTime) s.psc.clock)
  else none

/-- SPE has no item of work in hand and no request waits for it. -/
def State.speFree (s : State) : Bool := s.spe.work == .idle && s.spe.requests.isEmpty && !s.spe.settleRequest

/-- SPE may take a read: no other item of work comes first. An expiry that falls at this very time may come before or after
the read (R91). -/
def State.mayTake (s : State) : Bool := s.speFree && (s.expiryIf (fun t now => decide (t < now))).isNone

/-! ### Scoring (R79 to R86) -/

/-- SPE's pass counters rise while a pass is open (R77). -/
def State.countOpen (s : State) (f : SpeCounters → SpeCounters) : State := if s.psc.state.isOpen then s.countSpe f else s

/-- The sighting entry with a tag code (R81). -/
def entryOf (table : List Sighting) (t : TagCode) : Option Sighting := table.find? (fun e => e.tag == t)

/-- A candidate raised by a scored read: the score saturates, and a stronger read gives peak and peak sweep (R84). -/
def Candidate.raise (c : Candidate) (r : ItemRead) : Candidate :=
  if c.peak < r.strength then { c with score := satAdd Config.max16 c.score r.weight, peak := r.strength, sweep := r.sweep }
  else { c with score := satAdd Config.max16 c.score r.weight }

/-- The candidate with the lowest score, the one added later where scores tie (R85). -/
def lowestOf : List Candidate → Option Candidate
  | [] => none
  | c :: rest =>
    match lowestOf rest with
    | none => some c
    | some d => if d.score ≤ c.score then some d else some c

/-- The candidate a read makes (R82, R85). -/
def ItemRead.candidate (r : ItemRead) : Candidate := ⟨r.sec, r.weight, r.strength, r.sweep⟩

/-- The candidates that may be replaced: all but that of the placed section (R85). -/
def Sighting.replaceable (e : Sighting) : List Candidate :=
  match e.placement with
  | none => e.candidates
  | some (x, _) => e.candidates.filter (fun c => c.sec != x)

/-- The candidate list after a scored read, or `none` when the read is SHED (R84, R85). -/
def Sighting.scored (e : Sighting) (r : ItemRead) : Option (List Candidate) :=
  match e.candidate r.sec with
  | some _ => some (e.candidates.map (fun c => if c.sec = r.sec then c.raise r else c))
  | none =>
    if e.candidates.length < 3 then some (e.candidates ++ [r.candidate])
    else
      match lowestOf e.replaceable with
      | none => none
      | some low =>
        if low.score < r.weight then some (e.candidates.filter (fun c => c.sec != low.sec) ++ [r.candidate]) else none

/-- The peak sweep of the placed candidate written into the list item of a PLACED entry (R86). -/
def State.writePeak (s : State) (e : Sighting) : State :=
  match e.placement with
  | none => s
  | some (x, _) =>
    match e.candidate x with
    | none => s
    | some c => s.modItem x e.slot (fun i => { i with peak := c.sweep })

/-- A scored read of an existing entry (R84 to R86), then the confirm or the move test; a SHED read changes nothing but its
counter. -/
def State.scoreEntry (s : State) (e : Sighting) (r : ItemRead) : State :=
  match e.scored r with
  | none => s.countSpe (fun c => { c with shed := sat32 c.shed 1 })
  | some list =>
    let e' := { e with candidates := list, reads := sat16 e.reads, lastRead := s.psc.clock }
    let t := (s.modEntry e.slot (fun _ => e')).writePeak e'
    match e.placement with
    | none => (t.confirmTest e.slot).endScored
    | some _ => (t.moveTest e.slot).endScored

/-- The holdings record of a tag is DISPOSED (R81). -/
def State.disposed (s : State) (ref : Option Nat) : Bool :=
  match ref.bind (fun r => s.tst.holdings[r]?) with
  | none => false
  | some h => h.mark == .disposed

/-- A read that passed R80 (R81): a DISPOSED record is a RESIGHT; a tag with an entry is scored; any other tag gets a new
entry. A held record has an entry exactly when its mark is SIGHTED or PLACED (law of marks and sightings), so the search by
tag code finds the record's existing entry. -/
def State.sight (s : State) (r : ItemRead) : State :=
  let ref := findHolding s.tst.holdings r.tag
  if s.disposed ref then s.countSpe (fun c => { c with resight := sat32 c.resight 1 })
  else
    match entryOf s.spe.table r.tag with
    | some e => s.scoreEntry e r
    | none => s.newEntry r ref

/-- An ITEM read of calibrated strength `c` (R79, R80). -/
def State.itemRead (s : State) (e : ReadEntry) (c : Nat) : State :=
  if c ≤ s.params.readFloor then s.countSpe (fun k => { k with faint := sat32 k.faint 1 })
  else
    match s.mfu.ports[e.port].facing with
    | none => s.countSpe (fun k => { k with noFacing := sat32 k.noFacing 1 })
    | some x =>
      if s.sectionOpen x then s.sight ⟨e.tag, x, c - s.params.readFloor, c, e.sweep.getD 0⟩
      else s.countSpe (fun k => { k with revisit := sat32 k.revisit 1 })

/-! ### Intake (R77, R78) -/

/-- What the intake tests decide (R77). -/
inductive Intake where
  /-- Test 1. -/
  | drop
  /-- Tests 2 and 3. -/
  | unswept
  /-- Test 4. -/
  | errorTagged
  /-- Tests 5 and 7. -/
  | late
  /-- Test 6. -/
  | settle
  /-- Test 8. -/
  | toScu
  /-- Test 9. -/
  | classify
  deriving DecidableEq, Repr

/-- The tests of R77 that do not depend on the pass state alone: the error tags, the stamp tags and the driven side, then
`last`. -/
def tagTests (e : ReadEntry) (driven : Bool) (last : Intake) : Intake :=
  if e.crcFail ∨ e.collision then .errorTagged
  else
    match e.stamp with
    | some .late => .late
    | some .settle => .settle
    | none => if driven then last else .late

/-- The first test of R77 that applies. -/
def intake (state : PassState) (stale driven : Bool) (e : ReadEntry) : Intake :=
  match state with
  | .idle => .drop
  | .preparing => .unswept
  | .tallying => .unswept
  | .calibrating => if stale then .unswept else tagTests e driven .toScu
  | .scanning => if stale then .unswept else tagTests e driven .classify
  | .settling => if stale then .unswept else tagTests e driven .classify

/-- A read that passed the intake tests in SCANNING or SETTLING, by its class (R78, R42). -/
def State.classifyRead (s : State) (e : ReadEntry) : State :=
  match classify s.params e.tag with
  | .marker => s.markerRead e.port e.tag (s.strength e)
  | .reference => s.referenceRead
  | .item => s.itemRead e (s.strength e)

/-- The outcome of the intake tests carried out (R77). -/
def State.takeIn (s : State) (e : ReadEntry) (carried : Bool) : Intake → State
  | .drop => s
  | .unswept => s.countOpen (fun c => { c with unswept := sat32 c.unswept 1 })
  | .errorTagged => s.countOpen (fun c => { c with errorTagged := sat32 c.errorTagged 1 })
  | .late => s.countOpen (fun c => { c with late := sat32 c.late 1 })
  | .settle => s.countOpen (fun c => { c with settle := sat32 c.settle 1 })
  | .toScu => s.scuRead carried e
  | .classify => s.classifyRead e

/-- The oldest entry leaves the queue of its port: the overflow episode ends, the pointer moves on, the wait is over, and the
stale and carry-over counts of the port fall (R18, R20, R75, R76, R32). -/
def State.dequeue (s : State) (p : Port) : State :=
  let t := (s.modPiq p (fun q => { q with queue := q.queue.tail, episode := false })).setSpe
    { s.spe with pointer := nextPointer p, woken := none }
  let u := t.setStale p (t.spe.stale[p] - 1)
  if s.psc.state = .calibrating then u.modScu p (fun c => { c with carryOver := c.carryOver - 1 }) else u

/-- SPE takes an entry (R77, R78): the queue, TAKEN, the report to PAM, then the intake tests. -/
def State.takeEntry (s : State) (e : ReadEntry) : State :=
  let stale := decide (0 < s.spe.stale[e.port])
  let carried := decide (0 < s.scu.ports[e.port].carryOver)
  let t := ((s.dequeue e.port).countOpen (fun c => { c with taken := sat32 c.taken 1 })).pamReport e.port (s.strength e)
  t.takeIn e carried (intake s.psc.state stale (s.portDriven e.port) e)

/-- READ_TAKE (R75, R77). An entry stands in the queue of its own port (R19), so it is taken from that port. -/
def readTakeStep (s : State) : State :=
  if s.mayTake then
    match s.takePort with
    | none => s
    | some p =>
      match s.piq[p].queue with
      | [] => s
      | e :: _ => s.takeEntry { e with port := p }
  else s

/-! ### SPE's other items of work (R91 to R93), and what ends a wait on SRU (R110, R113) -/

/-- QUIET_EXPIRY (R91): the due entry in the lowest slot is placed. -/
def quietExpiryStep (s : State) : State :=
  if s.speFree then
    match s.expiryIf (fun t now => decide (t ≤ now)) with
    | none => s
    | some e => s.place e.slot .quiet .done
  else s

/-- FORCE_PLACE_AND_RETIRE (R92): the request handed earliest is taken. -/
def forcePlaceAndRetireStep (s : State) : State :=
  match s.spe.work, s.spe.requests with
  | .idle, x :: rest => (s.setSpe { s.spe with requests := rest }).forcePlaceRun x none
  | _, _ => s

/-- SETTLE (R93). -/
def settleStep (s : State) : State :=
  if s.spe.work = .idle ∧ s.spe.requests = [] ∧ s.spe.settleRequest = true then s.settleRun else s

/-- OVERFULL_FINDING_WRITE (R113): room has come for the finding that SPE's item of work waits with. -/
def overfullFindingWriteStep (s : State) : State :=
  match s.spe.work with
  | .waitRoom d =>
    if s.hasRoom then
      ((((s.setWork .idle).writeRecord (.finding d.finding)).finishDisposal d.slot).goOn d.rest).endWait
    else s
  | .idle => s
  | .waitPlace _ => s

/-- SECTION_OPEN_AFTER_WAIT (R110 step 3): a place has come free, and the section opens, FACED by R106 even where its port has
lost its facing during the wait (DESIGN CHOICE, log entry 38). Any place free among the 32 serves, also one freed while the
victim's close still waited for room in step 1 (DESIGN CHOICE, log entry 43). -/
def sectionOpenAfterWaitStep (s : State) : State :=
  match s.spe.work with
  | .waitPlace r =>
    if s.sru.openList.length < Config.openCapacity then (s.setWork .idle).openSection r else s
  | .idle => s
  | .waitRoom _ => s

/-- The quiet close of a section has fallen due (R109). -/
def State.quietDue (s : State) (o : OpenSection) : Bool :=
  s.psc.state.takesReads && o.stage == .quiet &&
    match (findSection s.tst.sections o.sec).bind Section.unfacedSince with
    | none => false
    | some t => decide (t + s.params.quietTime ≤ s.psc.clock)

/-- QUIET_CLOSE (R109). -/
def quietCloseStep (x : SectionId) (s : State) : State :=
  match findOpen s.sru.openList x with
  | none => s
  | some o => if s.quietDue o then s.beginClose x else s

/-- DRAIN_COMPLETE (R135): SPE has no item of work in hand and finds every port queue empty, and PSC hands it the settle request.
Force-place and retire requests that wait for SPE do not keep it back (DESIGN CHOICE, log entry 39); R74 puts them before the
settle request. -/
def drainCompleteStep (s : State) : State :=
  if s.psc.state = .settling ∧ s.psc.stage = .draining ∧ s.spe.work = .idle ∧ s.queuesEmpty = true then
    (s.setPsc { s.psc with stage := .placing }).setSpe { s.spe with settleRequest := true }
  else s

/-- READ_TAKE. -/
def execReadTake (s : State) : Host.Outcome State Fault Refusal := live s readTakeStep

/-- QUIET_EXPIRY. -/
def execQuietExpiry (s : State) : Host.Outcome State Fault Refusal := live s quietExpiryStep

/-- FORCE_PLACE_AND_RETIRE. -/
def execForcePlaceAndRetire (s : State) : Host.Outcome State Fault Refusal := live s forcePlaceAndRetireStep

/-- SETTLE. -/
def execSettle (s : State) : Host.Outcome State Fault Refusal := live s settleStep

/-- OVERFULL_FINDING_WRITE. -/
def execOverfullFindingWrite (s : State) : Host.Outcome State Fault Refusal := live s overfullFindingWriteStep

/-- SECTION_OPEN_AFTER_WAIT. -/
def execSectionOpenAfterWait (s : State) : Host.Outcome State Fault Refusal := live s sectionOpenAfterWaitStep

/-- QUIET_CLOSE. -/
def execQuietClose (x : SectionId) (s : State) : Host.Outcome State Fault Refusal := live s (quietCloseStep x)

/-- DRAIN_COMPLETE. -/
def execDrainComplete (s : State) : Host.Outcome State Fault Refusal := live s drainCompleteStep

end Sys2Proof.Machine
end

