-- ==== Sys2Proof/Machine/Swg.lean ====
section
/-! DEFINITION. The sweep generators: what a scheduled start does, how PSC starts both generators and how a release of HOLD
starts them again (section 1.2), with the SWEEP frames FLI takes from them (R4) and the transit counters (R50, R52). -/

namespace Sys2Proof.Machine

/-! ### SWEEP frames on the links (R4) -/

/-- FLI takes a SWEEP frame for a link: it begins at once on an idle transmitter, else it waits, and it replaces a frame
already waiting (R4). -/
def LinkState.hand (l : LinkState) (f : SweepFrame) : LinkState :=
  match l.sending, l.waiting with
  | none, _ => { l with sending := some f }
  | some _, none => { l with waiting := some f }
  | some _, some _ => { l with waiting := some f, superseded := sat32 l.superseded 1 }

/-- SWG hands FLI one SWEEP frame for each link of a side, while the source is FRONT-ENDS; with the source REHEARSAL it hands
none (R8, R10, R187). -/
def State.sendSweep (s : State) (side : Side) (sweep dwell : Nat) : State :=
  if s.psc.source = .frontEnds then
    (sideLinks side).foldl (fun t l => t.modLink l (fun k => k.hand ⟨sweep % 256, dwell⟩)) s
  else s

/-! ### Transit (R50, R52) -/

/-- A port's transit counter at a sweep start of its side in SCANNING: it rises while the port faces a section and holds at
4,095, where the stall flag is set and, for an ACTIVE port, PORT-STALLED is posted (R50, R52). -/
def State.countTransit (s : State) (p : Port) : State :=
  let f := s.mfu.ports[p]
  if s.psc.state = .scanning ∧ f.facing.isSome = true ∧ f.transit < Config.transitLimit then
    if f.transit + 1 = Config.transitLimit then
      let t := s.modFacing p (fun r => { r with transit := r.transit + 1, stalled := true })
      if s.piq[p].mode = .active then t.postAlert (.portStalled p) else t
    else s.modFacing p (fun r => { r with transit := r.transit + 1 })
  else s

/-- A sweep start on the given sides: their transit counters, then RHG (R50, R189). -/
def State.sweepStarted (s : State) (sides : List Side) (sweep : Nat) (isB : Bool) : State :=
  (s.forPorts (fun p t => if portSide p ∈ sides then t.countTransit p else t)).rhgStart sides sweep isB

/-! ### Generators -/

/-- The state of one generator. -/
def Swg.gen (w : Swg) : Generator → GenState
  | .a => w.genA
  | .b => w.genB

/-- The state of one generator, replaced. -/
def Swg.setGen (w : Swg) (g : Generator) (v : GenState) : Swg :=
  match g with
  | .a => { w with genA := v }
  | .b => { w with genB := v }

/-- One generator, updated. -/
def State.modGen (s : State) (g : Generator) (f : GenState → GenState) : State :=
  s.setSwg (s.swg.setGen g (f (s.swg.gen g)))

/-- The period in force of a generator (R9). -/
def Params.period (q : Params) : Generator → Nat
  | .a => q.periodA
  | .b => q.periodB

/-- The window end count of a generator in a calibration run: N in FREE mode and N + 2 in INTERLEAVED mode for a generator that
drives a side, 0 for one that drives none (R30, R178). -/
def windowEnd (q : Params) (w : Swg) (g : Generator) : Nat :=
  if w.drives g then
    match w.runMode with
    | .free => q.calWindow
    | .interleaved => q.calWindow + 2
  else 0

/-- A start withheld (R12): the schedule goes on by the period, and the first withheld start of a HOLD episode posts one
SWEEP-HOLD. The period is the one in force at the withheld start, so a change made while HELD (R9) spaces the withheld starts
behind it (DESIGN CHOICE, log entry 45). -/
def State.withholdStart (s : State) (g : Generator) : State :=
  let t := s.modGen g (fun v => { v with nextStart := some (s.ulp.now + s.params.period g) })
  if t.swg.holdAlert then t else (t.setSwg { t.swg with holdAlert := true }).postAlert .sweepHold

/-- The sides a FREE generator is assigned to in the run. -/
def Swg.sidesOf (w : Swg) (g : Generator) : List Side :=
  (if w.driver .left = some g then [Side.left] else []) ++ (if w.driver .right = some g then [Side.right] else [])

/-- A sweep start in FREE mode (R8): SWEEP frames for each side assigned to the generator, the count raised, the next start one
period later. -/
def State.freeStart (s : State) (g : Generator) : State :=
  let n := (s.swg.gen g).count
  let p := s.params.period g
  let t := (s.swg.sidesOf g).foldl (fun t side => t.sendSweep side n (p - 1)) s
  (t.modGen g (fun v => { v with count := n + 1, nextStart := some (s.ulp.now + p) })).sweepStarted (s.swg.sidesOf g) n false

/-- An A start in INTERLEAVED mode (R10): the LEFT frames, the count raised, the B start of the sweep h ms later and the next A
start one period later. -/
def State.interleavedStart (s : State) : State :=
  let n := s.swg.genA.count
  let p := s.params.periodA
  let h := p / 2
  let left := if s.swg.runLeft = .off then [] else [Side.left]
  let t := left.foldl (fun t side => t.sendSweep side n (h - 1)) s
  (t.setSwg { t.swg with
    genA := { t.swg.genA with count := n + 1, nextStart := some (s.ulp.now + p) }
    bStarts := t.swg.bStarts ++ [⟨s.ulp.now + h, n, p - h - 1⟩] }).sweepStarted left n false

/-- The B start of generator A's last sweep is still to be made (R31). -/
def Swg.lastBWaits (w : Swg) : Bool := w.bStarts.any (fun b => b.sweep + 1 == w.genA.count)

/-- The calibration window of a generator ends at the time of its next start: it enters STOPPED, in INTERLEAVED mode not before
the B start of its last sweep (R31). -/
def State.endWindow (s : State) (g : Generator) : State :=
  if s.swg.runMode = .interleaved ∧ s.swg.lastBWaits = true then
    (s.modGen g (fun v => { v with nextStart := none })).setSwg
      { (s.modGen g (fun v => { v with nextStart := none })).swg with endsAtB := true }
  else s.modGen g GenState.halt

/-- The time of a generator's start: it is not made at the end of a calibration window (R31) or at the sweep limit, which
signals PSC (R13); it is withheld while the generator is HELD (R12); otherwise it is made (R8, R10). -/
def State.attemptStart (s : State) (g : Generator) : State :=
  if s.psc.state = .calibrating ∧ windowEnd s.params s.swg g ≤ (s.swg.gen g).count then s.endWindow g
  else if Config.sweepLimit ≤ (s.swg.gen g).count then (s.modGen g GenState.halt).internalClose .sweepLimit
  else
    match (s.swg.gen g).run with
    | .stopped => s
    | .held => s.withholdStart g
    | .running =>
      match s.swg.runMode with
      | .free => s.freeStart g
      | .interleaved => s.interleavedStart

/-- A start of a generator that is not STOPPED. -/
def State.startIfActive (s : State) (g : Generator) : State :=
  if (s.swg.gen g).run = .stopped then s else s.attemptStart g

/-- A generator started by PSC enters RUNNING, or HELD while HOLD is requested; one that drives no side stays STOPPED (R7). -/
def startedRun (w : Swg) (hold : Bool) (g : Generator) : RunState :=
  if w.drives g then (if hold then .held else .running) else .stopped

/-- The side assignment and sweep mode in force when PSC starts the generators decide the whole run (R11). -/
def State.latchRun (s : State) : State :=
  s.setSwg { s.swg with
    runLeft := s.params.assignLeft, runRight := s.params.assignRight, runMode := s.params.sweepMode }

/-- PSC starts both generators (R7): a RUNNING generator makes its first start at once, a HELD one counts its first start as
withheld (R12). -/
def State.startGenerators (s : State) : State :=
  let t := s.latchRun
  let u := t.setSwg { t.swg with
    genA := { t.swg.genA with run := startedRun t.swg t.ulp.hold .a }
    genB := { t.swg.genB with run := startedRun t.swg t.ulp.hold .b } }
  (u.startIfActive .a).startIfActive .b

/-- A start at the release of HOLD, made by a generator that was HELD. -/
def State.releaseStart (s : State) (held : Bool) (g : Generator) : State :=
  if held then s.startIfActive g else s

/-- HOLD is released (R12, R156): the episode flag clears, every HELD generator enters RUNNING and makes a sweep start at
once. -/
def State.releaseHold (s : State) : State :=
  let heldA := s.swg.genA.run == .held
  let heldB := s.swg.genB.run == .held
  let t := s.setUlp { s.ulp with hold := false }
  let u := t.setSwg { t.swg with
    genA := { t.swg.genA with run := if heldA then .running else t.swg.genA.run }
    genB := { t.swg.genB with run := if heldB then .running else t.swg.genB.run }
    holdAlert := false }
  (u.releaseStart heldA .a).releaseStart heldB .b

/-- ULP releases HOLD when the count has fallen to the low mark or below (R156). -/
def State.releaseIfLow (s : State) : State :=
  if s.ulp.hold = true ∧ s.ulp.reports.length ≤ s.params.lowMark then s.releaseHold else s

/-- After a change of either mark ULP tests the request against the count at once (R157). -/
def State.retestHold (s : State) : State :=
  if s.ulp.hold = false ∧ s.params.highMark ≤ s.ulp.reports.length then s.requestHold else s.releaseIfLow

/-! ### The rows -/

/-- A scheduled start of the generator has fallen due. -/
def State.startDue (s : State) (g : Generator) : Bool :=
  (s.swg.gen g).run != .stopped &&
    match (s.swg.gen g).nextStart with
    | none => false
    | some t => decide (t ≤ s.ulp.now)

/-- SWEEP_START (R8): FREE mode. -/
def sweepStartStep (g : Generator) (s : State) : State :=
  if s.swg.runMode = .free ∧ s.startDue g = true then s.attemptStart g else s

/-- A_START (R10): INTERLEAVED mode. -/
def aStartStep (s : State) : State :=
  if s.swg.runMode = .interleaved ∧ s.startDue .a = true then s.attemptStart .a else s

/-- The scheduled B start that falls first; of two that fall in one millisecond, the one scheduled earlier (DESIGN CHOICE, log
entry 46). -/
def earliestB : List BStart → Option BStart
  | [] => none
  | b :: rest =>
    match earliestB rest with
    | none => some b
    | some c => if b.due ≤ c.due then some b else some c

/-- A B start made (R10): the RIGHT frames unless RIGHT is OFF, the last B start set, and generator A STOPPED when its
calibration window ended before this B start of its last sweep (R31). -/
def State.makeB (s : State) (b : BStart) : State :=
  let t := if s.swg.runRight = .off then s else s.sendSweep .right b.sweep b.dwell
  let ends := t.swg.endsAtB && b.sweep + 1 == t.swg.genA.count
  let u := t.setSwg { t.swg with
    genA := if ends then t.swg.genA.halt else t.swg.genA
    lastB := some b.sweep
    bStarts := t.swg.bStarts.erase b
    endsAtB := t.swg.endsAtB && !ends }
  u.sweepStarted [.right] b.sweep true

/-- B_START (R10): the scheduled B start that falls first is due. -/
def bStartStep (s : State) : State :=
  match earliestB s.swg.bStarts with
  | none => s
  | some b => if b.due ≤ s.ulp.now then s.makeB b else s

/-- SWEEP_FRAME_SENT (R4): the frame in transmission has been sent in full, and a waiting frame begins. -/
def sweepFrameSentStep (l : Link) (s : State) : State :=
  if s.links[l].sending.isSome then
    s.modLink l (fun k => { k with sending := k.waiting, waiting := none, sweepsSent := sat32 k.sweepsSent 1 })
  else s

/-- SWEEP_START. -/
def execSweepStart (g : Generator) (s : State) : Host.Outcome State Fault Refusal := live s (sweepStartStep g)

/-- A_START. -/
def execAStart (s : State) : Host.Outcome State Fault Refusal := live s aStartStep

/-- B_START. -/
def execBStart (s : State) : Host.Outcome State Fault Refusal := live s bStartStep

/-- SWEEP_FRAME_SENT. -/
def execSweepFrameSent (l : Link) (s : State) : Host.Outcome State Fault Refusal := live s (sweepFrameSentStep l)

/-- CLOCK_LIMIT. -/
def execClockLimit (s : State) : Host.Outcome State Fault Refusal := live s clockLimitStep

end Sys2Proof.Machine
end

