-- ==== Sys2Proof/Machine/Pass.lean ====
section
/-! DEFINITION. How runs begin and close: OPEN-PASS, REHEARSE, the PREPARING walk, CALIBRATE and CLOSE-PASS (sections 7.2, 7.3,
9.6 and R29). -/

namespace Sys2Proof.Machine

/-! ### Pass open (R129, R70, R186, R191) -/

/-- The per-pass fields of a section at their pass-open values (R70). -/
def Section.passOpen (y : Section) : Section :=
  { y with
    expected := 0, state := .unvisited, direction := .unknown, rushed := false, overfull := false, evicted := false,
    orderUnchecked := false, unfacedSince := none, list := [] }

/-- Both sweep counts 0 and the last B start absent, at pass open and at calibration start (R7). -/
def State.clearSweeps (s : State) : State :=
  s.setSwg { s.swg with
    genA := { s.swg.genA with count := 0 }, genB := { s.swg.genB with count := 0 }, lastB := none, bStarts := [],
    endsAtB := false }

/-- Every pass counter of PIQ, MFU, SPE, SRU and PSC at 0 (R129, R143). -/
def State.clearPassCounters (s : State) : State :=
  ((((s.setPiq (mapAll (fun q => { q with counters := PiqCounters.zero }) s.piq)).countMfu (fun _ => MfuCounters.zero)).countSpe
    (fun _ => SpeCounters.zero)).countSru (fun _ => SruCounters.zero)).countPsc (fun _ => PscCounters.zero)

/-- SPE's state emptied of sightings and work: the table, the requests and the settle request (R99). -/
def State.clearSpe (s : State) : State :=
  s.setSpe { s.spe with table := [], work := .idle, requests := [], settleRequest := false, scorePending := false }

/-- SRU's open-section list empty, close-all not in force and the reporter idle (R124). -/
def State.clearSru (s : State) : State :=
  s.setSru { s.sru with openList := [], closeAll := false, reporter := none, closing := [] }

/-- Each port's stale count set to its queue's length (R76). -/
def State.markStale (s : State) : State := s.forPorts (fun p t => t.setStale p s.piq[p].queue.length)

/-- The facing table at its pass-open values (R59). -/
def State.clearFacings (s : State) : State :=
  s.setMfu { s.mfu with ports := Vector.replicate 16 FacingRecord.reset }

/-- The set-up of the PREPARING walk, as one action (R129 part 1): the walk has no record behind it. RHG holds `pace` and
`displacement`. -/
def State.setUpPass (s : State) (source : PassSource) (verbose : Bool) (pace displacement : Option Nat) : State :=
  let t := ((((((s.clearSweeps).clearPassCounters).clearSpe).markStale).clearFacings).clearSru).setPam Pam.reset
  let u := t.setRhg ⟨.idle, pace, displacement, 0, none, [], 0⟩
  u.setPsc { u.psc with
    state := .preparing, source := source, verbose := verbose, endReason := none, stage := .draining, tallyPosition := 0,
    marked := 0, cleared := 0, preparation := 0, tallyWait := none }

/-- A pass opened by a dispatched frame: its walk is the exchange in hand (R128, R150). -/
def State.openBy (s : State) (f : MgmtFrame) (source : PassSource) (verbose : Bool) (pace displacement : Option Nat) :
    State :=
  let t := s.setUpPass source verbose pace displacement
  t.setUlp { t.ulp with inHand := some (.walk f.kind f.tag) }

/-- A pass may open: the state is not CALIBRATING, PREPARING or SCANNING (R128 test 1); in SETTLING and TALLYING the frame is
held back. -/
def State.passStateTaken (s : State) : Bool := s.psc.state != .idle

/-- A table holds no record (R128 test 2). -/
def State.tableEmpty (s : State) : Bool := s.tst.holdings.isEmpty || s.tst.sections.isEmpty

/-- OPEN-PASS at dispatch (R128). A verbose byte that names nothing is refused with the shape, before the pass state is tested
(R167; DESIGN CHOICE, log entry 40). -/
def openPassAct (f : MgmtFrame) (s : State) : State :=
  match openPassFields f.payload with
  | none => s.refuse f .badParam
  | some verbose =>
    if s.passStateTaken then s.refuse f .badState
    else if s.tableEmpty then s.refuse f .emptyTable
    else s.openBy f .frontEnds verbose none none

/-- REHEARSE at dispatch (R179); a verbose byte that names nothing as for OPEN-PASS (log entry 40). -/
def rehearseAct (f : MgmtFrame) (s : State) : State :=
  match rehearseFields f.payload with
  | none => s.refuse f .badParam
  | some (pace, displacement, verbose) =>
    if s.passStateTaken then s.refuse f .badState
    else if pace < 4 then s.refuse f .badParam
    else if s.tableEmpty then s.refuse f .emptyTable
    else s.openBy f .rehearsal verbose (some pace) (some displacement)

/-- OPEN_PASS (R128). -/
def openPassStep (s : State) : State := s.dispatch (ofKind kindOpenPass) openPassAct

/-- REHEARSE (R179). -/
def rehearseStep (s : State) : State := s.dispatch (ofKind kindRehearse) rehearseAct

/-! ### The PREPARING walk (R129 parts 2 to 4, R71, R130) -/

/-- One record counted: its home section's expected count rises, or UNMAPPED (R71). -/
def State.countRecord (s : State) (h : Holding) : State :=
  if h.status.isExpected = false then s
  else if (findSection s.tst.sections h.home).isSome then s.modSection h.home (fun y => { y with expected := y.expected + 1 })
  else s.countPsc (fun c => { c with unmapped := sat32 c.unmapped 1 })

/-- The mark of the next holdings record becomes UNSEEN (R129 part 2, R68). -/
def State.markNext (s : State) : State :=
  (s.setTst { s.tst with holdings := setMark s.tst.holdings s.psc.marked .unseen }).setPsc
    { s.psc with marked := s.psc.marked + 1 }

/-- The next section takes its pass-open values (R129 part 3, R70). -/
def State.clearNext (s : State) : State :=
  (s.setTst { s.tst with sections := s.tst.sections.modify s.psc.cleared Section.passOpen }).setPsc
    { s.psc with cleared := s.psc.cleared + 1 }

/-- The record at the preparation position counted, and the position moved on (R129 part 4). -/
def State.countNext (s : State) : State :=
  match s.tst.holdings[s.psc.preparation]? with
  | none => s
  | some h => (s.countRecord h).setPsc { (s.countRecord h).psc with preparation := s.psc.preparation + 1 }

/-- One record of the walk: the marks first, then the sections, then the counting (R129 parts 2 to 4). -/
def State.walkOne (s : State) : State :=
  if s.psc.marked < s.tst.holdings.length then s.markNext
  else if s.psc.cleared < s.tst.sections.length then s.clearNext
  else s.countNext

/-- How many records the walk has before it. -/
def State.walkLeft (s : State) : Nat :=
  (s.tst.holdings.length - s.psc.marked) + (s.tst.sections.length - s.psc.cleared) +
    (s.tst.holdings.length - s.psc.preparation)

/-- The rest of the walk. -/
def State.walkRest (s : State) : State := repeated State.walkOne s.walkLeft s

/-- The expected total: the sum of the expected counts of all sections plus UNMAPPED (R71). -/
def State.expectedTotal (s : State) : Nat := (s.tst.sections.map Section.expected).sum + s.psc.counters.unmapped

/-- RHG in the action that enters SCANNING: WAITING in a rehearsal pass, or, with no side driven at all, every section passed
over and the pass closed at once (R130, R190, R191). -/
def State.startRhg (s : State) : State :=
  match s.psc.source with
  | .frontEnds => s
  | .rehearsal =>
    if s.swg.drives .a || s.swg.drives .b then s.setRhg { s.rhg with run := .waiting } else s.rhgTake 0

/-- SCANNING is entered: the pass clock at 0, the run's side assignment and mode, PAM's first window, RHG, and the generators
while the pass is still in SCANNING (R130). -/
def State.enterScanning (s : State) : State :=
  let t := s.setPsc { s.psc with state := .scanning, clock := 0 }
  let u := ((t.latchRun).startWindow 0).startRhg
  if u.psc.state = .scanning then u.startGenerators else u

/-- PREPARING_WALK_END (R130). -/
def preparingWalkEndStep (s : State) : State :=
  match s.psc.state, s.ulp.inHand with
  | .preparing, some (.walk kind tag) =>
    let t := s.walkRest
    let total := t.expectedTotal
    let u := t.countPsc (fun c => { c with expectedTotal := total })
    ((u.setUlp { u.ulp with inHand := none }).queueReply
      ⟨tag, kind, .done, bytesOf 4 total ++ bytesOf 4 u.psc.counters.unmapped⟩).enterScanning
  | _, _ => s

/-! ### CALIBRATE (R29, R178) -/

/-- The first test of R29 that a CALIBRATE fails. -/
def State.calibrateRefusal (s : State) (near far : TagCode) : Option ResultCode :=
  if s.psc.state ≠ .idle then some .badState
  else if tagClass near ≠ s.params.referenceClass ∨ tagClass far ≠ s.params.referenceClass then some .badParam
  else if near = far then some .badParam
  else if s.params.tNear < s.params.tFar + 16 then some .badParam
  else none

/-- SCU at the start of a run: CAL-PASS set, accumulators and tallies 0, the codes stored, each carry-over count the number of
entries queued (R29). -/
def State.startScu (s : State) (near far : TagCode) : State :=
  let t := s.setScu
    { ports := mapAll ScuPort.clearRun s.scu.ports, calPass := true, tallyCarryOver := 0, tallyNonReference := 0,
      tallyOtherReference := 0, tallyOverCount := 0, nearTag := some near, farTag := some far }
  t.forPorts (fun p u => u.modScu p (fun c => { c with carryOver := s.piq[p].queue.length }))

/-- SPE's stale counts at 0 (R76). -/
def State.clearStale (s : State) : State := s.setSpe { s.spe with stale := Vector.replicate 16 0 }

/-- The reply of an accepted CALIBRATE: the ports calibrated, N, and the window end count of each generator (R178). -/
def State.calibratePayload (s : State) : List Byte :=
  bytesOf 2 (maskOf s.portDriven) ++ oneByte s.params.calWindow ++ oneByte (windowEnd s.params s.swg .a) ++
    oneByte (windowEnd s.params s.swg .b)

/-- CALIBRATE at dispatch (R29). -/
def calibrateAct (f : MgmtFrame) (s : State) : State :=
  match calibrateFields f.payload with
  | none => s.refuse f .badParam
  | some (near, far) =>
    match s.calibrateRefusal near far with
    | some r => s.refuse f r
    | none =>
      let t := (((s.startScu near far).clearStale).clearSweeps).latchRun
      let u := (t.setPsc { t.psc with state := .calibrating }).startGenerators
      u.reply f .done u.calibratePayload

/-- CALIBRATE (R29). -/
def calibrateStep (s : State) : State := s.dispatch (ofKind kindCalibrate) calibrateAct

/-! ### CLOSE-PASS (R133) -/

/-- CLOSE-PASS: DONE in SCANNING, which enters SETTLING with reason COMPLETE; BAD-STATE in any other state. -/
def closePassAct (f : MgmtFrame) (s : State) : State :=
  if f.payload ≠ [] then s.refuse f .badParam
  else if s.psc.state = .scanning then (s.reply f .done []).enterSettling .complete
  else s.refuse f .badState

/-- CLOSE_PASS (R133). -/
def closePassStep (s : State) : State := s.dispatch (ofKind kindClosePass) closePassAct

/-- OPEN_PASS. -/
def execOpenPass (s : State) : Host.Outcome State Fault Refusal := live s openPassStep

/-- REHEARSE. -/
def execRehearse (s : State) : Host.Outcome State Fault Refusal := live s rehearseStep

/-- PREPARING_WALK_END. -/
def execPreparingWalkEnd (s : State) : Host.Outcome State Fault Refusal := live s preparingWalkEndStep

/-- CALIBRATE. -/
def execCalibrate (s : State) : Host.Outcome State Fault Refusal := live s calibrateStep

/-- CLOSE_PASS. -/
def execClosePass (s : State) : Host.Outcome State Fault Refusal := live s closePassStep

end Sys2Proof.Machine
end

