-- ==== Sys2Proof/Machine/Tally.lean ====
section
/-! DEFINITION. The tally walk and the end of a pass: PASS-END, ABORT-PASS and RESTART (sections 7.5 to 7.7). -/

namespace Sys2Proof.Machine

/-! ### The tally walk (R137, R138) -/

/-- What the walk makes of an expected record that is not DISPOSED (R137). -/
inductive TallyOutcome where
  | notCovered
  | uncertain
  | missing
  deriving DecidableEq, Repr

/-- The outcome by the home section; at the walk it is absent, UNVISITED or CLOSED (R136, R137). -/
def tallyOutcome (sections : List Section) (home : SectionId) : TallyOutcome :=
  match findSection sections home with
  | none => .notCovered
  | some y => if y.state = .unvisited then .notCovered else if y.rushed then .uncertain else .missing

/-- The record at a position judged: its counter raised and its mark DISPOSED (R137, R68). -/
def State.judge (s : State) (ref : Nat) : TallyOutcome → State
  | .notCovered => (s.mark (some ref) .disposed).countPsc (fun c => { c with notCovered := sat32 c.notCovered 1 })
  | .uncertain => (s.mark (some ref) .disposed).countPsc (fun c => { c with uncertain := sat32 c.uncertain 1 })
  | .missing => (s.mark (some ref) .disposed).countPsc (fun c => { c with missing := sat32 c.missing 1 })

/-- The finding an outcome gives (R137). -/
def TallyOutcome.finding : TallyOutcome → Option FindingKind
  | .notCovered => none
  | .uncertain => some .uncertain
  | .missing => some .missing

/-- The FINDING record of a tally finding: no section found and no confidence (R137). -/
def TallyFinding.record (f : TallyFinding) : Record := .finding ⟨f.kind, f.tag, none, some f.home, none⟩

/-- The tally position moved on. -/
def State.tallyNext (s : State) : State := s.setPsc { s.psc with tallyPosition := s.psc.tallyPosition + 1 }

/-- The walk passes over a record that is not expected or is DISPOSED (R137). -/
def Holding.passedOver (h : Holding) : Bool := !h.status.isExpected || h.mark == .disposed

/-- The record at the tally position visited. A finding is written when there is room; at 511 records the walk waits at the
record, with its outcome decided and its mark DISPOSED (R138). -/
def State.tallyOne (s : State) : State :=
  match s.tst.holdings[s.psc.tallyPosition]? with
  | none => s
  | some h =>
    if h.passedOver then s.tallyNext
    else
      let o := tallyOutcome s.tst.sections h.home
      let t := s.judge s.psc.tallyPosition o
      match o.finding with
      | none => t.tallyNext
      | some k =>
        let f : TallyFinding := ⟨k, h.tag, h.home⟩
        if t.hasRoom then (t.writeRecord f.record).tallyNext
        else t.setPsc { t.psc with tallyWait := some f }

/-- The walk goes on through the records that are left, until a finding waits. -/
def State.tallyRest (s : State) : State :=
  repeated (fun t => if t.psc.tallyWait.isSome then t else t.tallyOne) (s.tst.holdings.length - s.psc.tallyPosition) s

/-- TALLY_FINDING_WRITE (R138): room has come for the finding that waits, and the walk may go on behind it. -/
def tallyFindingWriteStep (s : State) : State :=
  match s.psc.tallyWait with
  | none => s
  | some f =>
    if s.psc.state = .tallying ∧ s.hasRoom = true then
      ((s.writeRecord f.record).setPsc { (s.writeRecord f.record).psc with tallyWait := none }).tallyNext
    else s

/-! ### PASS-END (R140) -/

/-- The PASS-END record of the state as it stands (R140). -/
def State.passEnd (s : State) (reason : PassEndReason) : PassEnd :=
  { reason := reason, stateAtEnd := s.psc.state, source := s.psc.source, clock := s.psc.clock, psc := s.psc.counters,
    mfu := s.mfu.counters, spe := s.spe.counters, sru := s.sru.counters, piq := mapAll PortQueue.counters s.piq }

/-- PASS-END is written without waiting for room (R141). -/
def State.writePassEnd (s : State) (reason : PassEndReason) : State := s.writeRecord (.passEnd (s.passEnd reason))

/-- IDLE is entered: the pass clock stops and the source returns to FRONT-ENDS (R127, R139). -/
def State.enterIdle (s : State) : State := s.setPsc { s.psc with state := .idle, source := .frontEnds }

/-- The reason of a PASS-END that ends a tally walk, from PSC's end reason (R139). -/
def passEndReason : Option EndReason → PassEndReason
  | none => .complete
  | some .complete => .complete
  | some .sweepLimit => .sweepLimit

/-- RHG at a pass end: no current section, an empty list and sweep count 0; P, d and the ordinal are kept (R191). -/
def State.endRhg (s : State) : State := s.setRhg { s.rhg with run := .idle, current := none, list := [], sweeps := 0 }

/-- TALLY_WALK_END (R139): the walk visits the records that are left; unless a finding must wait, PASS-END is written and IDLE
entered. -/
def tallyWalkEndStep (s : State) : State :=
  if s.psc.state = .tallying ∧ s.psc.tallyWait = none then
    let t := s.tallyRest
    if t.psc.tallyWait.isSome then t
    else ((t.writePassEnd (passEndReason t.psc.endReason)).endRhg).enterIdle
  else s

/-! ### ABORT-PASS (R142, R40, R69, R99, R122) -/

/-- The walk in hand replied ABORTED, before the PASS-END is written (R131, R151). -/
def State.abortWalk (s : State) : State :=
  match s.ulp.inHand with
  | some (.walk kind tag) => (s.setUlp { s.ulp with inHand := none }).queueReply ⟨tag, kind, .aborted, []⟩
  | some (.loadHoldings _ _) => s
  | some (.loadSections _ _) => s
  | none => s

/-- SIGHTED and PLACED marks become UNSEEN (R69). -/
def Mark.dropped : Mark → Mark
  | .unseen => .unseen
  | .sighted => .unseen
  | .placed => .unseen
  | .disposed => .disposed

/-- The marks after an abort, and every placement list emptied without findings (R69, R70, R122). -/
def State.dropMarks (s : State) : State :=
  s.setTst ⟨s.tst.holdings.map (fun h => { h with mark := h.mark.dropped }),
    s.tst.sections.map (fun y => { y with list := [] })⟩

/-- SCU after an abort: in CALIBRATING the run is ended by R40; in any state the accumulators and carry-over counts are 0 and
the codes absent (R28). -/
def State.abortScu (s : State) : State :=
  if s.psc.state = .calibrating then s.abandonCalibration
  else s.setScu { s.scu with ports := mapAll ScuPort.clearRun s.scu.ports, nearTag := none, farTag := none }

/-- The work of a pass or run in hand ended (R142): the walk, the generators, SCU's run, SPE's and SRU's work, PAM's window,
RHG, and the marks. -/
def State.endWork (s : State) : State :=
  let t := ((((((s.abortWalk).stopGenerators).abortScu).clearSpe).clearStale).clearSru).stopWindow
  let u := (t.setRhg Rhg.reset).dropMarks
  u.setPsc { u.psc with tallyWait := none }

/-- The action of ABORT-PASS (R142): refused in IDLE; otherwise the work is ended, PASS-END ABORTED written, IDLE entered and
DONE queued. -/
def State.abort (s : State) (tag : Byte) : State :=
  if s.psc.state = .idle then s.queueReply ⟨tag, kindAbortPass, .badState, []⟩
  else (((s.endWork).writePassEnd .aborted).enterIdle).queueReply ⟨tag, kindAbortPass, .done, []⟩

/-! ### RESTART (R143) -/

/-- Steps 1 and 3 of R143 around step 2: the work in hand ended, the report queue emptied, PASS-END RESTART written when a pass
or run was in progress. -/
def State.restartWork (s : State) : State :=
  if s.psc.state = .idle then s.setUlp { s.ulp with reports := [] }
  else
    let t := s.endWork
    (t.setUlp { t.ulp with reports := [] }).writePassEnd .restart

/-- Step 4 of R143: the port queues emptied without raising the purged counters, the stale and carry-over counts 0, the
management input queue emptied without replies. -/
def State.restartQueues (s : State) : State :=
  let t := (s.setPiq (mapAll (fun q => { q with queue := [], episode := false }) s.piq)).clearStale
  let u := t.setScu { t.scu with ports := mapAll ScuPort.clearRun t.scu.ports, nearTag := none, farTag := none }
  (u.setSpe { u.spe with woken := none }).setUlp { u.ulp with mgmt := [] }

/-- Step 5 of R143 with the report frame number (R165): PAUSE, the HOLD request and the SWEEP-HOLD episode flag cleared. -/
def State.restartUplink (s : State) : State :=
  (s.setUlp { s.ulp with paused := false, hold := false, frameNumber := 0 }).setSwg { s.swg with holdAlert := false }

/-- Step 7 of R143 with the values of the other blocks after RESTART (R146, R59, R102, R124, R186, R191). -/
def State.restartBlocks (s : State) : State :=
  let t := ((((s.clearSpe).clearFacings).clearSru).setPam Pam.reset).setRhg Rhg.reset
  t.setPsc { t.psc with
    state := .idle, source := .frontEnds, clock := 0, endReason := none, stage := .draining, tallyPosition := 0,
    marked := 0, cleared := 0, preparation := 0 }

/-- The action of RESTART, in the order of R143. UNMAPPED becomes 0 with the other pass counters also when the PREPARING walk was
ended, by R73 and step 6 of R143, where R71 would keep its partial value (DEDUCED, log entry 42). -/
def State.restart (s : State) (tag : Byte) : State :=
  (((((s.restartWork).restartQueues).restartUplink).clearPassCounters).restartBlocks).queueReply
    ⟨tag, kindRestart, .done, []⟩

/-- TALLY_FINDING_WRITE. -/
def execTallyFindingWrite (s : State) : Host.Outcome State Fault Refusal := live s tallyFindingWriteStep

/-- TALLY_WALK_END. -/
def execTallyWalkEnd (s : State) : Host.Outcome State Fault Refusal := live s tallyWalkEndStep

/-- ABORT_PASS (R142): the action of the bypass frame. -/
def execAbortPass (tag : Byte) (s : State) : Host.Outcome State Fault Refusal := live s (fun t => t.abort tag)

/-- RESTART (R143): the action of the bypass frame. -/
def execRestart (tag : Byte) (s : State) : Host.Outcome State Fault Refusal := live s (fun t => t.restart tag)

end Sys2Proof.Machine
end

