-- ==== Sys2Proof/Machine/Uplink.lean ====
section
/-! DEFINITION. The uplink port: receiving management frames, the bypass kinds, the arbiter and the upstream frames
(sections 8.1, 8.7 and 8.8). -/

namespace Sys2Proof.Machine

/-! ### The upstream frames (R160, R161, R193) -/

/-- The transmitter begins a frame. -/
def State.transmit (s : State) (f : UpFrame) : State := s.setUlp { s.ulp with sending := some f }

/-- A REPLY frame with the oldest reply record, which leaves the queue (R161). -/
def State.sendReply (s : State) (r : Reply) : State :=
  (s.setUlp { s.ulp with replies := s.ulp.replies.tail }).transmit
    ⟨kindReply, r.tag, r.kind :: oneByte r.result.code ++ r.payload⟩

/-- An ALERT frame with up to 8 entries in the order of the pending set, which leave it; its sequence tag is 0 (R161). -/
def State.sendAlert (s : State) : State :=
  let sent := s.ulp.alerts.take 8
  (s.setUlp { s.ulp with alerts := s.ulp.alerts.drop 8 }).transmit
    ⟨kindAlert, 0, oneByte sent.length ++ sent.flatMap Alert.bytes⟩

/-- How many records of the front of the queue a frame takes: it stops after the 8th, or before the first that would carry the
payload past 1,196 bytes (R193). `n` records and `size` payload bytes are taken already. -/
def packed : Nat → Nat → List QueuedRecord → Nat
  | n, _, [] => n
  | n, size, r :: rest =>
    if 8 ≤ n then n
    else if Config.maxPayload < size + r.record.size then n
    else packed (n + 1) (size + r.record.size) rest

/-- The number of records the next REPORT frame takes; the count byte is the first byte of the payload. -/
def reportCount (reports : List QueuedRecord) : Nat := packed 0 1 reports

/-- A REPORT frame with the oldest records, which leave the queue; the frame is numbered, RECORDS-SENT rises, and HOLD is
released when the count has fallen far enough (R160, R156). -/
def State.sendReport (s : State) : State :=
  let n := reportCount s.ulp.reports
  let sent := (s.ulp.reports.take n).map QueuedRecord.record
  let t := (s.setUlp { s.ulp with
    reports := s.ulp.reports.drop n, frameNumber := (s.ulp.frameNumber + 1) % 256 }).transmit
      ⟨kindReport, BitVec.ofNat 8 s.ulp.frameNumber, oneByte n ++ sent.flatMap Record.bytes⟩
  (t.countUlp (fun c => { c with recordsSent := sat32 c.recordsSent n })).releaseIfLow

/-! ### The arbiter (R159) -/

/-- The oldest record of the report queue has waited the flush time (R160). -/
def State.flushDue (s : State) : Bool :=
  match s.ulp.reports with
  | [] => false
  | r :: _ => decide (s.params.flushTime ≤ s.ulp.now - r.entry)

/-- The report queue meets the send test (R160). -/
def State.sendTest (s : State) : Bool := decide (8 ≤ s.ulp.reports.length) || s.flushDue

/-- The transmitter may begin a frame: none is in transmission and PAUSE is clear (R159, R162). -/
def State.mayBegin (s : State) : Bool := s.ulp.sending.isNone && !s.ulp.paused

/-- The frame kinds the arbiter chooses among. -/
inductive Choice where
  | reply (r : Reply)
  | alert
  | report
  | nothing
  deriving DecidableEq, Repr

/-- The arbiter's choice: the first of a REPLY, an ALERT and a REPORT frame that is available (R159). -/
def State.choice (s : State) : Choice :=
  match s.ulp.replies with
  | r :: _ => .reply r
  | [] => if s.ulp.alerts ≠ [] then .alert else if s.sendTest then .report else .nothing

/-- The chosen frame begins. -/
def State.sendChoice (s : State) : Choice → State
  | .reply r => s.sendReply r
  | .alert => s.sendAlert
  | .report => s.sendReport
  | .nothing => s

/-- An arbiter decision (R159). -/
def State.arbitrate (s : State) : State := if s.mayBegin then s.sendChoice s.choice else s

/-- REPLY_FRAME (R161): the decision, when its choice is a REPLY frame. -/
def replyFrameStep (s : State) : State :=
  if s.mayBegin then
    match s.choice with
    | .reply r => s.sendReply r
    | .alert => s
    | .report => s
    | .nothing => s
  else s

/-- ALERT_FRAME (R161): the decision, when its choice is an ALERT frame. -/
def alertFrameStep (s : State) : State :=
  if s.mayBegin then
    match s.choice with
    | .reply _ => s
    | .alert => s.sendAlert
    | .report => s
    | .nothing => s
  else s

/-- REPORT_FRAME (R160): the decision, when its choice is a REPORT frame. -/
def reportFrameStep (s : State) : State :=
  if s.mayBegin then
    match s.choice with
    | .reply _ => s
    | .alert => s
    | .report => s.sendReport
    | .nothing => s
  else s

/-- FLUSH_TIME_EXPIRY (R160): the oldest record has waited the flush time, and an idle transmitter decides. -/
def flushTimeExpiryStep (s : State) : State := if s.flushDue then s.arbitrate else s

/-- UPLINK_FRAME_END (R159): the frame in transmission has been sent in full, SENT-FRAMES rises, and the next decision is
made. -/
def uplinkFrameEndStep (s : State) : State :=
  match s.ulp.sending with
  | none => s
  | some _ =>
    ((s.setUlp { s.ulp with sending := none }).countUlp (fun c => { c with sentFrames := sat32 c.sentFrames 1 })).arbitrate

/-! ### PAUSE and RESUME (R162, R163) -/

/-- PAUSE (R162). -/
def pauseStep (s : State) : State := s.setUlp { s.ulp with paused := true }

/-- RESUME (R163): with the flag set it is cleared, and an idle transmitter decides at once. -/
def resumeStep (s : State) : State :=
  if s.ulp.paused then (s.setUlp { s.ulp with paused := false }).arbitrate else s

/-! ### Receiving (R148, R149, R152) -/

/-- A good frame of a queued kind enters the management input queue, or is dropped as MGMT-OVERRUN when it holds 4 (R149). -/
def State.queueFrame (s : State) (f : MgmtFrame) : State :=
  if s.ulp.mgmt.length < Config.mgmtCapacity then s.setUlp { s.ulp with mgmt := s.ulp.mgmt ++ [f] }
  else s.countUlp (fun c => { c with mgmtOverrun := sat32 c.mgmtOverrun 1 })

/-- A good frame sorted by its kind: a bypass kind acts at once, its payload ignored (R149, R152, R167). -/
def State.sortFrame (s : State) (f : MgmtFrame) : State :=
  if f.kind = kindAbortPass then s.abort f.tag
  else if f.kind = kindRestart then s.restart f.tag
  else if f.kind = kindPause then pauseStep s
  else if f.kind = kindResume then resumeStep s
  else s.queueFrame f

/-- A frame with all its bytes judged by its CRC (R148). -/
def State.judgeUplink (s : State) (got : List Byte) : State :=
  if crcMatches got then
    (s.countUlp (fun c => { c with goodFrames := sat32 c.goodFrames 1 })).sortFrame
      ⟨frameKind got, frameTag got, framePayload got⟩
  else s.countUlp (fun c => { c with badCrc := sat32 c.badCrc 1 })

/-- The uplink receives one byte (R148). -/
def State.uplinkByte (s : State) (b : Byte) : State :=
  let r := rxByte uplinkLengthOk s.ulp.rx b
  let t := s.setUlp { s.ulp with rx := r.1 }
  match r.2 with
  | .none => t
  | .badLength => t.countUlp (fun c => { c with badLength := sat32 c.badLength 1 })
  | .frame got => t.judgeUplink got

/-- UPLINK_FRAME_JUDGED: the uplink receives the bytes, and each frame they bring to an end is judged (R148). -/
def uplinkFrameJudgedStep (bytes : List Byte) (s : State) : State := bytes.foldl State.uplinkByte s

/-- UPLINK_FRAME_JUDGED. -/
def execUplinkFrameJudged (bytes : List Byte) (s : State) : Host.Outcome State Fault Refusal :=
  live s (uplinkFrameJudgedStep bytes)

/-- PAUSE. -/
def execPause (s : State) : Host.Outcome State Fault Refusal := live s pauseStep

/-- RESUME. -/
def execResume (s : State) : Host.Outcome State Fault Refusal := live s resumeStep

/-- REPLY_FRAME. -/
def execReplyFrame (s : State) : Host.Outcome State Fault Refusal := live s replyFrameStep

/-- ALERT_FRAME. -/
def execAlertFrame (s : State) : Host.Outcome State Fault Refusal := live s alertFrameStep

/-- REPORT_FRAME. -/
def execReportFrame (s : State) : Host.Outcome State Fault Refusal := live s reportFrameStep

/-- FLUSH_TIME_EXPIRY. -/
def execFlushTimeExpiry (s : State) : Host.Outcome State Fault Refusal := live s flushTimeExpiryStep

/-- UPLINK_FRAME_END. -/
def execUplinkFrameEnd (s : State) : Host.Outcome State Fault Refusal := live s uplinkFrameEndStep

end Sys2Proof.Machine
end

