-- ==== Sys2Proof/Machine/Parameters.lean ====
section
/-! DEFINITION. The parameters: their ranges, SET-PARAM and GET-PARAM (section 9.3). -/

namespace Sys2Proof.Machine

/-! ### The table of R169 -/

/-- The per-port parameters: port mode and follows-global flag. -/
def isPerPort (id : Nat) : Bool := id == 6 || id == 7

/-- The number of named values of an enumerated parameter, and `none` for a number (section 11.3). -/
def namedValues (id : Nat) : Option Nat :=
  match id with
  | 3 => some 3
  | 4 => some 3
  | 5 => some 2
  | 6 => some 2
  | 7 => some 2
  | 26 => some 2
  | _ => none

/-- The parameters that are set in IDLE only. -/
def idleOnly (id : Nat) : Bool := (decide (3 ≤ id) && decide (id ≤ 5)) || (decide (8 ≤ id) && decide (id ≤ 20))

/-- The range of a parameter; that of the low mark ends at the high mark in force less 16, and an enumerated parameter has its
named values (R169, R157). -/
def paramRange (q : Params) (id : Nat) : Nat × Nat :=
  match id with
  | 1 => (2, 250)
  | 2 => (2, 250)
  | 3 => (0, 2)
  | 4 => (0, 2)
  | 5 => (0, 1)
  | 6 => (0, 1)
  | 7 => (0, 1)
  | 8 => (0, 255)
  | 9 => (0, 255)
  | 10 => (0, 254)
  | 11 => (0, 255)
  | 12 => (1, 15)
  | 13 => (0, 65535)
  | 14 => (1, 65535)
  | 15 => (50, 5000)
  | 16 => (0, 15)
  | 17 => (1, 4095)
  | 18 => (8, 64)
  | 19 => (0, 255)
  | 20 => (0, 255)
  | 21 => (64, 496)
  | 22 => (0, q.highMark - 16)
  | 23 => (5, 500)
  | 24 => (100, 10000)
  | 25 => (0, 255)
  | _ => (0, 1)

/-- A value clamped to its parameter's range. -/
def clampParam (q : Params) (id v : Nat) : Nat := clampNat (paramRange q id).1 (paramRange q id).2 v

/-- A device-wide parameter set to a value of its range; a new high mark lowers a low mark that stands above it less 16
(R157). -/
def Params.set (q : Params) (id v : Nat) : Params :=
  match id with
  | 1 => { q with periodA := v }
  | 2 => { q with periodB := v }
  | 3 => { q with assignLeft := (assignOf v).getD q.assignLeft }
  | 4 => { q with assignRight := (assignOf v).getD q.assignRight }
  | 5 => { q with sweepMode := (modeOf v).getD q.sweepMode }
  | 8 => { q with markerClass := v }
  | 9 => { q with referenceClass := v }
  | 10 => { q with readFloor := v }
  | 11 => { q with markerThreshold := v }
  | 12 => { q with minReads := v }
  | 13 => { q with confirmScore := v }
  | 14 => { q with margin := v }
  | 15 => { q with quietTime := v }
  | 16 => { q with orderTolerance := v }
  | 17 => { q with minTransit := v }
  | 18 => { q with calWindow := v }
  | 19 => { q with tNear := v }
  | 20 => { q with tFar := v }
  | 21 => { q with highMark := v, lowMark := min q.lowMark (v - 16) }
  | 22 => { q with lowMark := v }
  | 23 => { q with flushTime := v }
  | 24 => { q with activityWindow := v }
  | 25 => { q with hotThreshold := v }
  | 26 => { q with activityReporting := v == 1 }
  | _ => q

/-- The value of a device-wide parameter. -/
def Params.get (q : Params) (id : Nat) : Nat :=
  match id with
  | 1 => q.periodA
  | 2 => q.periodB
  | 3 => q.assignLeft.code
  | 4 => q.assignRight.code
  | 5 => q.sweepMode.code
  | 8 => q.markerClass
  | 9 => q.referenceClass
  | 10 => q.readFloor
  | 11 => q.markerThreshold
  | 12 => q.minReads
  | 13 => q.confirmScore
  | 14 => q.margin
  | 15 => q.quietTime
  | 16 => q.orderTolerance
  | 17 => q.minTransit
  | 18 => q.calWindow
  | 19 => q.tNear
  | 20 => q.tFar
  | 21 => q.highMark
  | 22 => q.lowMark
  | 23 => q.flushTime
  | 24 => q.activityWindow
  | 25 => q.hotThreshold
  | 26 => q.activityReporting.toNat
  | _ => 0

/-! ### Port selectors -/

/-- The ports a selector names: one port, or ALL as 0xFF; any other byte names none (section 11.3). -/
def selectedPorts (selector : Nat) : Option (List Port) :=
  if h : selector < 16 then some [⟨selector, h⟩] else if selector = 0xFF then some allPorts else none

/-- The value of a per-port parameter on a port. -/
def State.portValue (s : State) (id : Nat) (p : Port) : Nat :=
  if id = 6 then s.piq[p].mode.code else s.piq[p].follows.toNat

/-- The port mode set (R21); a port made MUTED disqualifies its window (R181). -/
def State.setPortMode (s : State) (m : PortMode) (p : Port) : State :=
  let t := s.modPiq p (fun q => { q with mode := m })
  match m with
  | .active => t
  | .muted => t.disqualify p

/-- The follows-global flag set or cleared; a flag newly set under QHOLD makes the port held (R23). -/
def State.setFollows (s : State) (v : Bool) (p : Port) : State :=
  let t := s.modPiq p (fun q => { q with follows := v })
  if v && !s.piq[p].follows && s.qhold then t.becomeHeld p else t

/-- A per-port parameter set on one port. -/
def State.setPortParam (s : State) (id v : Nat) (p : Port) : State :=
  if id = 6 then s.setPortMode (if v = 1 then .muted else .active) p else s.setFollows (v == 1) p

/-! ### SET-PARAM (R169) -/

/-- A parameter set to a value of its range, on the ports the selector names for a per-port one; a change of either mark tests
HOLD at once (R157), and at a change of the flush time an idle transmitter decides (R159, R160). -/
def State.applyParam (s : State) (id selector v : Nat) : State :=
  if isPerPort id then ((selectedPorts selector).getD []).foldl (fun t p => t.setPortParam id v p) s
  else if id = 21 ∨ id = 22 then (s.setParams (s.params.set id v)).retestHold
  else if id = 23 ∧ v ≠ s.params.flushTime then (s.setParams (s.params.set id v)).arbitrate
  else s.setParams (s.params.set id v)

/-- Tests 1 and 2 of R169. -/
def paramNamed (id selector : Nat) : Bool :=
  decide (1 ≤ id) && decide (id ≤ Config.parameterCount) && (!isPerPort id || (selectedPorts selector).isSome)

/-- Test 3 of R169: an enumerated parameter takes its named values alone. -/
def valueNamed (id v : Nat) : Bool :=
  match namedValues id with
  | none => true
  | some n => decide (v < n)

/-- Test 5 of R169: the two special classes may not be equal. -/
def classClash (q : Params) (id v : Nat) : Bool :=
  (id == 8 && clampParam q id v == q.referenceClass) || (id == 9 && clampParam q id v == q.markerClass)

/-- The first test of R169 that a SET-PARAM fails. -/
def State.paramRefusal (s : State) (id selector v : Nat) : Option ResultCode :=
  if paramNamed id selector = false then some .badParam
  else if valueNamed id v = false then some .badParam
  else if idleOnly id = true ∧ s.psc.state ≠ .idle then some .badState
  else if classClash s.params id v = true then some .badParam
  else none

/-- The reply payload: ID, selector, the value in force, and for the high mark the low mark in force (section 11.4). -/
def setParamPayload (q : Params) (id selector v : Nat) : List Byte :=
  oneByte id ++ oneByte selector ++ bytesOf 4 v ++ (if id = 21 then bytesOf 4 q.lowMark else [])

/-- SET-PARAM (R169). -/
def setParamAct (f : MgmtFrame) (s : State) : State :=
  match setParamFields f.payload with
  | none => s.refuse f .badParam
  | some (id, selector, v) =>
    match s.paramRefusal id selector v with
    | some r => s.refuse f r
    | none =>
      let v' := clampParam s.params id v
      let t := s.applyParam id selector v'
      t.reply f (if v' = v then .done else .clamped) (setParamPayload t.params id selector v')

/-- SET_PARAM (R169). -/
def setParamStep (s : State) : State := s.dispatch (ofKind kindSetParam) setParamAct

/-! ### GET-PARAM (R171) -/

/-- The values GET-PARAM carries: sixteen for a per-port parameter read with ALL, one otherwise. -/
def State.paramValues (s : State) (id selector : Nat) : List Nat :=
  if isPerPort id then ((selectedPorts selector).getD []).map (s.portValue id) else [s.params.get id]

/-- GET-PARAM (R171). -/
def getParamAct (f : MgmtFrame) (s : State) : State :=
  match getParamFields f.payload with
  | none => s.refuse f .badParam
  | some (id, selector) =>
    if paramNamed id selector then
      s.reply f .done (oneByte id ++ oneByte selector ++ (s.paramValues id selector).flatMap (bytesOf 4))
    else s.refuse f .badParam

/-- GET_PARAM (R171). -/
def getParamStep (s : State) : State := s.dispatch (ofKind kindGetParam) getParamAct

/-- SET_PARAM. -/
def execSetParam (s : State) : Host.Outcome State Fault Refusal := live s setParamStep

/-- GET_PARAM. -/
def execGetParam (s : State) : Host.Outcome State Fault Refusal := live s getParamStep

end Sys2Proof.Machine
end

