-- ==== Sys2Proof/Machine/Reporter.lean ====
section
/-! DEFINITION. The reporter: the order check, the findings of a closing section, and its summary (sections 6.5 and 6.6). -/

namespace Sys2Proof.Machine

/-! ### The order check (R114, R115) -/

/-- An item that takes part in the order check: its list position from 1, its peak sweep and its sort key. -/
structure Entrant where
  position : Nat
  peak : Nat
  key : Nat
  deriving DecidableEq, Repr

/-- The items of a list with a sort key (R114). -/
def entrants (list : List Item) : List Entrant :=
  list.zipIdx.filterMap (fun i => i.1.key.map (fun k => ⟨i.2 + 1, i.1.peak, k⟩))

/-- Two items form an inverted pair with `i` the one of earlier peak sweep (R114). -/
def invertedAt (d : Direction) (tolerance : Nat) (i j : Entrant) : Bool :=
  decide (i.peak + tolerance < j.peak) &&
    match d with
    | .unknown => false
    | .forward => decide (j.key < i.key)
    | .reverse => decide (i.key < j.key)

/-- Two items form an inverted pair, in either order. -/
def inverted (d : Direction) (tolerance : Nat) (i j : Entrant) : Bool :=
  invertedAt d tolerance i j || invertedAt d tolerance j i

/-- The inversion count of an item among the items under consideration (R114). -/
def inversions (d : Direction) (tolerance : Nat) (under : List Entrant) (i : Entrant) : Nat :=
  under.countP (inverted d tolerance i)

/-- `a` is flagged before `b`: the larger count, then the later peak sweep, then the greater key, then the later position
(R115). -/
def flaggedBefore (count : Entrant → Nat) (a b : Entrant) : Bool :=
  if count a ≠ count b then decide (count b < count a)
  else if a.peak ≠ b.peak then decide (b.peak < a.peak)
  else if a.key ≠ b.key then decide (b.key < a.key)
  else decide (b.position < a.position)

/-- The item that is flagged first. -/
def worst (count : Entrant → Nat) : List Entrant → Option Entrant
  | [] => none
  | a :: rest =>
    match worst count rest with
    | none => some a
    | some b => if flaggedBefore count a b then some a else some b

/-- The flagged items among those under consideration, in the order of flagging; `fuel` bounds the number of flags (R115). -/
def flagging (d : Direction) (tolerance : Nat) : Nat → List Entrant → List Entrant
  | 0, _ => []
  | fuel + 1, under =>
    match worst (inversions d tolerance under) under with
    | none => []
    | some a => if inversions d tolerance under a = 0 then [] else a :: flagging d tolerance fuel (under.erase a)

/-- The list positions that the order check flags (R115). -/
def orderCheck (d : Direction) (tolerance : Nat) (list : List Item) : List Nat :=
  (flagging d tolerance list.length (entrants list)).map Entrant.position

/-! ### Taking a section (R114, R116, R118) -/

/-- The reporter begins with section `x` and the positions it flagged. -/
def State.beginReport (s : State) (x : SectionId) (flagged : List Nat) : State :=
  (s.modOpen x (fun o => { o with reportPosition := some 1 })).setSru
    { (s.modOpen x (fun o => { o with reportPosition := some 1 })).sru with
      reporter := some ⟨x, flagged, false⟩, closing := s.sru.closing.tail }

/-- The reporter takes section `x`: the order check, or ORDER-UNCHECKED when its direction is UNKNOWN (R114, R116). -/
def State.takeSection (s : State) (x : SectionId) (d : Direction) (list : List Item) : State :=
  if d = .unknown then
    ((s.modSection x (fun y => { y with orderUnchecked := true })).countSru
      (fun c => { c with uncheckedSections := sat32 c.uncheckedSections 1 })).beginReport x []
  else s.beginReport x (orderCheck d s.params.orderTolerance list)

/-- REPORTER_TAKE_SECTION (R114): the next CLOSING section in the order in which they entered CLOSING. -/
def reporterTakeSectionStep (s : State) : State :=
  match s.sru.reporter, s.sru.closing with
  | none, x :: _ =>
    match findSection s.tst.sections x with
    | none => s
    | some y => s.takeSection x y.direction y.list
  | _, _ => s

/-! ### Findings (R118) -/

/-- The report position of a section. -/
def State.reportPosition (s : State) (x : SectionId) : Nat :=
  ((findOpen s.sru.openList x).bind OpenSection.reportPosition).getD 0

/-- The reporter moves on to the next item (R118). After the last item the report position is one past the list, 97 for a list
of 96, until the summary is written (DESIGN CHOICE, log entry 44). -/
def State.reportNext (s : State) (x : SectionId) : State :=
  let t := s.modOpen x (fun o => { o with reportPosition := o.reportPosition.map (· + 1) })
  t.setSru { t.sru with reporter := t.sru.reporter.map (fun r => { r with waiting := false }) }

/-- The reporter waits at the item for room. -/
def State.reportWait (s : State) : State :=
  s.setSru { s.sru with reporter := s.sru.reporter.map (fun r => { r with waiting := true }) }

/-- The FINDING record of an item in section `x` (R117). -/
def itemFinding (x : SectionId) (i : Item) (f : FindingKind × Option SectionId) : Record :=
  .finding ⟨f.1, i.tag, some x, f.2, some i.confidence⟩

/-- The item at the report position: its finding decided and the tallies raised, once; the record written when there is room,
or only counted (R118). -/
def State.reportItem (s : State) (r : Reporter) (i : Item) (position : Nat) : State :=
  let f := findingOf s.tst.holdings i.ref r.sec (r.flagged.contains position)
  let t := if r.waiting then s else s.tallyFinding r.sec f.1
  if t.writes f.1 = false then t.reportNext r.sec
  else if t.hasRoom then (t.writeRecord (itemFinding r.sec i f)).reportNext r.sec
  else t.reportWait

/-- FINDING_WRITE (R118). -/
def findingWriteStep (s : State) : State :=
  match s.sru.reporter with
  | none => s
  | some r =>
    let position := s.reportPosition r.sec
    match (s.listOf r.sec)[position - 1]? with
    | none => s
    | some i => s.reportItem r i position

/-! ### The summary (R119) -/

/-- The SECTION-SUMMARY of a section with the tallies of its open-section list entry (R119). -/
def summaryOf (y : Section) (t : Tallies) : Summary :=
  ⟨y.id, y.expected, t, y.rushed, y.overfull, y.evicted, y.orderUnchecked, y.direction⟩

/-- A section enters CLOSED (R119): its items released, its entry out of the open-section list, SECTIONS-CLOSED raised, the
reporter idle, and the signal to PSC when close-all has emptied the list. -/
def State.closeSection (s : State) (x : SectionId) : State :=
  let t := (s.modSection x (fun y => { y with state := .closed, list := [] })).countSru
    (fun c => { c with sectionsClosed := sat32 c.sectionsClosed 1 })
  (t.setSru { t.sru with openList := t.sru.openList.filter (fun o => o.sec != x), reporter := none }).signalIfClosed

/-- SECTION_SUMMARY_WRITE (R119): every item has been dealt with and there is room. -/
def sectionSummaryWriteStep (s : State) : State :=
  match s.sru.reporter with
  | none => s
  | some r =>
    match findSection s.tst.sections r.sec, findOpen s.sru.openList r.sec with
    | some y, some o =>
      if y.list.length < o.reportPosition.getD 0 ∧ s.hasRoom = true then
        (s.writeRecord (.summary (summaryOf y o.tallies))).closeSection r.sec
      else s
    | _, _ => s

/-- REPORTER_TAKE_SECTION. -/
def execReporterTakeSection (s : State) : Host.Outcome State Fault Refusal := live s reporterTakeSectionStep

/-- FINDING_WRITE. -/
def execFindingWrite (s : State) : Host.Outcome State Fault Refusal := live s findingWriteStep

/-- SECTION_SUMMARY_WRITE. -/
def execSectionSummaryWrite (s : State) : Host.Outcome State Fault Refusal := live s sectionSummaryWriteStep

end Sys2Proof.Machine
end

