-- ==== Sys2Proof/Machine/Status.lean ====
section
/-! DEFINITION. READ-STATUS: the five groups, each a snapshot at dispatch, in the order of R173 to R176 with the encodings of
section 11.4. -/

namespace Sys2Proof.Machine

/-- A four-byte count. -/
def count4 (n : Nat) : List Byte := bytesOf 4 n

/-- The PASS group (R173). -/
def State.passGroup (s : State) : List Byte :=
  oneByte s.psc.state.code ++ oneByte s.psc.source.code ++ flagByte s.psc.verbose ++ count4 s.psc.clock ++
  oneByte (endReasonCode s.psc.endReason) ++ oneByte s.psc.stage.code ++ count4 s.psc.tallyPosition ++
  count4 s.swg.genA.count ++ count4 s.swg.genB.count ++ oneByte s.swg.genA.run.code ++ oneByte s.swg.genB.run.code ++
  optional4 s.swg.lastB ++
  oneByte s.swg.runLeft.code ++ oneByte s.swg.runRight.code ++ oneByte s.swg.runMode.code ++
  flagByte s.ulp.hold ++ flagByte s.ulp.paused ++ flagByte s.qhold ++
  count4 s.tst.holdings.length ++ count4 s.tst.sections.length ++
  [Mark.unseen, Mark.sighted, Mark.placed, Mark.disposed].flatMap (fun m => count4 (markTally s.tst.holdings m)) ++
  count4 (s.spe.table.countP (fun e => e.placement.isNone)) ++ count4 (s.spe.table.countP (fun e => e.placement.isSome)) ++
  count4 s.sru.openList.length ++ count4 (s.sru.openList.countP (fun o => o.stage == .closing)) ++
  count4 s.psc.counters.expectedTotal ++ count4 s.psc.counters.unmapped ++
  count4 s.ulp.mgmt.length ++ count4 s.ulp.replies.length ++ count4 s.ulp.reports.length ++ count4 s.ulp.alerts.length ++
  flagByte s.scu.calPass

/-- One port record of the PORTS group (R174). -/
def State.portRecord (s : State) (p : Port) : List Byte :=
  let q := s.piq[p]
  let f := s.mfu.ports[p]
  let a := s.pam.ports[p]
  count4 q.queue.length ++ oneByte q.mode.code ++ flagByte q.follows ++ flagByte q.episode ++ flagByte (s.portHeld p) ++
  counterBytes q.counters.toList ++
  sectionBytes f.facing ++ bytesOf 2 f.transit ++ flagByte f.stalled ++ oneByte f.lastMove.code ++
  [BitVec.ofInt 8 s.scu.ports[p].offset] ++ bytesOf 2 s.scu.ports[p].gain ++
  flagByte a.silent ++ count4 a.empty ++ count4 a.reads ++ count4 a.hot

/-- The PORTS group (R174). -/
def State.portsGroup (s : State) : List Byte := allPorts.flatMap s.portRecord

/-- One port's status, values and last result in the CALIBRATION group (R175). -/
def ScuPort.statusBytes (c : ScuPort) : List Byte :=
  oneByte c.status.code ++ [BitVec.ofInt 8 c.offset] ++ bytesOf 2 c.gain ++
  count4 c.last.nearCount ++ meanBytes c.last.nearMean ++ count4 c.last.farCount ++ meanBytes c.last.farMean

/-- A number shown as absent outside CALIBRATING (R175). -/
def shownIf (b : Bool) (n : Nat) : Option Nat := if b then some n else none

/-- One port's accumulators and carry-over count, shown as absent outside CALIBRATING (R175). -/
def ScuPort.runBytes (calibrating : Bool) (c : ScuPort) : List Byte :=
  [c.nearSum, c.nearCount, c.farSum, c.farCount, c.carryOver].flatMap (fun n => optional4 (shownIf calibrating n))

/-- The CALIBRATION group (R175). -/
def State.calibrationGroup (s : State) : List Byte :=
  let running := s.psc.state == .calibrating
  flagByte s.scu.calPass ++ count4 s.scu.tallyCarryOver ++ count4 s.scu.tallyNonReference ++
  count4 s.scu.tallyOtherReference ++ count4 s.scu.tallyOverCount ++
  allPorts.flatMap (fun p => s.scu.ports[p].statusBytes) ++
  optionalTag (if running then s.scu.nearTag else none) ++ optionalTag (if running then s.scu.farTag else none) ++
  allPorts.flatMap (fun p => s.scu.ports[p].runBytes running)

/-- The COUNTERS group (R176). -/
def State.countersGroup (s : State) : List Byte :=
  counterBytes (s.mfu.counters.toList ++ s.spe.counters.toList ++ s.sru.counters.toList ++ s.psc.counters.toList)

/-- The LINKS group (R176). -/
def State.linksGroup (s : State) : List Byte :=
  allLinks.flatMap (fun l => counterBytes s.links[l].counters ++ flagByte s.links[l].errorLatch ++
    oneByte s.links[l].rx.code) ++
  counterBytes s.ulp.counters.toList ++ oneByte s.ulp.frameNumber

/-- The payload of a group. -/
def State.group (s : State) : StatusGroup → List Byte
  | .pass => s.passGroup
  | .ports => s.portsGroup
  | .calibration => s.calibrationGroup
  | .counters => s.countersGroup
  | .links => s.linksGroup

/-- READ-STATUS (R172): the snapshot is taken after the frame has left the queue and before its reply is queued (R173). -/
def readStatusAct (f : MgmtFrame) (s : State) : State :=
  match statusGroup f.payload with
  | none => s.refuse f .badParam
  | some g => s.reply f .done (s.group g)

/-- The frame is a READ-STATUS of a group (one that names no group may be dispatched by any of the five steps). -/
def isStatusOf (g : StatusGroup) (f : MgmtFrame) : Bool :=
  ofKind kindReadStatus f && (statusGroup f.payload == some g || statusGroup f.payload == none)

/-- READ-STATUS of one group. -/
def readStatusStep (g : StatusGroup) (s : State) : State := s.dispatch (isStatusOf g) readStatusAct

/-- READ_STATUS_PASS. -/
def execReadStatusPass (s : State) : Host.Outcome State Fault Refusal := live s (readStatusStep .pass)

/-- READ_STATUS_PORTS. -/
def execReadStatusPorts (s : State) : Host.Outcome State Fault Refusal := live s (readStatusStep .ports)

/-- READ_STATUS_CALIBRATION. -/
def execReadStatusCalibration (s : State) : Host.Outcome State Fault Refusal := live s (readStatusStep .calibration)

/-- READ_STATUS_COUNTERS. -/
def execReadStatusCounters (s : State) : Host.Outcome State Fault Refusal := live s (readStatusStep .counters)

/-- READ_STATUS_LINKS. -/
def execReadStatusLinks (s : State) : Host.Outcome State Fault Refusal := live s (readStatusStep .links)

end Sys2Proof.Machine
end

