-- ==== Sys2Proof/Machine/Tables.lean ====
section
/-! DEFINITION. Loading and clearing the holdings and section tables (section 4.3). -/

namespace Sys2Proof.Machine

/-! ### The tests of a record (R64, R66) -/

/-- The first failing test of a holdings record against the table as it stands, or the record to store, UNSEEN (R64, R68). -/
def testHolding (q : Params) (table : List Holding) (r : RawHolding) : Except ResultCode Holding :=
  if tagClass r.tag = q.markerClass ∨ tagClass r.tag = q.referenceClass then .error .badClass
  else
    match statusOf r.status with
    | none => .error .badStatus
    | some status =>
      if 4095 < r.home then .error .badParam
      else if (findHolding table r.tag).isSome then .error .duplicate
      else if Config.holdingsCapacity ≤ table.length then .error .tableFull
      else .ok ⟨r.tag, r.key, r.home, status, .unseen⟩

/-- The first failing test of a section record, or the record to store with its pass-open values (R66, R70). -/
def testSection (table : List Section) (r : RawSection) : Except ResultCode Section :=
  if 4095 < r.id then .error .badParam
  else
    match sideOf r.side with
    | none => .error .badLevel
    | some side =>
      if r.level < 1 ∨ 8 < r.level then .error .badLevel
      else if (findSection table r.id).isSome then .error .duplicate
      else if Config.sectionCapacity ≤ table.length then .error .tableFull
      else .ok ⟨r.id, side, r.level, 0, .unvisited, .unknown, false, false, false, false, none, []⟩

/-- The records of a block stored in turn until one fails: the table after the block, the number stored and the result. -/
def storeBlock {ρ α : Type} (test : List α → ρ → Except ResultCode α) : List α → List ρ → Nat → List α × Nat × ResultCode
  | table, [], n => (table, n, .done)
  | table, r :: rest, n =>
    match test table r with
    | .error code => (table, n, code)
    | .ok x => storeBlock test (table ++ [x]) rest (n + 1)

/-! ### The load exchanges (R63 to R66) -/

/-- A load frame at dispatch: its shape, the pass state, then the size of the block; a block that passes becomes the exchange
in hand (R167, R63, R64). -/
def State.beginLoad (s : State) (f : MgmtFrame) (size : Nat) (hold : List (List Byte) → Exchange) : State :=
  match loadBlock size f.payload with
  | none => s.refuse f .badParam
  | some block =>
    if s.psc.state ≠ .idle then s.refuse f .badState
    else if block = [] ∨ 32 < block.length then s.refuse f .badParam
    else s.setUlp { s.ulp with inHand := some (hold block) }

/-- LOAD-HOLDINGS at dispatch. -/
def loadHoldingsAct (f : MgmtFrame) (s : State) : State :=
  s.beginLoad f 23 (fun block => .loadHoldings f.tag (block.map rawHolding))

/-- LOAD-SECTIONS at dispatch. -/
def loadSectionsAct (f : MgmtFrame) (s : State) : State :=
  s.beginLoad f 4 (fun block => .loadSections f.tag (block.map rawSection))

/-- LOAD_HOLDINGS (R64). -/
def loadHoldingsStep (s : State) : State := s.dispatch (ofKind kindLoadHoldings) loadHoldingsAct

/-- LOAD_SECTIONS (R66). -/
def loadSectionsStep (s : State) : State := s.dispatch (ofKind kindLoadSections) loadSectionsAct

/-- The reply of a load block: the result, the number stored from the block and the table count after it. -/
def State.endLoad (s : State) (tag kind : Byte) (result : ResultCode) (stored count : Nat) : State :=
  (s.setUlp { s.ulp with inHand := none }).queueReply ⟨tag, kind, result, oneByte stored ++ bytesOf 2 count⟩

/-- LOAD_COMPLETE (R65): the block in hand is stored to its end or to its first failing record, and the reply is queued. -/
def loadCompleteStep (s : State) : State :=
  match s.ulp.inHand with
  | some (.loadHoldings tag block) =>
    let r := storeBlock (testHolding s.params) s.tst.holdings block 0
    (s.setTst { s.tst with holdings := r.1 }).endLoad tag kindLoadHoldings r.2.2 r.2.1 r.1.length
  | some (.loadSections tag block) =>
    let r := storeBlock testSection s.tst.sections block 0
    (s.setTst { s.tst with sections := r.1 }).endLoad tag kindLoadSections r.2.2 r.2.1 r.1.length
  | some (.walk _ _) => s
  | none => s

/-! ### CLEAR-TABLES (R67) -/

/-- CLEAR-TABLES: the selector (R167; that it comes before the pass state is a DESIGN CHOICE, log entry 40), the pass state
(R63), then the named tables emptied as one action. -/
def clearTablesAct (f : MgmtFrame) (s : State) : State :=
  match clearTarget f.payload with
  | none => s.refuse f .badParam
  | some (holdings, sections) =>
    if s.psc.state ≠ .idle then s.refuse f .badState
    else
      (s.setTst ⟨if holdings then [] else s.tst.holdings, if sections then [] else s.tst.sections⟩).reply f .done
        (bytesOf 2 (if holdings then s.tst.holdings.length else 0) ++
          bytesOf 2 (if sections then s.tst.sections.length else 0))

/-- CLEAR_TABLES (R67). -/
def clearTablesStep (s : State) : State := s.dispatch (ofKind kindClearTables) clearTablesAct

/-- LOAD_HOLDINGS. -/
def execLoadHoldings (s : State) : Host.Outcome State Fault Refusal := live s loadHoldingsStep

/-- LOAD_SECTIONS. -/
def execLoadSections (s : State) : Host.Outcome State Fault Refusal := live s loadSectionsStep

/-- LOAD_COMPLETE. -/
def execLoadComplete (s : State) : Host.Outcome State Fault Refusal := live s loadCompleteStep

/-- CLEAR_TABLES. -/
def execClearTables (s : State) : Host.Outcome State Fault Refusal := live s clearTablesStep

end Sys2Proof.Machine
end

