-- ==== Sys2Proof/Machine/Dispatch.lean ====
section
/-! DEFINITION. One arm per command: the one direct call of its meaning. -/

namespace Sys2Proof.Machine

/-- The effect of a command on everything but the queue of waiting commands. -/
def exec (i : Instr) (s : State) : Host.Outcome State Fault Refusal :=
  match i with
  | .powerOn => Sys2Proof.Machine.execPowerOn s
  | .resetLine => Sys2Proof.Machine.execResetLine s
  | .resetLineRelease => Sys2Proof.Machine.execResetLineRelease s
  | .qholdAssert => Sys2Proof.Machine.execQholdAssert s
  | .qholdRelease => Sys2Proof.Machine.execQholdRelease s
  | .frontEndFrameJudged link bytes => Sys2Proof.Machine.execFrontEndFrameJudged link bytes s
  | .sweepFrameSent link => Sys2Proof.Machine.execSweepFrameSent link s
  | .sweepStart g => Sys2Proof.Machine.execSweepStart g s
  | .aStart => Sys2Proof.Machine.execAStart s
  | .bStart => Sys2Proof.Machine.execBStart s
  | .readTake => Sys2Proof.Machine.execReadTake s
  | .sectionOpenAfterWait => Sys2Proof.Machine.execSectionOpenAfterWait s
  | .overfullFindingWrite => Sys2Proof.Machine.execOverfullFindingWrite s
  | .quietExpiry => Sys2Proof.Machine.execQuietExpiry s
  | .quietClose sec => Sys2Proof.Machine.execQuietClose sec s
  | .forcePlaceAndRetire => Sys2Proof.Machine.execForcePlaceAndRetire s
  | .reporterTakeSection => Sys2Proof.Machine.execReporterTakeSection s
  | .findingWrite => Sys2Proof.Machine.execFindingWrite s
  | .sectionSummaryWrite => Sys2Proof.Machine.execSectionSummaryWrite s
  | .drainComplete => Sys2Proof.Machine.execDrainComplete s
  | .settle => Sys2Proof.Machine.execSettle s
  | .tallyFindingWrite => Sys2Proof.Machine.execTallyFindingWrite s
  | .tallyWalkEnd => Sys2Proof.Machine.execTallyWalkEnd s
  | .clockLimit => Sys2Proof.Machine.execClockLimit s
  | .preparingWalkEnd => Sys2Proof.Machine.execPreparingWalkEnd s
  | .calibrationComplete => Sys2Proof.Machine.execCalibrationComplete s
  | .activityWindowEnd => Sys2Proof.Machine.execActivityWindowEnd s
  | .uplinkFrameJudged bytes => Sys2Proof.Machine.execUplinkFrameJudged bytes s
  | .abortPass tag => Sys2Proof.Machine.execAbortPass tag s
  | .restart tag => Sys2Proof.Machine.execRestart tag s
  | .pause => Sys2Proof.Machine.execPause s
  | .resume => Sys2Proof.Machine.execResume s
  | .identify => Sys2Proof.Machine.execIdentify s
  | .setParam => Sys2Proof.Machine.execSetParam s
  | .getParam => Sys2Proof.Machine.execGetParam s
  | .readStatusPass => Sys2Proof.Machine.execReadStatusPass s
  | .readStatusPorts => Sys2Proof.Machine.execReadStatusPorts s
  | .readStatusCalibration => Sys2Proof.Machine.execReadStatusCalibration s
  | .readStatusCounters => Sys2Proof.Machine.execReadStatusCounters s
  | .readStatusLinks => Sys2Proof.Machine.execReadStatusLinks s
  | .resetPortQueues => Sys2Proof.Machine.execResetPortQueues s
  | .resetPortQueuesGlobal => Sys2Proof.Machine.execResetPortQueuesGlobal s
  | .loadHoldings => Sys2Proof.Machine.execLoadHoldings s
  | .loadSections => Sys2Proof.Machine.execLoadSections s
  | .loadComplete => Sys2Proof.Machine.execLoadComplete s
  | .clearTables => Sys2Proof.Machine.execClearTables s
  | .calibrate => Sys2Proof.Machine.execCalibrate s
  | .openPass => Sys2Proof.Machine.execOpenPass s
  | .rehearse => Sys2Proof.Machine.execRehearse s
  | .closePass => Sys2Proof.Machine.execClosePass s
  | .badKind => Sys2Proof.Machine.execBadKind s
  | .replyFrame => Sys2Proof.Machine.execReplyFrame s
  | .alertFrame => Sys2Proof.Machine.execAlertFrame s
  | .reportFrame => Sys2Proof.Machine.execReportFrame s
  | .flushTimeExpiry => Sys2Proof.Machine.execFlushTimeExpiry s
  | .uplinkFrameEnd => Sys2Proof.Machine.execUplinkFrameEnd s

end Sys2Proof.Machine
end

