-- ==== Sys2Proof/Machine/Idle.lean ====
section
/-! DEFINITION. The passing of time: what the device does when no command waits. A step on an empty queue carries out the first
timed event that is due, and otherwise lets one millisecond pass (DESIGN CHOICE, log entry 3). -/

namespace Sys2Proof.Machine

/-- One millisecond passes on ULP's time base, and on the pass clock while it runs; the pass clock holds at its end
(R126, R154). -/
def State.advanceClocks (s : State) : State :=
  let t := s.setUlp { s.ulp with now := s.ulp.now + 1 }
  if t.psc.state.clockRuns then t.setPsc { t.psc with clock := satAdd Config.clockLimit t.psc.clock 1 } else t

/-- A walk of PSC in progress visits its next record: the PREPARING walk, in its marks, then its sections, then its counting
(R129 parts 2 to 4), or a tally walk that does not wait (R138). -/
def State.walkStep (s : State) : State :=
  if s.psc.state = .preparing then s.walkOne
  else if s.psc.state = .tallying ∧ s.psc.tallyWait = none then s.tallyOne
  else s

/-- One millisecond with no event due. -/
def State.tick (s : State) : State := s.advanceClocks.walkStep

/-- The sections whose quiet close has fallen due, first in the open-section list first. -/
def State.quietSection (s : State) : Option SectionId := (s.sru.openList.find? s.quietDue).map OpenSection.sec

/-- A scheduled B start has fallen due. -/
def State.bDue (s : State) : Bool :=
  match earliestB s.swg.bStarts with
  | none => false
  | some b => decide (b.due ≤ s.ulp.now)

/-- A window end has fallen due. -/
def State.windowDue (s : State) : Bool :=
  match s.pam.window with
  | none => false
  | some w => decide (w.stop ≤ s.psc.clock)

/-- The first timed event that is due, in the order the model fixes. -/
def State.dueEvent (s : State) : Option (State → State) :=
  if s.swg.runMode = .free ∧ s.startDue .a = true then some (sweepStartStep .a)
  else if s.swg.runMode = .free ∧ s.startDue .b = true then some (sweepStartStep .b)
  else if s.bDue then some bStartStep
  else if s.swg.runMode = .interleaved ∧ s.startDue .a = true then some aStartStep
  else if s.windowDue then some activityWindowEndStep
  else if s.psc.state = .scanning ∧ s.psc.clock = Config.clockLimit then some clockLimitStep
  else
    match s.quietSection with
    | some x => some (quietCloseStep x)
    | none =>
      if s.speFree = true ∧ (s.expiryIf (fun t now => decide (t ≤ now))).isSome = true then some quietExpiryStep
      else if s.flushDue = true ∧ s.mayBegin = true then some flushTimeExpiryStep
      else none

/-- What the device does when no command waits: nothing while RESET is asserted; the first timed event that is due; otherwise
one millisecond passes. -/
def idle (s : State) : State :=
  if s.resetLine then s
  else
    match s.dueEvent with
    | some f => f s
    | none => s.tick

end Sys2Proof.Machine
end

