-- ==== Sys2Proof/Safety.lean ====
section
/-! DEFINITION. The words in which claims about the MC16 are stated: when a command meets its conditions, what is common to
every take of a read and to every answered exchange, and the invariants that every step keeps. -/

namespace Sys2Proof.Machine

/-! ### Counters -/

/-- A 32-bit counter raised by one: it saturates at 4,294,967,295 (R5, R26, R58, R101, R123, R147, R164). -/
def up32 (n : Nat) : Nat := min 4294967295 (n + 1)

/-! ### Time -/

/-- Nothing is due at this time: no scheduled start, B start, window end, clock limit, quiet close, quiet expiry or flush
time. -/
abbrev State.NothingDue (s : State) : Prop :=
  (∀ g : Generator, (s.swg.gen g).run = .stopped ∨ ∀ d ∈ (s.swg.gen g).nextStart, s.ulp.now < d) ∧
  (∀ b ∈ s.swg.bStarts, s.ulp.now < b.due) ∧
  (∀ w ∈ s.pam.window, s.psc.clock < w.stop) ∧
  (s.psc.state = .scanning → s.psc.clock ≠ 4294967295) ∧
  (s.psc.state = .scanning ∨ s.psc.state = .settling →
    (∀ o ∈ s.sru.openList, o.stage = .quiet → ∀ y ∈ findSection s.tst.sections o.sec, ∀ u ∈ y.unfacedSince,
      s.psc.clock < u + s.params.quietTime) ∧
    (s.speFree = true → ∀ e ∈ s.spe.table, e.placement = none → s.psc.clock < e.lastRead + s.params.quietTime)) ∧
  (s.ulp.sending ≠ none ∨ s.ulp.paused = true ∨
    ∀ r ∈ s.ulp.reports.head?, s.ulp.now - r.entry < s.params.flushTime)

/-! ### Exchanges -/

/-- The frame `f` at the head of the management input queue meets conditions 1 and 2 of R150, and RESET is released. -/
abbrev State.AtHead (s : State) (f : MgmtFrame) (rest : List MgmtFrame) : Prop :=
  s.resetLine = false ∧ s.ulp.mgmt = f :: rest ∧ s.ulp.inHand = none ∧ s.ulp.replies.length < 8

/-- The state after an exchange that changes nothing but its queues: its frame has left the management input queue, and its
reply stands at the end of the reply queue (R150, R151). -/
def State.answered (s : State) (f : MgmtFrame) (rest : List MgmtFrame) (result : ResultCode) (payload : List Byte) : State :=
  { s with ulp := { s.ulp with mgmt := rest, replies := s.ulp.replies ++ [⟨f.tag, f.kind, result, payload⟩] } }

/-! ### Reads that SPE takes -/

/-- SPE has no item of work in hand or handed to it, and no quiet expiry is overdue (R74). -/
abbrev State.SpeReady (s : State) : Prop :=
  s.resetLine = false ∧ s.spe.work = .idle ∧ s.spe.requests = [] ∧ s.spe.settleRequest = false ∧
  (s.psc.state = .scanning ∨ s.psc.state = .settling →
    ∀ x ∈ s.spe.table, x.placement = none → s.psc.clock ≤ x.lastRead + s.params.quietTime)

/-- How far a port stands behind the round-robin pointer, 0 to 15 (R75). -/
def turnsAway (pointer p : Port) : Nat := (p.val + 16 - pointer.val) % 16

/-- SPE is ready for a read and takes `e`, the oldest entry of its port's queue: the port whose arrival ended SPE's wait, or
otherwise the first non-empty one from the pointer (R75). -/
abbrev State.NextRead (s : State) (e : ReadEntry) (rest : List ReadEntry) : Prop :=
  s.SpeReady ∧ s.piq[e.port].queue = e :: rest ∧
  (s.spe.woken = some e.port ∨
    s.spe.woken = none ∧ ∀ q : Port, turnsAway s.spe.pointer q < turnsAway s.spe.pointer e.port → s.piq[q].queue = [])

/-- PAM after SPE's report of a read of calibrated strength `c` from a port (R182). -/
def Pam.reported (m : Pam) (hotThreshold : Nat) (p : Port) (c : Nat) : Pam :=
  let q := m.ports[p]
  let reads := if m.window.isSome then min 65535 (q.reads + 1) else q.reads
  let hot := if m.window.isSome ∧ hotThreshold ≤ c then min 65535 (q.hot + 1) else q.hot
  { m with ports := m.ports.set p ⟨reads, hot, q.disqualified, if q.silent then 0 else q.empty, false⟩ }

/-- What every take does, whatever becomes of the read (R18, R20, R75, R76, R77, R32, R182): the entry leaves the queue and the
overflow episode ends; the pointer passes the port; the stale count falls, and the carry-over count while CALIBRATING; TAKEN
rises while a pass is open; PAM has its report. -/
def State.afterTake (s : State) (e : ReadEntry) (rest : List ReadEntry) : State :=
  { s with
    piq := s.piq.set e.port { s.piq[e.port] with queue := rest, episode := false }
    scu :=
      if s.psc.state = .calibrating then
        { s.scu with
          ports := s.scu.ports.set e.port { s.scu.ports[e.port] with carryOver := s.scu.ports[e.port].carryOver - 1 } }
      else s.scu
    spe := { s.spe with
      pointer := ⟨(e.port.val + 1) % 16, Nat.mod_lt _ (by decide)⟩
      woken := none
      stale := s.spe.stale.set e.port (s.spe.stale[e.port] - 1)
      counters :=
        if s.psc.state = .idle ∨ s.psc.state = .calibrating then s.spe.counters
        else { s.spe.counters with taken := up32 s.spe.counters.taken } }
    pam := s.pam.reported s.params.hotThreshold e.port (s.strength e) }

/-- The read passes tests 1 to 7 of R77 and reaches test 9: SCANNING or SETTLING, not stale, no error tag, no stamp tag, its
side driven. -/
abbrev State.Admits (s : State) (e : ReadEntry) : Prop :=
  (s.psc.state = .scanning ∨ s.psc.state = .settling) ∧ s.spe.stale[e.port] = 0 ∧ e.crcFail = false ∧ e.collision = false ∧
  e.stamp = none ∧ s.swg.driver (portSide e.port) ≠ none

/-- The read is an admitted ITEM read of evidence weight above 0 whose port faces the OPEN section `x` (R42, R79, R80). -/
abbrev State.Weighs (s : State) (e : ReadEntry) (x : SectionId) : Prop :=
  s.Admits e ∧ tagClass e.tag ≠ s.params.markerClass ∧ tagClass e.tag ≠ s.params.referenceClass ∧
  s.params.readFloor < s.strength e ∧ s.mfu.ports[e.port].facing = some x ∧ s.sectionOpen x = true

/-- What scoring needs of the read (R82, R84, R85). -/
def State.evidence (s : State) (e : ReadEntry) (x : SectionId) : ItemRead :=
  ⟨e.tag, x, s.strength e - s.params.readFloor, s.strength e, e.sweep.getD 0⟩

/-- A scored read has been dealt with: SCORED rises at once (R86), or, while SPE's item of work waits for room, at the end of that
wait, so that a read in hand stands in no outcome counter of SPE's (R99; the model's choice, log entry 41). -/
def State.scoreOver (s : State) : State :=
  { s with spe := if s.spe.work = .idle
      then { s.spe with counters := { s.spe.counters with scored := up32 s.spe.counters.scored } }
      else { s.spe with scorePending := true } }

/-- A wait for room is over, and with it perhaps the item of work: a scored read kept for its end counts (R99, log entry 41). -/
def State.waitOver (s : State) : State :=
  { s with spe := if s.spe.work = .idle ∧ s.spe.scorePending = true
      then { s.spe with scorePending := false, counters := { s.spe.counters with scored := up32 s.spe.counters.scored } }
      else s.spe }

/-! ### Facing changes -/

/-- The marker `e` is accepted for section `y`: an admitted MARKER read at or above the threshold whose section is in the table
and on the port's own side and level (R44). -/
abbrev State.Accepts (s : State) (e : ReadEntry) (y : Section) : Prop :=
  s.Admits e ∧ tagClass e.tag = s.params.markerClass ∧ s.params.markerThreshold ≤ s.strength e ∧
  findSection s.tst.sections (tagSection e.tag) = some y ∧ y.side = portSide e.port ∧ y.level = portLevel e.port

/-- A section opened: OPEN with a direction (R106). -/
def Section.openedWith (y : Section) (d : Direction) : Section := { y with state := .opened, direction := d }

/-! ### Sweeps -/

/-- The side a link serves: links 0 and 1 LEFT, links 2 and 3 RIGHT (R8). -/
def linkSide (l : Link) : Side := if l.val < 2 then .left else .right

/-- A facing record at a sweep start of its side in SCANNING: the transit rises while a section is faced and holds at 4,095,
where the stall flag is set (R50, R52). -/
def FacingRecord.swept (f : FacingRecord) : FacingRecord :=
  if f.facing = none ∨ 4095 ≤ f.transit then f
  else { f with transit := f.transit + 1, stalled := f.stalled || f.transit == 4094 }

/-- `t` is `s` with SWG's state `w` after the SWEEP frames and the transit counts of a sweep start on `sides`: each link has
the frame that `frames` names for it, every port of the sides has its transit counted in SCANNING, the ACTIVE ports that reach
4,095 have PORT-STALLED pending, and nothing else changes (R4, R50, R52). -/
abbrev State.SweptTo (s t : State) (frames : Link → Option SweepFrame) (sides : List Side) (w : Swg) : Prop :=
  (∀ l : Link, t.links[l] = match frames l with
    | none => s.links[l]
    | some f => s.links[l].hand f) ∧
  (∀ p : Port, t.mfu.ports[p] =
    if s.psc.state = .scanning ∧ portSide p ∈ sides then s.mfu.ports[p].swept else s.mfu.ports[p]) ∧
  (∀ x : Alert, x ∈ t.ulp.alerts ↔ x ∈ s.ulp.alerts ∨ ∃ p : Port, x = .portStalled p ∧ s.psc.state = .scanning ∧
    portSide p ∈ sides ∧ s.mfu.ports[p].facing ≠ none ∧ s.mfu.ports[p].transit = 4094 ∧ s.piq[p].mode = .active) ∧
  t = { s with
    links := t.links, swg := w, mfu := { s.mfu with ports := t.mfu.ports }, ulp := { s.ulp with alerts := t.ulp.alerts } }

/-- A generator stopped, its count kept (R7). -/
def GenState.stopped (g : GenState) : GenState := ⟨g.count, .stopped, none⟩

/-- SCANNING closed with a reason (R133 to R135, R190): both generators STOPPED with every scheduled start cancelled, PAM's
window and RHG stopped, SETTLING entered in stage DRAINING. -/
def State.settlingFrom (s : State) (reason : EndReason) : State :=
  { s with
    swg := { s.swg with genA := s.swg.genA.stopped, genB := s.swg.genB.stopped, bStarts := [], endsAtB := false }
    pam := { s.pam with window := none }
    rhg := { s.rhg with run := .idle }
    psc := { s.psc with state := .settling, endReason := some reason, stage := .draining } }

/-- A calibration run in which the generator's window has ended (R31). -/
abbrev State.WindowEnded (s : State) (g : Generator) : Prop :=
  s.psc.state = .calibrating ∧ windowEnd s.params s.swg g ≤ (s.swg.gen g).count

/-- A scheduled start of the generator has fallen due, and RESET is released. -/
abbrev State.StartFallsDue (s : State) (g : Generator) : Prop :=
  s.resetLine = false ∧ (s.swg.gen g).run ≠ .stopped ∧ ∃ d, (s.swg.gen g).nextStart = some d ∧ d ≤ s.ulp.now

/-! ### Answers -/

/-- A state with a reply put at the end of its reply queue. -/
def State.withReply (s : State) (f : MgmtFrame) (result : ResultCode) (payload : List Byte) : State :=
  { s with ulp := { s.ulp with replies := s.ulp.replies ++ [⟨f.tag, f.kind, result, payload⟩] } }

/-- The state after the head frame has left the management input queue (R150). -/
def State.withMgmt (s : State) (rest : List MgmtFrame) : State := { s with ulp := { s.ulp with mgmt := rest } }

/-- A value of a value set: one byte, its position in the list that defines the set, the first 0 (section 11.4). -/
def codeIn {α : Type} [DecidableEq α] (values : List α) (x : α) : List Byte := bytesOf 1 (values.idxOf x)

/-- A number of `k` bytes that may be absent: every bit set where it is (section 11.4). -/
def orAbsent (k : Nat) (n : Option Nat) : List Byte := bytesOf k (n.getD (256 ^ k - 1))

/-- A tag code that may be absent: a presence byte, then twelve bytes, 0 when absent (section 11.4). -/
def codeOrAbsent (tag : Option TagCode) : List Byte :=
  bytesOf 1 tag.isSome.toNat ++ bytesOf 12 ((tag.map BitVec.toNat).getD 0)

/-! ### What SPE's and SCU's pass counters take -/

/-- SPE's pass counters, updated and nothing else. -/
def State.tally (s : State) (f : SpeCounters → SpeCounters) : State :=
  { s with spe := { s.spe with counters := f s.spe.counters } }

/-! ### The pass -/

/-- A reply put into the reply queue, or lost as REPLY-LOST when the queue holds 8 (R151, R152). -/
def Ulp.answer (u : Ulp) (r : Reply) : Ulp :=
  if u.replies.length < 8 then { u with replies := u.replies ++ [r] }
  else { u with counters := { u.counters with replyLost := up32 u.counters.replyLost } }

/-- The state in which the PREPARING walk begins (R129 part 1, R7, R59, R76, R102, R124, R146, R186, R191): every piece of
per-pass state outside the tables at its pass-open value and the walk with no record behind it; the tables, the queues, the
clock and the round-robin pointer kept. -/
def State.preparing (s : State) (source : PassSource) (verbose : Bool) (pace displacement : Option Nat) : State :=
  { s with
    swg := { s.swg with
      genA := { s.swg.genA with count := 0 }, genB := { s.swg.genB with count := 0 }, lastB := none, bStarts := []
      endsAtB := false }
    piq := Vector.ofFn (fun p : Port => { s.piq[p] with counters := ⟨0, 0, 0, 0⟩ })
    mfu := ⟨Vector.replicate 16 ⟨none, 0, false, .unknown⟩, ⟨0, 0, 0, 0, 0, 0, 0, 0⟩⟩
    spe := { s.spe with
      table := [], work := .idle, requests := [], settleRequest := false, scorePending := false, counters := SpeCounters.zero
      stale := Vector.ofFn (fun p : Port => s.piq[p].queue.length) }
    sru := ⟨[], false, none, [], SruCounters.zero⟩
    pam := ⟨none, Vector.replicate 16 ⟨0, 0, false, 0, false⟩⟩
    rhg := ⟨.idle, pace, displacement, 0, none, [], 0⟩
    psc := ⟨.preparing, source, verbose, s.psc.clock, none, .draining, 0, 0, 0, 0, none, ⟨0, 0, 0, 0, 0⟩⟩ }

/-- The work of a pass or run ended where it stands, before any PASS-END (R142, R40, R69, R70, R99, R122): a walk in hand is
answered ABORTED (R131); the generators, PAM's window and RHG are stopped; SCU's run is dropped, CAL-PASS cleared if it was
CALIBRATING; the sighting table, the lists and the work are emptied; SIGHTED and PLACED marks become UNSEEN. -/
def State.workEnded (s : State) : State :=
  { s with
    ulp := match s.ulp.inHand with
      | some (.walk kind tag) => { s.ulp with inHand := none }.answer ⟨tag, kind, .aborted, []⟩
      | _ => s.ulp
    swg := { s.swg with genA := s.swg.genA.stopped, genB := s.swg.genB.stopped, bStarts := [], endsAtB := false }
    scu := { s.scu with
      ports := Vector.ofFn (fun p : Port => { s.scu.ports[p] with
        nearSum := 0, nearCount := 0, farSum := 0, farCount := 0, carryOver := 0 })
      nearTag := none, farTag := none, calPass := s.scu.calPass && !decide (s.psc.state = .calibrating) }
    spe := { s.spe with
      table := [], work := .idle, requests := [], settleRequest := false, scorePending := false, stale := Vector.replicate 16 0 }
    sru := { s.sru with openList := [], closeAll := false, reporter := none, closing := [] }
    pam := { s.pam with window := none }
    rhg := ⟨.idle, none, none, 0, none, [], 0⟩
    tst := ⟨s.tst.holdings.map (fun h => { h with mark := if h.mark = .disposed then .disposed else .unseen }),
      s.tst.sections.map (fun y => { y with list := [] })⟩
    psc := { s.psc with tallyWait := none } }

/-- PAM's window started at a pass clock time (R181): the counts 0 and each port's disqualified flag by the tests of a window
start. -/
def State.windowFrom (s : State) (start : Nat) : Pam :=
  { window := some ⟨start, start + s.params.activityWindow⟩
    ports := Vector.ofFn (fun p : Port => { s.pam.ports[p] with
      reads := 0, hot := 0
      disqualified := decide (s.piq[p].mode = .muted) || (s.qhold && s.piq[p].follows) ||
        decide (s.swg.driver (portSide p) = none) || s.ulp.hold }) }

/-! ### What every step keeps -/

/-- The fields of a holdings record that a load gives it (section 4.1). -/
def Holding.loaded (h : Holding) : TagCode × Nat × SectionId × ItemStatus := (h.tag, h.key, h.home, h.status)

/-- The fields of a section record that a load gives it (section 4.2). -/
def Section.loaded (y : Section) : SectionId × Side × Nat := (y.id, y.side, y.level)

/-- No queue of the device holds more than its capacity (R18, R149, R153, R154, R168); the report queue holds at most 511
records outside IDLE, so that a PASS-END always finds room (R128, R141, R155); the alert pending set stands in the order of
R161, so each alert stands in it once (R158). -/
def State.QueuesInv (s : State) : Prop :=
  (∀ p : Port, s.piq[p].queue.length ≤ 32) ∧ s.ulp.mgmt.length ≤ 4 ∧ s.ulp.replies.length ≤ 8 ∧
  s.ulp.reports.length ≤ 512 ∧ (s.psc.state ≠ .idle → s.ulp.reports.length ≤ 511) ∧
  s.ulp.alerts.Pairwise (fun a b => a.rank < b.rank)

/-- One entry of the sighting table is sound (section 5.3): one to three candidates of distinct sections, and every count in
its range (section 1.7, R96). -/
def Sighting.Sound (e : Sighting) : Prop :=
  e.slot < 2048 ∧ 1 ≤ e.candidates.length ∧ e.candidates.length ≤ 3 ∧ (e.candidates.map Candidate.sec).Nodup ∧
  (∀ c ∈ e.candidates, c.score ≤ 65535) ∧ 1 ≤ e.reads ∧ e.reads ≤ 65535 ∧ e.moves ≤ 2

/-- The sighting table (R82, R83, R97): sound entries in ascending slot order, one for a tag code. A new entry that waits for
an eviction's finding (R113) has a slot to come to and no entry of its tag yet. -/
def State.SightingsInv (s : State) : Prop :=
  s.spe.table.Pairwise (fun e f => e.slot < f.slot) ∧ (s.spe.table.map Sighting.tag).Nodup ∧
  (∀ e ∈ s.spe.table, e.Sound) ∧
  ∀ d r ref, s.spe.work = .waitRoom d → d.rest = .newEntry r ref →
    r.weight ≤ 65535 ∧ (∀ e ∈ s.spe.table, e.tag ≠ r.tag) ∧
    (s.spe.table.length < 2048 ∨ ∃ e ∈ s.spe.table, e.slot = d.slot)

/-- The two tables and the section lists (R60, R62, R64, R66, R110, R113): the capacities, tag codes and section IDs that are
not repeated, and the ranges of the loaded fields. -/
def State.TablesInv (s : State) : Prop :=
  s.tst.holdings.length ≤ 16384 ∧ (s.tst.holdings.map Holding.tag).Nodup ∧ (∀ h ∈ s.tst.holdings, h.home ≤ 4095) ∧
  s.tst.sections.length ≤ 1024 ∧ (s.tst.sections.map Section.id).Nodup ∧
  (∀ y ∈ s.tst.sections, y.id ≤ 4095 ∧ 1 ≤ y.level ∧ y.level ≤ 8 ∧ y.list.length ≤ 96) ∧
  s.sru.openList.length ≤ 32

/-- The values in their ranges: every parameter in the range of R169, the two special classes apart (R169), offset and gain
(R36, R37), the sweep counts (R13), the transits with the stall flag (R52, R55); and generator B stopped in INTERLEAVED mode
(R6, R7). -/
def State.ValuesInv (s : State) : Prop :=
  (∀ id, 1 ≤ id → id ≤ 26 → (paramRange s.params id).1 ≤ s.params.get id ∧ s.params.get id ≤ (paramRange s.params id).2) ∧
  s.params.markerClass ≠ s.params.referenceClass ∧
  (∀ p : Port, -128 ≤ s.scu.ports[p].offset ∧ s.scu.ports[p].offset ≤ 127 ∧
    256 ≤ s.scu.ports[p].gain ∧ s.scu.ports[p].gain ≤ 4095) ∧
  s.swg.genA.count ≤ 16777215 ∧ s.swg.genB.count ≤ 16777215 ∧
  (s.swg.runMode = .interleaved → s.swg.genB.run = .stopped) ∧
  ∀ p : Port, s.mfu.ports[p].transit ≤ 4095 ∧ (s.mfu.ports[p].facing = none → s.mfu.ports[p].transit = 0) ∧
    (s.mfu.ports[p].stalled = true ↔ s.mfu.ports[p].transit = 4095)

/-- What runs in which pass state (R125, R127, R7, R181, R190, R130, R63): the source is FRONT-ENDS outside a pass, the generators
are STOPPED outside CALIBRATING and SCANNING, PAM's window and RHG run in SCANNING alone, a walk is in hand exactly in PREPARING,
and a load is in hand in IDLE alone. -/
def State.RunningInv (s : State) : Prop :=
  (s.psc.state = .idle ∨ s.psc.state = .calibrating → s.psc.source = .frontEnds) ∧
  (s.psc.state ≠ .calibrating → s.psc.state ≠ .scanning → s.swg.genA.run = .stopped ∧ s.swg.genB.run = .stopped) ∧
  (s.psc.state ≠ .scanning → s.pam.window = none ∧ s.rhg.run = .idle) ∧
  (s.psc.state = .preparing ↔ ∃ kind tag, s.ulp.inHand = some (.walk kind tag)) ∧
  ∀ tag, (∃ block, s.ulp.inHand = some (.loadHoldings tag block)) ∨ (∃ block, s.ulp.inHand = some (.loadSections tag block)) →
    s.psc.state = .idle

/-- An opening waits for its place, or for the close that makes room for it (R110). -/
def State.Opening (s : State) (r : OpenRequest) : Prop :=
  s.spe.work = .waitPlace r ∨ ∃ d x, s.spe.work = .waitRoom d ∧ d.rest = .forcePlace x (some r)

/-- Sections and the open-section list agree (R104, R106, R108, R110, R111, R119). In SCANNING and SETTLING the list holds each
OPEN or CLOSING section once and no other, a section in stage CLOSING stands once in the reporter or behind it, and each request
handed to SPE is of a section in stage REQUESTED; outside them the list is empty and no work is in hand. The tally finds no
section OPEN or CLOSING, the PREPARING walk leaves UNVISITED sections with empty lists behind it, and an opening that waits is of
an UNVISITED section. -/
def State.SectionsInv (s : State) : Prop :=
  let reads := s.psc.state = .scanning ∨ s.psc.state = .settling
  let listed := s.sru.openList.map OpenSection.sec
  let reported := (s.sru.reporter.map Reporter.sec).toList ++ s.sru.closing
  let requested (x : SectionId) : Prop := ∃ o ∈ s.sru.openList, o.sec = x ∧ o.stage = .requested
  (reads →
    listed.Nodup ∧ reported.Nodup ∧ s.spe.requests.Nodup ∧
    (∀ y ∈ s.tst.sections, y.state = .opened ∨ y.state = .closing → y.id ∈ listed) ∧
    (∀ y ∈ s.tst.sections, y.state = .unvisited → y.list = []) ∧
    (∀ o ∈ s.sru.openList, ∃ y ∈ s.tst.sections,
      y.id = o.sec ∧ y.state = if o.stage = .closing then .closing else .opened) ∧
    (∀ x, x ∈ reported ↔ ∃ o ∈ s.sru.openList, o.sec = x ∧ o.stage = .closing) ∧
    ∀ x ∈ s.spe.requests, requested x) ∧
  (¬reads → listed = [] ∧ reported = [] ∧ s.spe.requests = [] ∧ s.spe.work = .idle) ∧
  (s.psc.state = .tallying → ∀ y ∈ s.tst.sections, y.state = .unvisited ∨ y.state = .closed) ∧
  (s.psc.state = .preparing → ∀ y ∈ s.tst.sections.take s.psc.cleared, y.state = .unvisited ∧ y.list = []) ∧
  (∀ r, s.Opening r → ∃ y ∈ s.tst.sections, y.id = r.sec ∧ y.state = .unvisited) ∧
  ∀ d, s.spe.work = .waitRoom d → s.sectionOpen d.sec = true ∧
    ∀ x opening, d.rest = .forcePlace x opening → requested x ∧ x ∉ s.spe.requests

/-- The section an entry stands for: the one it is placed in, or, while it is OPEN, the one of its lead (R87, R88). -/
def Sighting.anchor (e : Sighting) : Option SectionId :=
  match e.placement with
  | some (x, _) => some x
  | none => e.leadSection

/-- The law of marks and sightings (section 4.4, R68, R81): an entry refers to the holdings record of its tag; a record is SIGHTED
exactly when an OPEN entry refers to it and PLACED exactly when a PLACED one does; the list item of a PLACED entry stands once in
the list of its placed section and in no list of another OPEN section. An entry stands for an OPEN section among its candidates,
so that none is left when the last section is closed, and the table is empty outside SCANNING and SETTLING. A new entry that waits
for an eviction's finding (R113) is of a record that is not DISPOSED and an OPEN section. -/
def State.MarksInv (s : State) : Prop :=
  (s.psc.state ≠ .scanning → s.psc.state ≠ .settling → s.spe.table = []) ∧
  (∀ e ∈ s.spe.table, e.ref = findHolding s.tst.holdings e.tag ∧
    ∃ x, e.anchor = some x ∧ s.sectionOpen x = true ∧ x ∈ e.candidates.map Candidate.sec) ∧
  (∀ n h, s.tst.holdings[n]? = some h →
    (h.mark = .sighted ↔ ∃ e ∈ s.spe.table, e.ref = some n ∧ e.placement = none) ∧
    (h.mark = .placed ↔ ∃ e ∈ s.spe.table, e.ref = some n ∧ e.placement ≠ none)) ∧
  (s.psc.state = .scanning ∨ s.psc.state = .settling → ∀ y ∈ s.tst.sections, y.state = .opened → ∀ slot,
    y.list.countP (fun i => i.slot == some slot) =
      s.spe.table.countP (fun e => e.slot == slot && (e.placement.map Prod.fst) == some y.id)) ∧
  ∀ d r ref, s.spe.work = .waitRoom d → d.rest = .newEntry r ref →
    ref = findHolding s.tst.holdings r.tag ∧ s.disposed ref = false ∧ s.sectionOpen r.sec = true

end Sys2Proof.Machine
end

