-- ==== Sys2Proof/Certificates/Slice0/Obligations.lean ====
section
/-! DEFINITION. The statements about the MC16 that the provers are asked for. A result statement says the whole next state: a
record update names what changes, and everything it does not name stands. -/

open Sys2Proof Sys2Proof.Machine

/-! ### Steps, power-on and time -/

/-- A step takes the command at the front of the queue and is that command's effect with the queue's rest; each command is one
whole and indivisible step (95_what_each_step_holds.md). The queue is the model's (log entry 32). -/
def Obligations.StepRunsFrontCommand : Prop :=
  ∀ (c : Instr) (rest : List Instr) (s : State),
    step { s with pending := c :: rest } = exec c { s with pending := rest }

/-- Every command answers a next state in every state: the manual names no condition that stops the part. That a command whose
condition does not hold leaves the device as it is, is the model's choice (log entry 1). -/
def Obligations.EveryCommandAnswersANextState : Prop :=
  ∀ (c : Instr) (s : State), ∃ t, exec c s = .next t

/-- Power-on and an asserted RESET line give every block the values of the manual's reset tables (R145, with R5, R14, R26, R28,
R59, R73, R102, R124, R146, R165, R169, R186, R191). The levels of the lines and the queue of commands are not the device's (log
entry 5), and the fields the manual does not list (scheduled starts, SPE's work, the positions of the walk, ULP's time base)
start as log entry 35 says. -/
def Obligations.PowerOnAndResetLineGiveTheResetValues : Prop :=
  let blocks (qhold resetLine : Bool) (pending : List Instr) : State :=
    { params :=
        ⟨20, 20, .a, .b, .free, 0xE1, 0xE2, 40, 120, 3, 600, 300, 400, 3, 10, 16, 200, 80, 448, 320, 50, 1000, 220, false⟩
      links := Vector.replicate 4 ⟨.hunting, false, none, none, 0, 0, 0, 0, 0⟩
      swg := ⟨⟨0, .stopped, none⟩, ⟨0, .stopped, none⟩, .a, .b, .free, none, [], false, false⟩
      piq := Vector.replicate 16 ⟨[], .active, false, false, ⟨0, 0, 0, 0⟩⟩
      scu := ⟨Vector.replicate 16 ⟨0, 1024, .notRun, ⟨0, none, 0, none⟩, 0, 0, 0, 0, 0⟩, true, 0, 0, 0, 0, none, none⟩
      mfu := ⟨Vector.replicate 16 ⟨none, 0, false, .unknown⟩, ⟨0, 0, 0, 0, 0, 0, 0, 0⟩⟩
      tst := ⟨[], []⟩
      spe := ⟨[], 0, Vector.replicate 16 0, none, .idle, [], false, false,
        ⟨0, 0, 0, 0, 0, 0, 0, 0, 0, 0, 0, 0, 0, 0, 0, 0, 0, 0, 0, 0⟩⟩
      sru := ⟨[], false, none, [], ⟨0, 0, 0, 0, 0, 0, 0, 0, 0, 0⟩⟩
      psc := ⟨.idle, .frontEnds, false, 0, none, .draining, 0, 0, 0, 0, none, ⟨0, 0, 0, 0, 0⟩⟩
      ulp := ⟨.hunting, [], none, [], [], [], false, false, none, 0, 0, ⟨0, 0, 0, 0, 0, 0, 0, 0, 0⟩⟩
      pam := ⟨none, Vector.replicate 16 ⟨0, 0, false, 0, false⟩⟩
      rhg := ⟨.idle, none, none, 0, none, [], 0⟩
      qhold := qhold
      resetLine := resetLine
      pending := pending }
  State.reset = blocks false false [] ∧
  ∀ s : State,
    exec .powerOn s = .next (blocks s.qhold s.resetLine s.pending) ∧
    exec .resetLine s = .next (blocks s.qhold true s.pending) ∧
    exec .resetLineRelease s = .next { s with resetLine := false }

/-- While the RESET line is asserted the device holds its state: no command but power-on and a change of one of the two lines
does anything, and no time passes (R145). That a QHOLD_ASSERT then changes the level alone and that the time base stands still is
the model's choice (log entries 5 and 6). -/
def Obligations.AssertedResetLineHoldsTheDevice : Prop :=
  ∀ s : State, s.resetLine = true →
    (∀ c : Instr, c ∉ [.powerOn, .resetLine, .resetLineRelease, .qholdAssert, .qholdRelease] → exec c s = .next s) ∧
    exec .qholdAssert s = .next { s with qhold := true } ∧
    (s.pending = [] → step s = .next s)

/-- With no command waiting and nothing due, one millisecond passes: on ULP's time base in every pass state, on the pass clock in
SCANNING, SETTLING and TALLYING, where it holds at its end (R126, R154), and nothing else changes outside PSC's walks. That a
step on an empty queue is a millisecond is the model's choice (log entry 3). -/
def Obligations.QuietStepIsOneMillisecond : Prop :=
  ∀ s : State, s.resetLine = false → s.pending = [] → s.NothingDue → s.psc.state ≠ .preparing →
    (s.psc.state = .tallying → s.psc.tallyWait ≠ none) →
    step s = .next { s with
      ulp := { s.ulp with now := s.ulp.now + 1 }
      psc := if s.psc.state ∈ [.scanning, .settling, .tallying] then
          { s.psc with clock := min 4294967295 (s.psc.clock + 1) } else s.psc }

/-! ### Port queues, links and stamps (Chapter 1) -/

/-- When QHOLD becomes asserted every follows-global port is emptied: its entries discarded and counted as purged, its episode
flag clear (R24, R22), its stale and carry-over counts 0 (R76, R32), its window disqualified (R181). Other ports and every other
block stand. QHOLD_RELEASE changes the level alone. That an assertion that finds the line asserted changes nothing is the model's
choice (log entry 1). -/
def Obligations.QholdLineEmptiesTheFollowingPorts : Prop :=
  (∀ s : State, s.resetLine = false → s.qhold = false →
    ∃ t, exec .qholdAssert s = .next t ∧ t.qhold = true ∧
      (∀ p : Port,
        t.piq[p] = (if s.piq[p].follows then
            { s.piq[p] with
              queue := [], episode := false
              counters := { s.piq[p].counters with
                purged := min 4294967295 (s.piq[p].counters.purged + s.piq[p].queue.length) } }
          else s.piq[p]) ∧
        t.spe.stale[p] = (if s.piq[p].follows then 0 else s.spe.stale[p]) ∧
        t.scu.ports[p] = (if s.piq[p].follows then { s.scu.ports[p] with carryOver := 0 } else s.scu.ports[p]) ∧
        t.pam.ports[p] = (if s.piq[p].follows ∧ s.pam.window ≠ none then { s.pam.ports[p] with disqualified := true }
          else s.pam.ports[p])) ∧
      t.pam.window = s.pam.window ∧
      t = { s with
        qhold := true, piq := t.piq, pam := t.pam
        scu := { s.scu with ports := t.scu.ports }
        spe := { s.spe with stale := t.spe.stale, woken := t.spe.woken } }) ∧
  ∀ s : State,
    (s.qhold = true → exec .qholdAssert s = .next s) ∧ exec .qholdRelease s = .next { s with qhold := false }

/-- R19: a read entry arriving at the queue of its port is dealt with by the first case that applies. An overflow drop that
begins an episode posts PORT-OVERFLOW (R20); `woken` is the model's note of the arrival that ends SPE's wait (log entry 13). -/
def Obligations.ArrivalFollowsTheFourCases : Prop :=
  ∀ (s : State) (e : ReadEntry),
    let q := s.piq[e.port]
    let counted (f : PiqCounters → PiqCounters) (q : PortQueue) : PortQueue := { q with counters := f q.counters }
    (q.mode = .muted → s.arrive e = s) ∧
    (q.mode = .active → s.qhold = true ∧ q.follows = true →
      s.arrive e = { s with piq := s.piq.set e.port (counted (fun c => { c with heldDrops := up32 c.heldDrops }) q) }) ∧
    (q.mode = .active → ¬(s.qhold = true ∧ q.follows = true) → 32 ≤ q.queue.length →
      s.arrive e = { s with
        piq := s.piq.set e.port
          (counted (fun c => { c with overflowDrops := up32 c.overflowDrops }) { q with episode := true })
        ulp := if q.episode then s.ulp else { s.ulp with alerts := insertAlert (.portOverflow e.port) s.ulp.alerts } }) ∧
    (q.mode = .active → ¬(s.qhold = true ∧ q.follows = true) → q.queue.length < 32 →
      s.arrive e = { s with
        piq := s.piq.set e.port
          (counted (fun c => { c with entered := up32 c.entered }) { q with queue := q.queue ++ [e] })
        spe := { s.spe with woken := if s.speWaits then some e.port else s.spe.woken } })

/-- A frame received on a front-end link in HUNTING is judged (R1): of a length other than 19 it is bad as soon as the length is
in; otherwise it is good when its kind is READ and its CRC matches. A bad frame raises the counter and, on a clear latch, posts
LINK-ERROR (R2); a good one clears the latch and, by the source, arrives at the queue of its port with the fields of section
11.2 or is ignored (R3). Bytes other than the sync byte are discarded. -/
def Obligations.FrontEndFramesAreJudged : Prop :=
  ∀ (l : Link) (s : State), s.resetLine = false → s.links[l].rx = .hunting →
    let k := s.links[l]
    let bad : State := { s with
      links := s.links.set l { k with badFrames := up32 k.badFrames, errorLatch := true }
      ulp := if k.errorLatch then s.ulp else { s.ulp with alerts := insertAlert (.linkError l) s.ulp.alerts } }
    (∀ bytes : List Byte, 0xA5#8 ∉ bytes → exec (.frontEndFrameJudged l bytes) s = .next s) ∧
    (∀ hi lo : Byte, hi.toNat * 256 + lo.toNat ≠ 19 → exec (.frontEndFrameJudged l [0xA5#8, hi, lo]) s = .next bad) ∧
    ∀ got : List Byte, got.length = 21 → natOf (got.take 2) = 19 →
      let good := got.getD 2 0 = 0x10#8 ∧ natOf (got.drop 19) = (crc16 (got.take 19)).toNat
      let first := got.getD 4 0
      let p : Port := portOf l ⟨first.toNat % 4, Nat.mod_lt _ (by decide)⟩
      let full := rebuildSweep (s.swg.latestSweep (portSide p)) (got.getD 18 0).toNat
      let entry : ReadEntry :=
        ⟨p, BitVec.ofNat 96 (natOf ((got.drop 5).take 12)), (got.getD 17 0).toNat, full, first.getLsbD 7, first.getLsbD 6,
          stampOf s.swg.runMode full⟩
      (¬good → exec (.frontEndFrameJudged l (0xA5#8 :: got)) s = .next bad) ∧
      (good → s.psc.source = .frontEnds →
        exec (.frontEndFrameJudged l (0xA5#8 :: got)) s = .next (State.arrive
          { s with links := s.links.set l { k with goodFrames := up32 k.goodFrames, errorLatch := false } } entry)) ∧
      (good → s.psc.source = .rehearsal →
        exec (.frontEndFrameJudged l (0xA5#8 :: got)) s = .next
          { s with links := s.links.set l { k with ignoredReads := up32 k.ignoredReads, errorLatch := false } })

/-- The receive side of each link works independently of the other three links and of that link's own transmit side (R1):
whatever bytes arrive, the records of the other links and this link's SWEEP frames and their counters stand, and so do the
sweeps, the tables and the pass. -/
def Obligations.FrontEndLinksAreIndependent : Prop :=
  ∀ (l : Link) (bytes : List Byte) (s t : State), exec (.frontEndFrameJudged l bytes) s = .next t →
    (∀ k : Link, k ≠ l → t.links[k] = s.links[k]) ∧
    t.links[l].sending = s.links[l].sending ∧ t.links[l].waiting = s.links[l].waiting ∧
    t.links[l].sweepsSent = s.links[l].sweepsSent ∧ t.links[l].superseded = s.links[l].superseded ∧
    t.swg = s.swg ∧ t.tst = s.tst ∧ t.psc = s.psc ∧ t.scu = s.scu ∧ t.mfu = s.mfu ∧ t.params = s.params

/-- Which generator drives a side, by the mode and the side's assignment (R6), and the side's latest sweep (R15). That mode and
assignment are those that the run took at its start is the model's choice (log entry 22). -/
def Obligations.DrivingGeneratorsAndLatestSweeps : Prop :=
  ∀ w : Swg,
    let last (n : Nat) : Option Nat := if n = 0 then none else some (n - 1)
    (∀ side : Side,
      (w.runMode = .free → w.assign side = .a → w.driver side = some .a) ∧
      (w.runMode = .free → w.assign side = .b → w.driver side = some .b) ∧
      (w.runMode = .interleaved → w.assign side ≠ .off → w.driver side = some .a) ∧
      (w.assign side = .off → w.driver side = none) ∧
      (w.driver side = none → w.latestSweep side = none) ∧
      (∀ g, w.runMode = .free → w.driver side = some g → w.latestSweep side = last (w.gen g).count)) ∧
    (w.runMode = .interleaved → w.driver .left ≠ none → w.latestSweep .left = last w.genA.count) ∧
    (w.runMode = .interleaved → w.driver .right ≠ none → w.latestSweep .right = w.lastB) ∧
    (w.runMode = .interleaved → w.drives .b = false) ∧
    ∀ g, w.drives g = true ↔ ∃ side, w.driver side = some g

/-- R16: the full sweep number is the greatest one not above the latest sweep with the echoed low byte, when it lies at most 3
below it; otherwise the entry is LATE. R17's tag: SETTLE for sweeps 0 and 1 in INTERLEAVED mode and never else. -/
def Obligations.SweepStampsAreRebuilt : Prop :=
  (∀ latest echo n : Nat, echo < 256 →
    (rebuildSweep (some latest) echo = some n ↔ IsGreatest (fun m => m ≤ latest ∧ m % 256 = echo) n ∧ latest - n ≤ 3)) ∧
  (∀ echo : Nat, rebuildSweep none echo = none) ∧
  (∀ mode : SweepMode, stampOf mode none = some .late) ∧
  (∀ n : Nat, stampOf .free (some n) = none ∧ stampOf .interleaved (some n) = if n ≤ 1 then some .settle else none)

/-- R4: a link's transmitter begins a SWEEP frame at once when idle, lets it wait when busy, and replaces a frame that waits,
counting it as superseded; SWEEP_FRAME_SENT ends the frame in transmission, counts it (R5) and begins the one that waits. That it
changes nothing on an idle transmitter is the model's choice (log entry 1). -/
def Obligations.LinkTransmittersTakeSweepFrames : Prop :=
  (∀ (k : LinkState) (f : SweepFrame),
    (k.sending = none → k.hand f = { k with sending := some f }) ∧
    (k.sending ≠ none → k.waiting = none → k.hand f = { k with waiting := some f }) ∧
    (k.sending ≠ none → k.waiting ≠ none → k.hand f = { k with waiting := some f, superseded := up32 k.superseded })) ∧
  ∀ (l : Link) (s : State), s.resetLine = false →
    (s.links[l].sending ≠ none →
      exec (.sweepFrameSent l) s = .next { s with
        links := s.links.set l { s.links[l] with
          sending := s.links[l].waiting, waiting := none, sweepsSent := up32 s.links[l].sweepsSent } }) ∧
    (s.links[l].sending = none → exec (.sweepFrameSent l) s = .next s)

/-! ### Sweeps, HOLD and the rehearsal generator (Chapters 1 and 10) -/

/-- R8: in FREE mode a RUNNING generator at count n below the limits gives the sweep the number n, hands FLI a SWEEP frame of
n mod 256 and a dwell of the period less 1 for each link of its sides while the source is FRONT-ENDS and none in a rehearsal
(R187), raises its count and schedules the next start one period later (R9); the transits of its sides' ports are counted (R50)
and RHG takes the start (R189). SWEEP_START is this start when it has fallen due. -/
def Obligations.FreeSweepStart : Prop :=
  ∀ (g : Generator) (s : State), s.swg.runMode = .free → (s.swg.gen g).run = .running →
    (s.swg.gen g).count < 16777215 → ¬s.WindowEnded g →
    let n := (s.swg.gen g).count
    let p := s.params.period g
    let sides := s.swg.sidesOf g
    (∀ side : Side, side ∈ sides ↔ s.swg.driver side = some g) ∧
    (∃ t, s.SweptTo t (fun l => if s.psc.source = .frontEnds ∧ linkSide l ∈ sides then some ⟨n % 256, p - 1⟩ else none) sides
        (s.swg.setGen g ⟨n + 1, .running, some (s.ulp.now + p)⟩) ∧
      s.attemptStart g = t.rhgStart sides n false) ∧
    (s.StartFallsDue g → exec (.sweepStart g) s = .next (s.attemptStart g))

/-- R10: in INTERLEAVED mode the A start of sweep n serves LEFT, with a dwell of h - 1, and schedules the B start of sweep n h ms
later and the next A start P ms later; the B start that falls first, wherever it stands among those scheduled, serves RIGHT,
changes no count, sets the last B start and leaves the others scheduled. A side that is OFF, or a rehearsal, takes no frame. A
calibration window that ended before the B start of its last sweep ends generator A there (R31). That of two B starts of one
millisecond the one scheduled earlier comes first is the model's choice (log entry 46). -/
def Obligations.InterleavedStarts : Prop :=
  (∀ s : State, s.swg.runMode = .interleaved → s.swg.genA.run = .running → s.swg.genA.count < 16777215 → ¬s.WindowEnded .a →
    let n := s.swg.genA.count
    let p := s.params.periodA
    let h := p / 2
    let sides : List Side := if s.swg.runLeft = .off then [] else [.left]
    (∃ t, s.SweptTo t (fun l => if s.psc.source = .frontEnds ∧ linkSide l ∈ sides then some ⟨n % 256, h - 1⟩ else none) sides
        { s.swg with
          genA := ⟨n + 1, .running, some (s.ulp.now + p)⟩
          bStarts := s.swg.bStarts ++ [⟨s.ulp.now + h, n, p - h - 1⟩] } ∧
      s.attemptStart .a = t.rhgStart sides n false) ∧
    (s.StartFallsDue .a → exec .aStart s = .next (s.attemptStart .a))) ∧
  ∀ (s : State) (b : BStart) (before after : List BStart), s.resetLine = false → s.swg.bStarts = before ++ b :: after →
    (∀ c ∈ before, b.due < c.due) → (∀ c ∈ after, b.due ≤ c.due) → b.due ≤ s.ulp.now →
    let last := b.sweep + 1 = s.swg.genA.count
    ∃ t, s.SweptTo t
        (fun l => if s.psc.source = .frontEnds ∧ s.swg.runRight ≠ .off ∧ linkSide l = .right then some ⟨b.sweep % 256, b.dwell⟩
          else none)
        [.right]
        { s.swg with
          lastB := some b.sweep, bStarts := before ++ after
          genA := if s.swg.endsAtB = true ∧ last then s.swg.genA.stopped else s.swg.genA
          endsAtB := s.swg.endsAtB && !decide last } ∧
      exec .bStart s = .next (t.rhgStart [.right] b.sweep true)

/-- A start that is not made: at the end of a calibration window the generator stops, in INTERLEAVED mode not before the B start
of its last sweep (R30, R31); at count 16,777,215 it stops and signals PSC, which closes a SCANNING pass with reason
SWEEP-LIMIT (R13, R134); while the generator is HELD the schedule goes on by the period, and the first withheld start of a HOLD
episode posts one SWEEP-HOLD (R12). CLOCK_LIMIT closes SCANNING at the end of the pass clock (R134). That both limits are tested
before HOLD, so that a HELD generator at count 16,777,215 stops, is the model's choice (log entry 21), and so is that withheld
starts are spaced by the period in force at each of them (log entry 45). -/
def Obligations.WithheldStartsAndLimits : Prop :=
  (∀ (g : Generator) (s : State),
    let v := s.swg.gen g
    let stopped : State := { s with swg := s.swg.setGen g v.stopped }
    let lastBWaits := ∃ b ∈ s.swg.bStarts, b.sweep + 1 = s.swg.genA.count
    (s.WindowEnded g → (s.swg.runMode = .free ∨ ¬lastBWaits) → s.attemptStart g = stopped) ∧
    (s.WindowEnded g → s.swg.runMode = .interleaved → lastBWaits →
      s.attemptStart g = { s with swg := { s.swg.setGen g { v with nextStart := none } with endsAtB := true } }) ∧
    (¬s.WindowEnded g → 16777215 ≤ v.count →
      s.attemptStart g = if s.psc.state = .scanning then stopped.settlingFrom .sweepLimit else stopped) ∧
    (¬s.WindowEnded g → v.count < 16777215 → v.run = .held →
      s.attemptStart g = { s with
        swg := { s.swg.setGen g { v with nextStart := some (s.ulp.now + s.params.period g) } with holdAlert := true }
        ulp := if s.swg.holdAlert then s.ulp else { s.ulp with alerts := insertAlert .sweepHold s.ulp.alerts } }) ∧
    (s.swg.drives g = true → windowEnd s.params s.swg g =
      if s.swg.runMode = .free then s.params.calWindow else s.params.calWindow + 2) ∧
    (s.swg.drives g = false → windowEnd s.params s.swg g = 0) ∧
    (s.swg.runMode = .free → s.StartFallsDue g → exec (.sweepStart g) s = .next (s.attemptStart g)) ∧
    (s.swg.runMode = .interleaved → s.StartFallsDue .a → exec .aStart s = .next (s.attemptStart .a))) ∧
  ∀ s : State, s.resetLine = false → s.psc.state = .scanning → s.psc.clock = 4294967295 →
    exec .clockLimit s = .next (s.settlingFrom .sweepLimit)

/-- RHG at a sweep start (R189, R190, R25). IDLE, or with its section on another side, it does nothing. PRESENTING, it writes by
the section sweep count k the marker read (0), the read of the k-th record of the list (1 to n) or nothing (above n), through
the arrival rule, and the count rises; at the span max(P, n + 2) it takes the next section of a driven side, whose marker is
written at the same start when its side is at this start; with none left it enters IDLE and closes the pass. WAITING ends at
the first start that is no settle sweep. With a displacement of 0 nothing is numbered and the ordinal stands. The ordinal at the
number of expected records with any other displacement, and the list and the section sweep count emptied at RHG's own completion,
are the model's choice (log entry 26). -/
def Obligations.RehearsalPresents : Prop :=
  ∀ (s : State) (sides : List Side) (sweep : Nat) (isB : Bool),
    let entry (y : Section) (tag : TagCode) (raw : Nat) : ReadEntry :=
      ⟨portAt y.side y.level, tag, raw, some sweep, false, false,
        if s.swg.runMode = .interleaved ∧ sweep ≤ 1 then some .settle else none⟩
    let counted (t : State) (k : Nat) : State := { t with rhg := { t.rhg with sweeps := k } }
    (s.rhg.run = .idle → s.rhgStart sides sweep isB = s) ∧
    (s.rhg.run = .waiting → s.rhgStart sides sweep isB =
      if s.swg.runMode = .free ∨ (isB = false ∧ 2 ≤ sweep) then (s.rhgTake 0).rhgStart sides sweep isB else s) ∧
    (∀ (j : Nat) (y : Section), s.rhg.run = .presenting → s.rhg.current = some j → s.tst.sections[j]? = some y →
      let k := s.rhg.sweeps
      let n := s.rhg.list.length
      let span := max (s.rhg.pace.getD 0) (n + 2)
      (y.side ∉ sides → s.rhgStart sides sweep isB = s) ∧
      (y.side ∈ sides → k + 1 < span →
        (k = 0 → s.rhgStart sides sweep isB =
          counted (s.arrive (entry y (markerTag s.params.markerClass y.id) 255)) 1) ∧
        (∀ (ref : Nat) (h : Holding), 1 ≤ k → s.rhg.list[k - 1]? = some ref → s.tst.holdings[ref]? = some h →
          s.rhgStart sides sweep isB = counted (s.arrive (entry y h.tag 200)) (k + 1)) ∧
        (n < k → s.rhgStart sides sweep isB = counted s (k + 1))) ∧
      (y.side ∈ sides → k + 1 = span →
        let u := (counted s (k + 1)).rhgTake (j + 1)
        (u.rhg.current = none → s.rhgStart sides sweep isB = u) ∧
        ∀ (i : Nat) (z : Section), u.rhg.current = some i → u.tst.sections[i]? = some z →
          s.rhgStart sides sweep isB =
            if z.side ∈ sides then counted (u.arrive (entry z (markerTag s.params.markerClass z.id) 255)) 1 else u)) ∧
    ∀ i : Nat,
      ((∀ y ∈ s.tst.sections.drop i, s.swg.driver y.side = none) →
        let t : State := { s with rhg := { s.rhg with run := .idle, current := none, list := [], sweeps := 0 } }
        s.rhgTake i = if s.psc.state = .scanning then t.settlingFrom .complete else t) ∧
      ∀ (j : Nat) (y : Section), i ≤ j → s.tst.sections[j]? = some y → s.swg.driver y.side ≠ none →
        (∀ m, i ≤ m → m < j → ∀ z, s.tst.sections[m]? = some z → s.swg.driver z.side = none) →
        s.rhgTake i = { s with rhg := { s.rhg with
          run := .presenting, current := some j, sweeps := 0
          list := presentationList s.tst (s.rhg.displacement.getD 0) y.id
          ordinal :=
            if s.rhg.displacement.getD 0 = 0 then s.rhg.ordinal
            else s.tst.holdings.countP (fun h => h.status.isExpected) } }

/-- R188: a section's presentation list holds exactly the expected records presented there, in ascending sort key and by load
order where keys are equal; the k-th expected record is presented in its home section, or, when d divides k, in the next section
of the home section's level run, and not at all where that section is absent. A list depends on the loaded fields of the records
alone, which stand through a pass (`Obligations.LoadedRecordsStand`), so the list of a section is the same at every moment of the
pass. -/
def Obligations.PresentationLists : Prop :=
  (∀ (tst : Tst) (d : Nat) (x : SectionId),
    let l := presentationList tst d x
    (∀ ref : Nat, ref ∈ l ↔ ∃ k h, (expectedRecords tst.holdings)[k]? = some (h, ref) ∧
      presentedIn tst.sections d (k + 1) h = some x) ∧
    l.Pairwise (fun a b => ∀ f ∈ tst.holdings[a]?, ∀ g ∈ tst.holdings[b]?, f.key < g.key ∨ f.key = g.key ∧ a < b)) ∧
  (∀ (sections : List Section) (d k : Nat) (h : Holding),
    (findSection sections h.home = none → presentedIn sections d k h = none) ∧
    (findSection sections h.home ≠ none → (d = 0 ∨ ¬d ∣ k) → presentedIn sections d k h = some h.home) ∧
    (∀ (i : Nat) (y : Section), findSection sections h.home = some y → sectionIndex sections h.home = some i → d ≠ 0 → d ∣ k →
      (∀ (j : Nat) (z : Section), i < j → sections[j]? = some z → z.side = y.side → z.level = y.level →
        (∀ m, i < m → m < j → ∀ x, sections[m]? = some x → ¬(x.side = y.side ∧ x.level = y.level)) →
        presentedIn sections d k h = some z.id) ∧
      ((∀ m, i < m → ∀ x, sections[m]? = some x → ¬(x.side = y.side ∧ x.level = y.level)) →
        presentedIn sections d k h = none))) ∧
  ∀ (a b : Tst) (d : Nat) (x : SectionId), a.holdings.map Holding.loaded = b.holdings.map Holding.loaded →
    a.sections.map Section.loaded = b.sections.map Section.loaded → presentationList a d x = presentationList b d x

/-- The generators are started together: the run takes the assignment and mode in force (R11), a generator that drives a side
enters RUNNING, or HELD while HOLD is requested, and makes or withholds its first start at once; one that drives none stays
STOPPED (R7, R12). HOLD: a write that raises the count to the high mark requests it, and so does a mark change that finds the
count there (R156, R157); every RUNNING generator enters HELD and PAM's window is disqualified (R181); at the low mark it is
released, every HELD generator enters RUNNING and starts at once (R12). The order A then B is the model's (log entry 21). -/
def Obligations.GeneratorStartsAndHold : Prop :=
  ∀ s : State,
    let first (g : Generator) (t : State) : State := if (t.swg.gen g).run = .stopped then t else t.attemptStart g
    let latched : Swg := { s.swg with
      runLeft := s.params.assignLeft, runRight := s.params.assignRight, runMode := s.params.sweepMode }
    let run (g : Generator) : RunState := if latched.drives g then (if s.ulp.hold then .held else .running) else .stopped
    let held (g : GenState) : GenState := if g.run = .running then { g with run := .held } else g
    let freed (g : GenState) : GenState := if g.run = .held then { g with run := .running } else g
    let requested (t : State) : State := { t with
      ulp := { t.ulp with
        hold := true, counters := { t.ulp.counters with holdEpisodes := up32 t.ulp.counters.holdEpisodes } }
      swg := { t.swg with genA := held t.swg.genA, genB := held t.swg.genB }
      pam := if t.pam.window = none then t.pam
        else { t.pam with ports := Vector.ofFn (fun p : Port => { t.pam.ports[p] with disqualified := true }) } }
    let released : State :=
      let t : State := { s with
        ulp := { s.ulp with hold := false }
        swg := { s.swg with genA := freed s.swg.genA, genB := freed s.swg.genB, holdAlert := false } }
      let u := if s.swg.genA.run = .held then first .a t else t
      if s.swg.genB.run = .held then first .b u else u
    let low := s.ulp.hold = true ∧ s.ulp.reports.length ≤ s.params.lowMark
    (s.startGenerators = first .b (first .a { s with swg := { latched with
      genA := { s.swg.genA with run := run .a }, genB := { s.swg.genB with run := run .b } } })) ∧
    (∀ r : Record,
      let t : State := { s with ulp := { s.ulp with reports := s.ulp.reports ++ [⟨r, s.ulp.now⟩] } }
      s.writeRecord r = if s.ulp.hold = false ∧ s.ulp.reports.length + 1 = s.params.highMark then requested t else t) ∧
    (s.releaseIfLow = if low then released else s) ∧
    (s.retestHold = if s.ulp.hold = false ∧ s.params.highMark ≤ s.ulp.reports.length then requested s
      else if low then released else s)

/-! ### Strength calibration (Chapter 2) -/

/-- R27: a raw strength at or below the offset converts to 0, any other to ((r - o) × g + 512) ÷ 1024, which is (r - o) × g ÷ 1024
rounded half up, clamped to 255. With the power-on values c equals r; the largest product is 1,568,897; c is 0 where the product
falls short of 512, which for a gain of the range is r - o = 1 with g below 512. Every read is converted with the offset and gain
of its port as they stand, and these change at power-on, at the RESET line and at the completion of a calibration run alone, so
every read of one pass is converted with the same values for its port. -/
def Obligations.StrengthConversion : Prop :=
  (∀ (o : Int) (g r : Nat),
    let product := ((r : Int) - o) * g
    ((r : Int) ≤ o → convert o g r = 0) ∧
    (o < r → (convert o g r : Int) = min 255 ((product + 512) / 1024) ∧ (product + 512) / 1024 = ⌊(product : ℚ) / 1024 + 1 / 2⌋) ∧
    (r ≤ 255 → -128 ≤ o → g ≤ 4095 → product + 512 ≤ 1568897) ∧
    (o < r → 256 ≤ g → (convert o g r = 0 ↔ (r : Int) - o = 1 ∧ g < 512))) ∧
  (255 - -128 : Int) * 4095 + 512 = 1568897 ∧
  (∀ r : Nat, r ≤ 255 → convert 0 1024 r = r) ∧
  (∀ (s : State) (e : ReadEntry), s.strength e = convert s.scu.ports[e.port].offset s.scu.ports[e.port].gain e.raw) ∧
  ∀ s t : State, step s = .next t → s.pending.head? ≠ some .powerOn → s.pending.head? ≠ some .resetLine →
    (s.pending.head? = some .calibrationComplete → s.psc.state ≠ .calibrating) →
    ∀ p : Port, t.scu.ports[p].offset = s.scu.ports[p].offset ∧ t.scu.ports[p].gain = s.scu.ports[p].gain

/-- The means and the two reasons to fail (R35), the gain (R36), the offset and the status of a calibrated port (R37), with their
clamps. An OK port converts its FAR mean to T_far within 2: the bound is inferred from the rounding of R37 under the greatest
gain. -/
def Obligations.CalibrationOutcome : Prop :=
  ∀ (c : ScuPort) (n tNear tFar : Nat), 2 ≤ n →
    let mean (sum count : Nat) : Nat := (sum + count / 2) / count
    let formed (sum count : Nat) : Option Nat := if count = 0 then none else some (mean sum count)
    let last : CalResult := ⟨c.nearCount, formed c.nearSum c.nearCount, c.farCount, formed c.farSum c.farCount⟩
    let mNear := mean c.nearSum c.nearCount
    let mFar := mean c.farSum c.farCount
    let d := mNear - mFar
    let g0 := ((tNear - tFar) * 1024 + d / 2) / d
    let g := max 256 (min 4095 g0)
    let o0 : Int := (mFar : Int) - ((tFar * 1024 + g / 2) / g : Nat)
    let o : Int := max (-128) (min 127 o0)
    (c.nearCount < n / 2 ∨ c.farCount < n / 2 ∨ mNear ≤ mFar →
      c.outcome n tNear tFar = { c with status := .failed, last := last }) ∧
    (n / 2 ≤ c.nearCount → n / 2 ≤ c.farCount → mFar < mNear →
      c.outcome n tNear tFar =
        { c with offset := o, gain := g, last := last, status := if g = g0 ∧ o = o0 then .ok else .clamped }) ∧
    (n / 2 ≤ c.nearCount → n / 2 ≤ c.farCount → mFar < mNear → g = g0 → o = o0 → tFar ≤ 255 →
      convert o g mFar ≤ tFar + 2 ∧ tFar ≤ convert o g mFar + 2)

/-- CALIBRATION_COMPLETE (R34, R38): with both generators STOPPED, no item of work in hand and every port queue empty, all
outcomes are applied together, ports of an undriven side take NOT-RUN with counts 0 and means absent, the accumulators, the
carry-over counts and the tag codes are cleared, CAL-PASS is cleared where a port is FAILED or CLAMPED, every scheduled start is
cancelled (R7) and IDLE is entered. Otherwise nothing happens (log entry 1). That the accumulators are 0 after it, is log entry
24. -/
def Obligations.CalibrationCompletes : Prop :=
  ∀ s : State, s.resetLine = false →
    let ready := s.psc.state = .calibrating ∧ s.swg.genA.run = .stopped ∧ s.swg.genB.run = .stopped ∧ s.spe.work = .idle ∧
      ∀ p : Port, s.piq[p].queue = []
    let after (p : Port) : ScuPort :=
      let c := s.scu.ports[p]
      let v := if s.swg.driver (portSide p) ≠ none then c.outcome s.params.calWindow s.params.tNear s.params.tFar
        else { c with status := .notRun, last := ⟨0, none, 0, none⟩ }
      { v with nearSum := 0, nearCount := 0, farSum := 0, farCount := 0, carryOver := 0 }
    (ready → exec .calibrationComplete s = .next { s with
      swg := { s.swg with genA := s.swg.genA.stopped, genB := s.swg.genB.stopped, bStarts := [], endsAtB := false }
      scu := { s.scu with
        ports := Vector.ofFn after, nearTag := none, farTag := none
        calPass := s.scu.calPass && decide (∀ p : Port, (after p).status ≠ .failed ∧ (after p).status ≠ .clamped) }
      psc := { s.psc with state := .idle } }) ∧
    (¬ready → exec .calibrationComplete s = .next s)

/-- CALIBRATE (R29, R167, R178): the shape, then the tests of R29 in order, each refused with its code and an empty payload and
no other change; otherwise the run begins as one action (CAL-PASS set, accumulators and tallies 0, the codes stored, the
carry-over counts the queue lengths, R32, the stale counts 0, R76, the sweeps cleared, the generators started) and DONE carries
the ports calibrated, N and the window end counts. While the report queue holds 512 records it is held back (R150). -/
def Obligations.CalibrateIsTested : Prop :=
  ∀ (s : State) (f : MgmtFrame) (rest : List MgmtFrame), s.AtHead f rest → f.kind = 0x28#8 →
    let near := tagOf (f.payload.take 12)
    let far := tagOf (f.payload.drop 12)
    let classes := tagClass near = s.params.referenceClass ∧ tagClass far = s.params.referenceClass
    let begun : State := { s with
      ulp := { s.ulp with mgmt := rest }
      scu :=
        ⟨Vector.ofFn (fun p : Port => { s.scu.ports[p] with
            nearSum := 0, nearCount := 0, farSum := 0, farCount := 0, carryOver := s.piq[p].queue.length }),
          true, 0, 0, 0, 0, some near, some far⟩
      spe := { s.spe with stale := Vector.replicate 16 0 }
      swg := { s.swg with
        genA := { s.swg.genA with count := 0 }, genB := { s.swg.genB with count := 0 }, lastB := none, bStarts := []
        endsAtB := false, runLeft := s.params.assignLeft, runRight := s.params.assignRight, runMode := s.params.sweepMode }
      psc := { s.psc with state := .calibrating } }
    let ports : Nat := ((List.finRange 16).map (fun p : Port =>
      if begun.swg.driver (portSide p) ≠ none then 2 ^ p.val else 0)).sum
    let payload (t : State) : List Byte :=
      bytesOf 2 ports ++ bytesOf 1 s.params.calWindow ++ bytesOf 1 (windowEnd t.params t.swg .a) ++
        bytesOf 1 (windowEnd t.params t.swg .b)
    (512 ≤ s.ulp.reports.length → exec .calibrate s = .next s) ∧
    (s.ulp.reports.length < 512 →
      (f.payload.length ≠ 24 → exec .calibrate s = .next (s.answered f rest .badParam [])) ∧
      (f.payload.length = 24 → s.psc.state ≠ .idle → exec .calibrate s = .next (s.answered f rest .badState [])) ∧
      (f.payload.length = 24 → s.psc.state = .idle →
        ¬(classes ∧ near ≠ far ∧ s.params.tFar + 16 ≤ s.params.tNear) →
        exec .calibrate s = .next (s.answered f rest .badParam [])) ∧
      (f.payload.length = 24 → s.psc.state = .idle → classes → near ≠ far → s.params.tFar + 16 ≤ s.params.tNear →
        exec .calibrate s = .next (begun.startGenerators.withReply f .done (payload begun.startGenerators))))

/-- A read that SPE takes while CALIBRATING (R77, R32, R33): an error tag, a stamp tag or an undriven side drops it; counted off
by the carry-over count it raises that tally; another class, another reference code and a count at 65,535 raise theirs; NEAR and
FAR reads add their raw strength to their own port's sums. The facing table and the sightings stand. -/
def Obligations.CalibrationReads : Prop :=
  ∀ (s : State) (e : ReadEntry) (rest : List ReadEntry), s.NextRead e rest → s.psc.state = .calibrating →
    s.spe.stale[e.port] = 0 →
    let t := s.afterTake e rest
    let c := t.scu.ports[e.port]
    let usable := e.crcFail = false ∧ e.collision = false ∧ e.stamp = none ∧ s.swg.driver (portSide e.port) ≠ none
    let ends (u : Scu) : Prop := exec .readTake s = .next { t with scu := u }
    (¬usable → ends t.scu) ∧
    (usable → 0 < s.scu.ports[e.port].carryOver → ends { t.scu with tallyCarryOver := t.scu.tallyCarryOver + 1 }) ∧
    (usable → s.scu.ports[e.port].carryOver = 0 →
      (tagClass e.tag ≠ s.params.referenceClass → ends { t.scu with tallyNonReference := t.scu.tallyNonReference + 1 }) ∧
      (tagClass e.tag = s.params.referenceClass →
        (s.scu.nearTag = some e.tag → ends
          (if c.nearCount < 65535 then { t.scu with
            ports := t.scu.ports.set e.port { c with nearSum := c.nearSum + e.raw, nearCount := c.nearCount + 1 } }
          else { t.scu with tallyOverCount := t.scu.tallyOverCount + 1 })) ∧
        (s.scu.nearTag ≠ some e.tag → s.scu.farTag = some e.tag → ends
          (if c.farCount < 65535 then { t.scu with
            ports := t.scu.ports.set e.port { c with farSum := c.farSum + e.raw, farCount := c.farCount + 1 } }
          else { t.scu with tallyOverCount := t.scu.tallyOverCount + 1 })) ∧
        (s.scu.nearTag ≠ some e.tag → s.scu.farTag ≠ some e.tag → ends
          { t.scu with tallyOtherReference := t.scu.tallyOtherReference + 1 })))

/-! ### Intake, markers and facings (Chapters 3 and 5) -/

/-- READ_TAKE (R75 to R80): every take does what `State.afterTake` says, and the first test of R77 that applies drops the read:
by the pass state, as stale, by its error tags, by its stamp tags, or as a read of an undriven side, each raising its counter
while a pass is open. A REFERENCE read is counted (R43); an ITEM read at or below the read floor is FAINT (R79), one of a port
that faces nothing NO-FACING, one of a section that is not OPEN a REVISIT, one of a DISPOSED record a RESIGHT (R80, R81). -/
def Obligations.DroppedReadsAreCounted : Prop :=
  ∀ (s : State) (e : ReadEntry) (rest : List ReadEntry), s.NextRead e rest →
    let t := s.afterTake e rest
    let open_ := s.psc.state = .scanning ∨ s.psc.state = .settling
    let fresh := open_ ∧ s.spe.stale[e.port] = 0
    let clean := fresh ∧ e.crcFail = false ∧ e.collision = false
    let item := s.Admits e ∧ tagClass e.tag ≠ s.params.markerClass ∧ tagClass e.tag ≠ s.params.referenceClass
    let drops (f : SpeCounters → SpeCounters) : Prop := exec .readTake s = .next (t.tally f)
    (s.psc.state = .idle → exec .readTake s = .next t) ∧
    (s.psc.state = .preparing ∨ s.psc.state = .tallying ∨ open_ ∧ 0 < s.spe.stale[e.port] →
      drops (fun c => { c with unswept := up32 c.unswept })) ∧
    (fresh → e.crcFail = true ∨ e.collision = true → drops (fun c => { c with errorTagged := up32 c.errorTagged })) ∧
    (clean → e.stamp = some .late → drops (fun c => { c with late := up32 c.late })) ∧
    (clean → e.stamp = some .settle → drops (fun c => { c with settle := up32 c.settle })) ∧
    (clean → e.stamp = none → s.swg.driver (portSide e.port) = none → drops (fun c => { c with late := up32 c.late })) ∧
    (s.Admits e → tagClass e.tag ≠ s.params.markerClass → tagClass e.tag = s.params.referenceClass →
      exec .readTake s = .next { t with
        mfu := { t.mfu with
          counters := { t.mfu.counters with referenceDropped := up32 t.mfu.counters.referenceDropped } } }) ∧
    (item → s.strength e ≤ s.params.readFloor → drops (fun c => { c with faint := up32 c.faint })) ∧
    (item → s.params.readFloor < s.strength e →
      (s.mfu.ports[e.port].facing = none → drops (fun c => { c with noFacing := up32 c.noFacing })) ∧
      (∀ x, s.mfu.ports[e.port].facing = some x → s.sectionOpen x = false →
        drops (fun c => { c with revisit := up32 c.revisit }))) ∧
    ∀ (x : SectionId) (r : Nat) (h : Holding), s.Weighs e x → findHolding s.tst.holdings e.tag = some r →
      s.tst.holdings[r]? = some h → h.mark = .disposed → drops (fun c => { c with resight := up32 c.resight })

/-- A MARKER read (R44 to R46, R48, R49, R51, R53, R55, R58): MARKER-READS rises whatever the outcome; a read below the
threshold, of an unknown section or of another side or level is counted and discarded; a marker of the section faced changes
nothing; the first facing makes no direction, cadence test or skip count; a change takes its direction from the sequence indices,
restarts the transit, counts skips and a reversal, and reports the section left, RUSHED when its stay was short, before the
section entered. What the report does is `Obligations.SectionsLeftAndEntered`. -/
def Obligations.MarkersMoveFacings : Prop :=
  ∀ (s : State) (e : ReadEntry) (rest : List ReadEntry), s.NextRead e rest → s.Admits e →
    tagClass e.tag = s.params.markerClass →
    let t := s.afterTake e rest
    let f := s.mfu.ports[e.port]
    let n := t.mfu.counters
    let k : MfuCounters := { n with markerReads := up32 n.markerReads }
    let counts (c : MfuCounters) : Prop := exec .readTake s = .next { t with mfu := { t.mfu with counters := c } }
    let faces (c : MfuCounters) (r : FacingRecord) : State :=
      { t with mfu := { ports := t.mfu.ports.set e.port r, counters := c } }
    (s.strength e < s.params.markerThreshold → counts { k with weakMarker := up32 k.weakMarker }) ∧
    (s.params.markerThreshold ≤ s.strength e → findSection s.tst.sections (tagSection e.tag) = none →
      counts { k with unmappedMarker := up32 k.unmappedMarker }) ∧
    (∀ y, s.params.markerThreshold ≤ s.strength e → findSection s.tst.sections (tagSection e.tag) = some y →
      y.side ≠ portSide e.port ∨ y.level ≠ portLevel e.port → counts { k with crossMarker := up32 k.crossMarker }) ∧
    ∀ y, s.Accepts e y →
      (f.facing = some y.id → counts k) ∧
      (f.facing = none → exec .readTake s = .next
        ((faces { k with facingChanges := up32 n.facingChanges } ⟨some y.id, 0, false, f.lastMove⟩).enterSection y.id
          .unknown)) ∧
      ∀ (x : SectionId) (i j : Nat), f.facing = some x → x ≠ y.id → sectionIndex s.tst.sections x = some i →
        sectionIndex s.tst.sections y.id = some j →
        let move : Direction := if i < j then .forward else .reverse
        let between := (List.range s.tst.sections.length).countP (fun m =>
          match s.tst.sections[m]? with
          | none => false
          | some z => decide (min i j < m ∧ m < max i j ∧ z.side = y.side ∧ z.level = y.level ∧ z.state = .unvisited))
        exec .readTake s = .next
          (((faces
              { k with
                facingChanges := up32 n.facingChanges, skips := min 4294967295 (n.skips + between)
                reversals := if f.lastMove = .unknown ∨ f.lastMove = move then n.reversals else up32 n.reversals }
              ⟨some y.id, 0, false, move⟩).leaveSection x move
                (decide (f.transit < s.params.minTransit ∧ s.sectionOpen x = true))).enterSection y.id move)

/-- What SRU does with the section left and the section entered of a report (R105 to R107, R47, R48, R110, R120). An OPEN section
left takes unfaced-since, QUIET in place of FACED, a direction it does not have and the RUSHED mark. An UNVISITED section
entered opens at the end of the open-section list, its close begun at once under close-all; an OPEN one is FACED again in place
of QUIET; a CLOSING or CLOSED one stands. At 32 entries the OPEN section open longest is EVICTED and its close carried out, and
the opening waits; with every entry CLOSING it waits at once. That a section left which is not OPEN stands, also where it still
waits UNVISITED for its place, is the model's choice (log entry 38). -/
def Obligations.SectionsLeftAndEntered : Prop :=
  ∀ (s : State) (x : SectionId) (y : Section), findSection s.tst.sections x = some y →
    let learn (held move : Direction) : Direction := if held = .unknown then move else held
    let sections (f : Section → Section) : List Section := s.tst.sections.map (fun z => if z.id = x then f z else z)
    let stages (f : CloseStage → CloseStage) : List OpenSection :=
      s.sru.openList.map (fun o => if o.sec = x then { o with stage := f o.stage } else o)
    (∀ (move : Direction) (rushed : Bool),
      (y.state = .opened → s.leaveSection x move rushed = { s with
        tst := { s.tst with sections := sections (fun z => { z with
          unfacedSince := some s.psc.clock, direction := learn z.direction move, rushed := z.rushed || rushed }) }
        sru := { s.sru with openList := stages (fun g => if g = .faced then .quiet else g) } }) ∧
      (y.state ≠ .opened → s.leaveSection x move rushed = s)) ∧
    (∀ move : Direction,
      (y.state = .opened → s.enterSection x move = { s with
        tst := { s.tst with sections := sections (fun z => { z with
          unfacedSince := none, direction := learn z.direction move }) }
        sru := { s.sru with openList := stages (fun g => if g = .quiet then .faced else g) } }) ∧
      (y.state = .closing ∨ y.state = .closed → s.enterSection x move = s) ∧
      (y.state = .unvisited → s.sru.openList.length < 32 →
        let u : State := { s with
          tst := { s.tst with sections := sections (fun z => z.openedWith move) }
          sru := { s.sru with
            openList := s.sru.openList ++ [⟨x, .faced, ⟨0, 0, 0, 0, 0⟩, none⟩]
            counters := { s.sru.counters with sectionsOpened := up32 s.sru.counters.sectionsOpened } } }
        s.enterSection x move = if s.sru.closeAll then u.beginClose x else u) ∧
      (y.state = .unvisited → 32 ≤ s.sru.openList.length → (∀ o ∈ s.sru.openList, o.stage = .closing) →
        s.enterSection x move = { s with spe := { s.spe with work := .waitPlace ⟨x, move⟩ } }) ∧
      ∀ (before after : List OpenSection) (o : OpenSection), y.state = .unvisited → 32 ≤ s.sru.openList.length →
        s.sru.openList = before ++ o :: after → (∀ b ∈ before, b.stage = .closing) → o.stage ≠ .closing →
        s.enterSection x move = State.forcePlaceRun { s with
          tst := { s.tst with sections := s.tst.sections.map (fun z => if z.id = o.sec then { z with evicted := true } else z) }
          sru := { s.sru with
            openList := s.sru.openList.map (fun b => if b.sec = o.sec then { b with stage := .requested } else b)
            counters := { s.sru.counters with sectionEvictions := up32 s.sru.counters.sectionEvictions } }
          spe := { s.spe with requests := s.spe.requests.erase o.sec } } o.sec (some ⟨x, move⟩))

/-! ### Sightings, scoring and placement (Chapter 5) -/

/-- A new sighting (R81, R82, R97): an admitted item read with weight whose record is not DISPOSED and whose tag has no entry
makes an entry in the lowest free slot, SIGHTED, OPEN, with one candidate and read count 1, and the confirm test follows. At
2,048 entries a victim is evicted first: the OPEN entry of the oldest last-read time, the lower slot where times tie, which is
placed and then retired early, or the oldest PLACED one when none is OPEN. That an entry is looked for by its tag code is the
model's choice (log entry 28), and so is the moment at which SCORED rises (log entry 41). -/
def Obligations.NewSightings : Prop :=
  (∀ (s : State) (e : ReadEntry) (rest : List ReadEntry) (x : SectionId), s.NextRead e rest → s.Weighs e x →
    s.disposed (findHolding s.tst.holdings e.tag) = false → (∀ i ∈ s.spe.table, i.tag ≠ e.tag) →
    exec .readTake s = .next ((s.afterTake e rest).newEntry (s.evidence e x) (findHolding s.tst.holdings e.tag))) ∧
  ∀ (s : State) (r : ItemRead) (ref : Option Nat),
    (∀ (before after : List Sighting) (slot : Nat), s.spe.table.length < 2048 → s.spe.table = before ++ after →
      before.map Sighting.slot = List.range slot → (∀ i ∈ after, slot < i.slot) →
      s.newEntry r ref = (State.confirmTest { s with
        spe := { s.spe with
          table := before ++ ⟨slot, r.tag, ref, [⟨r.sec, r.weight, r.strength, r.sweep⟩], 1, s.psc.clock, none, 0, false⟩ :: after
          counters := { s.spe.counters with newSightings := up32 s.spe.counters.newSightings } }
        tst := match ref with
          | none => s.tst
          | some k => { s.tst with holdings := s.tst.holdings.modify k (fun h => { h with mark := .sighted }) } } slot).scoreOver) ∧
    ∀ v : Sighting, s.spe.work = .idle → s.spe.table.length = 2048 → s.spe.table.Pairwise (fun a b => a.slot < b.slot) →
      v ∈ s.spe.table →
      let older (a b : Sighting) : Prop := a.lastRead < b.lastRead ∨ a.lastRead = b.lastRead ∧ a.slot ≤ b.slot
      let t := s.tally (fun c => { c with evictions := up32 c.evictions })
      (v.placement = none → (∀ w ∈ s.spe.table, w.placement = none → older v w) →
        s.newEntry r ref =
          let u := t.place v.slot .evict (.newEntry r ref)
          if u.spe.work = .idle then (u.earlyRetire v.slot).makeEntry r ref else u) ∧
      ((∀ w ∈ s.spe.table, w.placement ≠ none ∧ older v w) →
        s.newEntry r ref = (t.earlyRetire v.slot).makeEntry r ref)

/-- What scoring makes of an entry's candidates (R84, R85, R87). A section already listed gains the weight, held at 65,535, and a
stronger read gives peak and peak sweep; a new section joins a list of fewer than three; at three the lowest that may be
replaced, the latest added among equals and never the placed section's, gives way if it is below the weight, else the read is
SHED. The lead is the earliest of the highest scores, and the margin its distance to the best of the others. -/
def Obligations.CandidatesAreScored : Prop :=
  (∀ (e : Sighting) (r : ItemRead), (e.candidates.map Candidate.sec).Nodup →
    let new : Candidate := ⟨r.sec, r.weight, r.strength, r.sweep⟩
    (∀ (before after : List Candidate) (c : Candidate), e.candidates = before ++ c :: after → c.sec = r.sec →
      e.scored r = some (before ++
        (if c.peak < r.strength then ⟨c.sec, min 65535 (c.score + r.weight), r.strength, r.sweep⟩
          else ⟨c.sec, min 65535 (c.score + r.weight), c.peak, c.sweep⟩) :: after)) ∧
    ((∀ c ∈ e.candidates, c.sec ≠ r.sec) → e.candidates.length < 3 → e.scored r = some (e.candidates ++ [new])) ∧
    ∀ (before after : List Candidate) (low : Candidate), (∀ c ∈ e.candidates, c.sec ≠ r.sec) → 3 ≤ e.candidates.length →
      e.candidates = before ++ low :: after → (∀ x k, e.placement = some (x, k) → low.sec ≠ x) →
      (∀ c ∈ before, (∀ x k, e.placement = some (x, k) → c.sec ≠ x) → low.score ≤ c.score) →
      (∀ c ∈ after, (∀ x k, e.placement = some (x, k) → c.sec ≠ x) → low.score < c.score) →
      e.scored r = if low.score < r.weight then some (before ++ after ++ [new]) else none) ∧
  ∀ (before after : List Candidate) (c : Candidate),
    (∀ d ∈ before, d.score < c.score) → (∀ d ∈ after, d.score ≤ c.score) →
    leadOf (before ++ c :: after) = some c ∧
    ((∀ d ∈ before ++ after, d.sec ≠ c.sec) →
      marginOf (before ++ c :: after) = c.score - ((before ++ after).map Candidate.score).foldr max 0)

/-- A scored read of an existing entry (R86, R90, R95, R96): the candidates, the read count, the last-read time and SCORED, and
the peak sweep of the placed candidate in its list item; then the confirm test of an OPEN entry, or the move test of a PLACED
one that is not frozen: with two moves behind it a met test freezes it where it stands, AMBIGUOUS. A SHED read changes nothing
but its counter. That the entry is found by its tag code (log entry 28), that a move into a full list counts as a move (log entry
15) and the moment at which SCORED rises (log entry 41) are the model's choice. -/
def Obligations.ScoredReads : Prop :=
  (∀ (s : State) (e : ReadEntry) (rest : List ReadEntry) (x : SectionId) (v : Sighting), s.NextRead e rest → s.Weighs e x →
    s.disposed (findHolding s.tst.holdings e.tag) = false → v ∈ s.spe.table → v.tag = e.tag →
    (s.spe.table.map Sighting.tag).Nodup → (s.spe.table.map Sighting.slot).Nodup →
    let t := s.afterTake e rest
    let r := s.evidence e x
    (v.scored r = none → exec .readTake s = .next (t.tally (fun c => { c with shed := up32 c.shed }))) ∧
    ∀ list, v.scored r = some list →
      let v' : Sighting := { v with candidates := list, reads := min 65535 (v.reads + 1), lastRead := s.psc.clock }
      let u : State := { t with spe := { t.spe with
        table := s.spe.table.map (fun w => if w.slot = v.slot then v' else w) } }
      (v.placement = none → exec .readTake s = .next ((u.confirmTest v.slot).scoreOver)) ∧
      ∀ (l : SectionId) (k : Confidence) (c : Candidate), v.placement = some (l, k) → v'.candidate l = some c →
        exec .readTake s =
          .next ((State.moveTest { u with tst := { u.tst with sections := u.tst.sections.map (fun y => if y.id = l then
            { y with list := y.list.map (fun i => if i.slot = some v.slot then { i with peak := c.sweep } else i) }
            else y) } } v.slot).scoreOver)) ∧
  ∀ (s : State) (v : Sighting), entryAt s.spe.table v.slot = some v →
    (∀ c, leadOf v.candidates = some c →
      s.confirmTest v.slot =
        if s.params.minReads ≤ v.reads ∧ s.params.confirmScore ≤ c.score ∧ s.params.margin ≤ marginOf v.candidates
        then s.place v.slot .confirm .done else s) ∧
    ∀ (x : SectionId) (k : Confidence) (held : Candidate), v.placement = some (x, k) → v.candidate x = some held →
      let others := v.candidates.filter (fun c => c.sec != x && s.sectionOpen c.sec)
      (v.frozen = true → s.moveTest v.slot = s) ∧
      (v.frozen = false → (∀ c ∈ others, c.score < held.score + s.params.margin) → s.moveTest v.slot = s) ∧
      ∀ c, v.frozen = false → leadOf others = some c → held.score + s.params.margin ≤ c.score →
        let k' : Confidence :=
          if s.params.minReads ≤ v.reads ∧ s.params.margin ≤ marginOf v.candidates then .firm else .ambiguous
        let item : Item :=
          ⟨some v.slot, v.tag, v.ref, c.sweep, (v.ref.bind (fun r => s.tst.holdings[r]?)).map Holding.key, k'⟩
        (v.moves < 2 → (s.listOf c.sec).length < 96 →
          s.moveTest v.slot = { s with
            tst := { s.tst with sections := s.tst.sections.map (fun y =>
              if y.id = c.sec then { y with list := y.list ++ [item] }
              else if y.id = x then { y with list := y.list.filter (fun i => i.slot != some v.slot) } else y) }
            spe := { s.spe with
              table := s.spe.table.map (fun w => if w.slot = v.slot then
                { w with placement := some (c.sec, k'), moves := w.moves + 1 } else w)
              counters := { s.spe.counters with moves := up32 s.spe.counters.moves } } }) ∧
        (v.moves < 2 → 96 ≤ (s.listOf c.sec).length →
          s.moveTest v.slot = (s.tally (fun n => { n with moves := up32 n.moves })).disposeFull c.sec v k' .done) ∧
        (2 ≤ v.moves →
          s.moveTest v.slot = { s with
            tst := { s.tst with sections := s.tst.sections.map (fun y => if y.id = x then
              { y with list := y.list.map (fun i =>
                if i.slot = some v.slot then { i with confidence := .ambiguous } else i) } else y) }
            spe := { s.spe with
              table := s.spe.table.map (fun w => if w.slot = v.slot then
                { w with frozen := true, placement := some (x, .ambiguous) } else w)
              counters := { s.spe.counters with freezes := up32 s.spe.counters.freezes } } })

/-- An OPEN entry is placed in its lead section (R88, R89): the item at the end of the list, the entry PLACED with the confidence
of the FIRM test, the record PLACED, the route counted; a list of 96 items disposes of it instead (R94). QUIET_EXPIRY (R91)
places the due entry in the lowest slot in this way, in SCANNING and SETTLING, when SPE has nothing else in hand (R74). That it
does nothing when no entry is due is the model's choice (log entry 1). -/
def Obligations.EntriesArePlaced : Prop :=
  (∀ (s : State) (v : Sighting) (c : Candidate) (route : Route) (left : Continuation),
    entryAt s.spe.table v.slot = some v → leadOf v.candidates = some c →
    let firmly := s.params.minReads ≤ v.reads ∧ s.params.margin ≤ marginOf v.candidates
    let k : Confidence := if firmly then .firm else .ambiguous
    let n := s.spe.counters
    let raised : SpeCounters := match route with
      | .confirm => { n with placedConfirm := up32 n.placedConfirm }
      | .quiet => { n with placedQuiet := up32 n.placedQuiet }
      | .close => { n with placedClose := up32 n.placedClose }
      | .settle => { n with placedSettle := up32 n.placedSettle }
      | .evict => { n with placedEvict := up32 n.placedEvict }
    let item : Item :=
      ⟨some v.slot, v.tag, v.ref, c.sweep, (v.ref.bind (fun r => s.tst.holdings[r]?)).map Holding.key, k⟩
    ((s.listOf c.sec).length < 96 → s.place v.slot route left = { s with
      spe := { s.spe with
        table := s.spe.table.map (fun w => if w.slot = v.slot then { w with placement := some (c.sec, k) } else w)
        counters := raised }
      tst :=
        { holdings := match v.ref with
            | none => s.tst.holdings
            | some r => s.tst.holdings.modify r (fun h => { h with mark := .placed })
          sections := s.tst.sections.map (fun y => if y.id = c.sec then { y with list := y.list ++ [item] } else y) } }) ∧
    (96 ≤ (s.listOf c.sec).length →
      s.place v.slot route left = (s.tally (fun _ => raised)).disposeFull c.sec v k left)) ∧
  ∀ s : State, s.resetLine = false →
    let due (w : Sighting) : Prop := w.placement = none ∧ w.lastRead + s.params.quietTime ≤ s.psc.clock
    let runs := s.spe.work = .idle ∧ s.spe.requests = [] ∧ s.spe.settleRequest = false ∧
      (s.psc.state = .scanning ∨ s.psc.state = .settling)
    (∀ (before after : List Sighting) (w : Sighting), runs → s.spe.table = before ++ w :: after → (∀ b ∈ before, ¬due b) → due w →
      exec .quietExpiry s = .next (s.place w.slot .quiet .done)) ∧
    (¬runs ∨ (∀ w ∈ s.spe.table, ¬due w) → exec .quietExpiry s = .next s)

/-- An item that finds the list of an OPEN section full is disposed of at once (R113, R94): OVERFULL, the finding of R117 without
an order check, the tallies of R118, the record written when the queue holds fewer than 511 or only counted, the held record
DISPOSED, the entry out of the table and a moving item out of its old list. At 511 SPE's item of work waits, and
OVERFULL_FINDING_WRITE writes the finding when room has come, ends the disposition and goes on with the rest of the item of work.
Which tallies and counters a kind raises is stated in `Obligations.ReporterWritesFindings`. When each part falls while it waits is
log entry 14, and that a scored read counts when the wait is over log entry 41; that nothing happens while there is no room is log
entry 1. -/
def Obligations.FullListsDispose : Prop :=
  (∀ (s : State) (x : SectionId) (v : Sighting) (k : Confidence) (left : Continuation), entryAt s.spe.table v.slot = some v →
    let f := findingOf s.tst.holdings v.ref x false
    let record : Record := .finding ⟨f.1, v.tag, some x, f.2, some k⟩
    let t : State := { s with
      tst := { s.tst with sections := s.tst.sections.map (fun y => if y.id = x then { y with overfull := true } else y) }
      sru := { s.sru with
        openList := s.sru.openList.map (fun o => if o.sec = x then { o with tallies := o.tallies.raise f.1 } else o)
        counters := { s.sru.counters with overfullItems := up32 s.sru.counters.overfullItems }.raise f.1 } }
    (f.1 = .found → s.psc.verbose = false → s.disposeFull x v k left = t.finishDisposal v.slot) ∧
    (f.1 ≠ .found ∨ s.psc.verbose = true → s.ulp.reports.length < 511 →
      s.disposeFull x v k left = (t.writeRecord record).finishDisposal v.slot) ∧
    (f.1 ≠ .found ∨ s.psc.verbose = true → 511 ≤ s.ulp.reports.length →
      s.disposeFull x v k left =
        { t with spe := { t.spe with work := .waitRoom ⟨x, v.slot, f.1, v.tag, f.2, k, left⟩ } }) ∧
    s.finishDisposal v.slot = { s with
      spe := { s.spe with table := s.spe.table.filter (fun w => w.slot != v.slot) }
      tst :=
        { holdings := match v.ref with
            | none => s.tst.holdings
            | some r => s.tst.holdings.modify r (fun h => { h with mark := .disposed })
          sections := match v.placement with
            | none => s.tst.sections
            | some (y, _) => s.tst.sections.map (fun z =>
                if z.id = y then { z with list := z.list.filter (fun i => i.slot != some v.slot) } else z) } }) ∧
  ∀ (s : State) (d : Disposition), s.resetLine = false → s.spe.work = .waitRoom d →
    let t := (State.writeRecord { s with spe := { s.spe with work := .idle } }
      (.finding ⟨d.kind, d.tag, some d.sec, d.home, some d.confidence⟩)).finishDisposal d.slot
    (511 ≤ s.ulp.reports.length → exec .overfullFindingWrite s = .next s) ∧
    (s.ulp.reports.length < 511 → exec .overfullFindingWrite s = .next (State.waitOver (match d.rest with
      | .done => t
      | .forcePlace x opening => t.forcePlaceRun x opening
      | .settle => t.settleRun
      | .newEntry r ref => t.makeEntry r ref)))

/-- FORCE_PLACE_AND_RETIRE (R92, R111, R74): SPE takes the request handed earliest. Each OPEN entry led by X is placed in ascending
slot order; unless one must wait for room, X then becomes CLOSING behind those that wait for the reporter, and every entry placed
in X leaves the table with its held record DISPOSED. When X is closed for an opening, the opening then waits for its place
(R110). An early retire (R98) takes one PLACED entry out in the same way and leaves its list item, with no sighting reference. -/
def Obligations.ClosesForcePlaceAndRetire : Prop :=
  (∀ (s : State) (x : SectionId) (later : List SectionId), s.resetLine = false → s.spe.work = .idle →
    s.spe.requests = x :: later →
    exec .forcePlaceAndRetire s = .next (State.forcePlaceRun { s with spe := { s.spe with requests := later } } x none)) ∧
  (∀ (s : State) (x : SectionId) (opening : Option OpenRequest), s.spe.work = .idle →
    let led := (s.spe.table.filter (fun w => w.placement = none ∧ w.leadSection = some x)).map Sighting.slot
    let t := led.foldl (fun t slot => if t.spe.work = .idle then t.place slot .close (.forcePlace x opening) else t) s
    let placedIn (w : Sighting) : Bool := (w.placement.map Prod.fst) == some x
    let retired (ref : Nat) : Bool := t.spe.table.any (fun w => placedIn w && w.ref == some ref)
    (t.spe.work ≠ .idle → s.forcePlaceRun x opening = t) ∧
    (t.spe.work = .idle → s.forcePlaceRun x opening = { t with
      tst :=
        { holdings := t.tst.holdings.zipIdx.map (fun h => if retired h.2 then { h.1 with mark := .disposed } else h.1)
          sections := t.tst.sections.map (fun y => if y.id = x then { y with state := .closing } else y) }
      sru := { t.sru with
        openList := t.sru.openList.map (fun o => if o.sec = x then { o with stage := .closing } else o)
        closing := t.sru.closing ++ [x] }
      spe := { t.spe with
        table := t.spe.table.filter (fun w => !placedIn w)
        work := match opening with
          | none => .idle
          | some r => .waitPlace r } })) ∧
  ∀ (s : State) (v : Sighting) (x : SectionId) (k : Confidence), entryAt s.spe.table v.slot = some v →
    v.placement = some (x, k) →
    s.earlyRetire v.slot = { s with
      tst :=
        { holdings := match v.ref with
            | none => s.tst.holdings
            | some r => s.tst.holdings.modify r (fun h => { h with mark := .disposed })
          sections := s.tst.sections.map (fun y => if y.id = x then
            { y with list := y.list.map (fun i => if i.slot = some v.slot then { i with slot := none } else i) } else y) }
      spe := { s.spe with table := s.spe.table.filter (fun w => w.slot != v.slot) } }

/-- DRAIN_COMPLETE (R135): in DRAINING, with no item of work in hand and all sixteen queues empty, PLACING is entered and SPE
handed the settle request. SETTLE (R93, R136, R120): every OPEN entry is placed in ascending slot order; unless one must wait for
room, CLOSING-ALL is entered and close-all is in force: the close of every OPEN section begins in list order, and with no
section OPEN or CLOSING the tally begins at once. That DRAIN_COMPLETE does nothing before that (log entry 1) and does not wait for
the force-place and retire requests handed to SPE (log entry 39) is the model's choice. -/
def Obligations.SettlingDrainsAndPlaces : Prop :=
  (∀ s : State, s.resetLine = false →
    let drained := s.psc.state = .settling ∧ s.psc.stage = .draining ∧ s.spe.work = .idle ∧ ∀ p : Port, s.piq[p].queue = []
    (drained → exec .drainComplete s = .next { s with
      psc := { s.psc with stage := .placing }, spe := { s.spe with settleRequest := true } }) ∧
    (¬drained → exec .drainComplete s = .next s)) ∧
  ∀ s : State, s.resetLine = false → s.spe.work = .idle → s.spe.requests = [] → s.spe.settleRequest = true →
    let t := ((s.spe.table.filter (fun w => w.placement = none)).map Sighting.slot).foldl
      (fun t slot => if t.spe.work = .idle then t.place slot .settle .settle else t) s
    let asked := t.sru.openList.filter (fun o => o.stage = .faced ∨ o.stage = .quiet)
    let u : State := { t with
      psc := { t.psc with stage := .closingAll }
      spe := { t.spe with settleRequest := false, requests := t.spe.requests ++ asked.map OpenSection.sec }
      sru := { t.sru with
        closeAll := true
        openList := t.sru.openList.map (fun o =>
          if o.stage = .faced ∨ o.stage = .quiet then { o with stage := .requested } else o) } }
    (t.spe.work ≠ .idle → exec .settle s = .next t) ∧
    (t.spe.work = .idle → (t.sru.openList.map OpenSection.sec).Nodup → t.psc.state = .settling →
      exec .settle s = .next (if t.sru.openList = [] then { u with
        sru := { u.sru with closeAll := false }
        psc := { u.psc with state := .tallying, tallyPosition := 0, tallyWait := none } } else u))

/-- Closes and openings that fall due. The close of an OPEN section begins by R108: REQUESTED, and a force-place and retire
request behind those handed before; a section REQUESTED, CLOSING or CLOSED is left alone. QUIET_CLOSE (R109) begins it when the
pass clock has reached unfaced-since plus Q in stage QUIET. SECTION_OPEN_AFTER_WAIT (R110 step 3, R106): once the list holds
fewer than 32 entries the waiting section opens. That QUIET_CLOSE does nothing before its time and SECTION_OPEN_AFTER_WAIT nothing
at 32 entries is the model's choice (log entry 1), and so are that the section opens FACED with unfaced-since absent also where its
port has lost its facing during the wait (log entry 38) and that any place free among the 32 serves, also one freed before the wait
began (log entry 43). -/
def Obligations.QuietClosesAndWaitingOpenings : Prop :=
  (∀ (s : State) (x : SectionId) (o : OpenSection), findOpen s.sru.openList x = some o →
    let begun : State := { s with
      sru := { s.sru with
        openList := s.sru.openList.map (fun b => if b.sec = x then { b with stage := .requested } else b) }
      spe := { s.spe with requests := s.spe.requests ++ [x] } }
    (s.beginClose x = if o.stage = .faced ∨ o.stage = .quiet then begun else s) ∧
    ∀ (y : Section), s.resetLine = false → findSection s.tst.sections x = some y →
      let due := (s.psc.state = .scanning ∨ s.psc.state = .settling) ∧ o.stage = .quiet ∧
        ∃ t, y.unfacedSince = some t ∧ t + s.params.quietTime ≤ s.psc.clock
      (due → exec (.quietClose x) s = .next begun) ∧ (¬due → exec (.quietClose x) s = .next s)) ∧
  ∀ (s : State) (r : OpenRequest), s.resetLine = false → s.spe.work = .waitPlace r →
    let u : State := { s with
      spe := { s.spe with work := .idle }
      tst := { s.tst with
        sections := s.tst.sections.map (fun z => if z.id = r.sec then z.openedWith r.direction else z) }
      sru := { s.sru with
        openList := s.sru.openList ++ [⟨r.sec, .faced, ⟨0, 0, 0, 0, 0⟩, none⟩]
        counters := { s.sru.counters with sectionsOpened := up32 s.sru.counters.sectionsOpened } } }
    (s.sru.openList.length < 32 →
      exec .sectionOpenAfterWait s = .next (if s.sru.closeAll then u.beginClose r.sec else u)) ∧
    (32 ≤ s.sru.openList.length → exec .sectionOpenAfterWait s = .next s)

/-! ### The reporter (Chapter 6) -/

/-- The order check (R114, R115): the items with a key take part; two of them are inverted when their peak sweeps differ by more
than T and their keys run against the section's direction; each flagged item has, among those not flagged before it, the largest
inversion count, then the later peak sweep, then the greater key, then the later place in the list, and its count is above zero;
when the check ends no inverted pair is left, after at most one flag fewer than the participating items. -/
def Obligations.OrderCheckFlagsTheWorstFirst : Prop :=
  (∀ (list : List Item) (a : Entrant), a ∈ entrants list ↔
    ∃ n i, list[n]? = some i ∧ i.key = some a.key ∧ a.position = n + 1 ∧ a.peak = i.peak) ∧
  ∀ (d : Direction) (t : Nat),
    let runsAgainst (i j : Entrant) : Prop :=
      i.peak + t < j.peak ∧ (d = .forward ∧ j.key < i.key ∨ d = .reverse ∧ i.key < j.key)
    (∀ i j : Entrant, inverted d t i j = true ↔ runsAgainst i j ∨ runsAgainst j i) ∧
    ∀ list : List Item,
      let e := entrants list
      let flags := flagging d t list.length e
      orderCheck d t list = flags.map Entrant.position ∧ flags.Nodup ∧ (∀ a ∈ flags, a ∈ e) ∧
      (e ≠ [] → flags.length < e.length) ∧
      (∀ a ∈ e, ∀ b ∈ e, a ∉ flags → b ∉ flags → inverted d t a b = false) ∧
      ∀ (before after : List Entrant) (a : Entrant), flags = before ++ a :: after →
        let under := e.filter (fun b => b ∉ before)
        let count (b : Entrant) : Nat := (under.filter (fun x => inverted d t b x)).length
        0 < count a ∧ ∀ b ∈ under, b ≠ a →
          count b < count a ∨ count b = count a ∧
            (b.peak < a.peak ∨ b.peak = a.peak ∧ (b.key < a.key ∨ b.key = a.key ∧ b.position < a.position))

/-- The reporter. REPORTER_TAKE_SECTION (R111, R114, R116): idle, it takes the CLOSING section that entered CLOSING first, with
its order check, or ORDER-UNCHECKED under direction UNKNOWN. FINDING_WRITE (R117, R118): the item at the report position has its
finding and raises the tallies once, each kind those of R118 and R123; the record is written when the queue holds fewer than 511,
a FOUND finding of a pass that is not verbose is only counted, and at 511 the reporter waits at the item. That the tallies rise
before that wait is the model's choice (log entry 19), and so are that the report position of a section with no item left is one
past its list (log entry 44) and that nothing happens while the reporter is busy or has no item (log entry 1). -/
def Obligations.ReporterWritesFindings : Prop :=
  (∀ (holdings : List Holding) (x : SectionId) (flagged : Bool),
    findingOf holdings none x flagged = (.foreign, none) ∧
    ∀ (r : Nat) (h : Holding), holdings[r]? = some h →
      let expected := h.status = .shelved ∨ h.status = .reference
      (¬expected → findingOf holdings (some r) x flagged = (.statusConflict, some h.home)) ∧
      (expected → h.home ≠ x → findingOf holdings (some r) x flagged = (.misshelved, some h.home)) ∧
      (expected → h.home = x →
        findingOf holdings (some r) x flagged = (if flagged then .outOfOrder else .found, some x))) ∧
  (∀ (a b c d e : Nat) (n : SruCounters),
    let up16 (k : Nat) : Nat := min 65535 (k + 1)
    let tallies : Tallies := ⟨a, b, c, d, e⟩
    (tallies.raise .found = ⟨up16 a, b, c, d, e⟩ ∧ n.raise .found = { n with found := up32 n.found }) ∧
    (tallies.raise .outOfOrder = ⟨up16 a, up16 b, c, d, e⟩ ∧ n.raise .outOfOrder = { n with outOfOrder := up32 n.outOfOrder }) ∧
    (tallies.raise .misshelved = ⟨a, b, up16 c, d, e⟩ ∧ n.raise .misshelved = { n with misshelved := up32 n.misshelved }) ∧
    (tallies.raise .foreign = ⟨a, b, c, up16 d, e⟩ ∧ n.raise .foreign = { n with foreign := up32 n.foreign }) ∧
    (tallies.raise .statusConflict = ⟨a, b, c, d, up16 e⟩ ∧
      n.raise .statusConflict = { n with statusConflict := up32 n.statusConflict }) ∧
    ∀ k, k = .missing ∨ k = .uncertain → tallies.raise k = tallies ∧ n.raise k = n) ∧
  (∀ s : State, s.resetLine = false →
    (s.sru.reporter ≠ none ∨ s.sru.closing = [] → exec .reporterTakeSection s = .next s) ∧
    ∀ (x : SectionId) (later : List SectionId) (y : Section), s.sru.reporter = none → s.sru.closing = x :: later →
      findSection s.tst.sections x = some y →
      let taken (t : State) (flagged : List Nat) : State := { t with
        sru := { t.sru with
          reporter := some ⟨x, flagged, false⟩, closing := later
          openList := t.sru.openList.map (fun o => if o.sec = x then { o with reportPosition := some 1 } else o) } }
      (y.direction ≠ .unknown → exec .reporterTakeSection s =
        .next (taken s (orderCheck y.direction s.params.orderTolerance y.list))) ∧
      (y.direction = .unknown → exec .reporterTakeSection s = .next (taken { s with
        tst := { s.tst with
          sections := s.tst.sections.map (fun z => if z.id = x then { z with orderUnchecked := true } else z) }
        sru := { s.sru with
          counters := { s.sru.counters with uncheckedSections := up32 s.sru.counters.uncheckedSections } } } []))) ∧
  ∀ (s : State) (r : Reporter) (y : Section) (o : OpenSection) (p : Nat), s.resetLine = false → s.sru.reporter = some r →
    findSection s.tst.sections r.sec = some y → findOpen s.sru.openList r.sec = some o → o.reportPosition = some (p + 1) →
    (y.list[p]? = none → exec .findingWrite s = .next s) ∧
    ∀ i : Item, y.list[p]? = some i →
      let f := findingOf s.tst.holdings i.ref r.sec (r.flagged.contains (p + 1))
      let t : State := if r.waiting then s else { s with
        sru := { s.sru with
          openList := s.sru.openList.map (fun b => if b.sec = r.sec then { b with tallies := b.tallies.raise f.1 } else b)
          counters := s.sru.counters.raise f.1 } }
      let moved (t : State) : State := { t with
        sru := { t.sru with
          reporter := some ⟨r.sec, r.flagged, false⟩
          openList := t.sru.openList.map (fun b =>
            if b.sec = r.sec then { b with reportPosition := b.reportPosition.map (· + 1) } else b) } }
      (f.1 = .found → s.psc.verbose = false → exec .findingWrite s = .next (moved t)) ∧
      (f.1 ≠ .found ∨ s.psc.verbose = true → s.ulp.reports.length < 511 →
        exec .findingWrite s =
          .next (moved (t.writeRecord (.finding ⟨f.1, i.tag, some r.sec, f.2, some i.confidence⟩)))) ∧
      (f.1 ≠ .found ∨ s.psc.verbose = true → 511 ≤ s.ulp.reports.length →
        exec .findingWrite s = .next { t with sru := { t.sru with reporter := some ⟨r.sec, r.flagged, true⟩ } })

/-- SECTION_SUMMARY_WRITE (R119, R136): with every item dealt with and fewer than 511 records, the summary is written, the section
becomes CLOSED with its items released, its entry leaves the open-section list and the reporter is idle; with close-all in force
and the list empty TALLYING is entered, unless an opening waits for its place (log entry 17). That without room, or with
items left, nothing happens is log entry 1. -/
def Obligations.SectionSummaryClosesTheSection : Prop :=
  ∀ (s : State) (r : Reporter) (y : Section) (o : OpenSection) (p : Nat), s.resetLine = false → s.sru.reporter = some r →
    findSection s.tst.sections r.sec = some y → findOpen s.sru.openList r.sec = some o → o.reportPosition = some p →
    let t := s.writeRecord (.summary
      ⟨y.id, y.expected, o.tallies, y.rushed, y.overfull, y.evicted, y.orderUnchecked, y.direction⟩)
    let left := s.sru.openList.filter (fun b => b.sec != r.sec)
    let u : State := { t with
      tst := { s.tst with
        sections := s.tst.sections.map (fun z => if z.id = r.sec then { z with state := .closed, list := [] } else z) }
      sru := { s.sru with
        openList := left, reporter := none
        counters := { s.sru.counters with sectionsClosed := up32 s.sru.counters.sectionsClosed } } }
    (y.list.length < p → s.ulp.reports.length < 511 →
      (s.psc.state = .settling → s.sru.closeAll = true → left = [] → (∀ q, s.spe.work ≠ .waitPlace q) →
        exec .sectionSummaryWrite s = .next { u with
          sru := { u.sru with closeAll := false }
          psc := { u.psc with state := .tallying, tallyPosition := 0, tallyWait := none } }) ∧
      (s.psc.state ≠ .settling ∨ s.sru.closeAll = false ∨ left ≠ [] ∨ (∃ q, s.spe.work = .waitPlace q) →
        exec .sectionSummaryWrite s = .next u)) ∧
    (p ≤ y.list.length ∨ 511 ≤ s.ulp.reports.length → exec .sectionSummaryWrite s = .next s)

/-! ### The pass (Chapter 7) -/

/-- The tally walk (R137 to R140). A record that is not expected or is DISPOSED is passed over; any other is judged by its home
section, counted and DISPOSED; a MISSING or UNCERTAIN finding is written below 511 records and otherwise waits at its record, and
TALLY_FINDING_WRITE writes it when room has come. TALLY_WALK_END visits the records that are left (log entry 10); if none must
wait, PASS-END is written without waiting, the source returns to FRONT-ENDS and IDLE is entered. -/
def Obligations.TallyWalkJudgesAndEnds : Prop :=
  (∀ (s : State) (h : Holding), s.tst.holdings[s.psc.tallyPosition]? = some h →
    let on (t : State) : State := { t with psc := { t.psc with tallyPosition := t.psc.tallyPosition + 1 } }
    let judged (c : PscCounters) : State := { s with
      tst := { s.tst with holdings := s.tst.holdings.modify s.psc.tallyPosition (fun g => { g with mark := .disposed }) }
      psc := { s.psc with counters := c } }
    let walked := (h.status = .shelved ∨ h.status = .reference) ∧ h.mark ≠ .disposed
    let n := s.psc.counters
    let found (k : FindingKind) (t : State) : State :=
      if s.ulp.reports.length < 511 then on (t.writeRecord (.finding ⟨k, h.tag, none, some h.home, none⟩))
      else { t with psc := { t.psc with tallyWait := some ⟨k, h.tag, h.home⟩ } }
    (¬walked → s.tallyOne = on s) ∧
    (walked → findSection s.tst.sections h.home = none →
      s.tallyOne = on (judged { n with notCovered := up32 n.notCovered })) ∧
    ∀ y, walked → findSection s.tst.sections h.home = some y →
      (y.state = .unvisited → s.tallyOne = on (judged { n with notCovered := up32 n.notCovered })) ∧
      (y.state = .closed → y.rushed = true →
        s.tallyOne = found .uncertain (judged { n with uncertain := up32 n.uncertain })) ∧
      (y.state = .closed → y.rushed = false → s.tallyOne = found .missing (judged { n with missing := up32 n.missing }))) ∧
  (∀ (s : State) (f : TallyFinding), s.resetLine = false → s.psc.state = .tallying → s.psc.tallyWait = some f →
    let t := s.writeRecord (.finding ⟨f.kind, f.tag, none, some f.home, none⟩)
    (s.ulp.reports.length < 511 → exec .tallyFindingWrite s = .next { t with
      psc := { t.psc with tallyWait := none, tallyPosition := t.psc.tallyPosition + 1 } }) ∧
    (511 ≤ s.ulp.reports.length → exec .tallyFindingWrite s = .next s)) ∧
  (∀ s : State, s.resetLine = false → s.psc.state = .tallying → s.psc.tallyWait = none →
    let t := (fun t : State => if t.psc.tallyWait = none then t.tallyOne else t)^[s.tst.holdings.length - s.psc.tallyPosition] s
    let reason : PassEndReason := if s.psc.endReason = some .sweepLimit then .sweepLimit else .complete
    let u := t.writeRecord (.passEnd (t.passEnd reason))
    (t.psc.tallyWait ≠ none → exec .tallyWalkEnd s = .next t) ∧
    (t.psc.tallyWait = none → exec .tallyWalkEnd s = .next { u with
      psc := { u.psc with state := .idle, source := .frontEnds }
      rhg := { u.rhg with run := .idle, current := none, list := [], sweeps := 0 } })) ∧
  ∀ (s : State) (reason : PassEndReason),
    s.passEnd reason = ⟨reason, s.psc.state, s.psc.source, s.psc.clock, s.psc.counters, s.mfu.counters, s.spe.counters,
      s.sru.counters, Vector.ofFn (fun p : Port => s.piq[p].counters)⟩ ∧
    (s.passEnd reason).counts = [s.psc.counters.expectedTotal, s.sru.counters.found + s.sru.counters.outOfOrder,
      s.sru.counters.misshelved, s.psc.counters.missing, s.psc.counters.uncertain, s.psc.counters.notCovered,
      s.sru.counters.foreign, s.sru.counters.statusConflict, s.psc.counters.unmapped]

/-- OPEN_PASS, REHEARSE and CLOSE_PASS (R128, R129, R133, R150, R167, R179). An opening is held back in SETTLING and TALLYING and
at 512 records; its shape, the pass state, the pace of a REHEARSE and the tables are tested in that order, a failure refused with
an empty payload and no change; otherwise PREPARING is entered with the walk as the exchange in hand and no record behind it, its
reply at the end. That an unnamed verbose byte is refused before the pass state is tested is the model's choice (log entry 40).
CLOSE_PASS in SCANNING is answered DONE and closes the pass, reason COMPLETE; it is BAD-STATE in any other state. -/
def Obligations.PassesOpenAndClose : Prop :=
  ∀ (s : State) (f : MgmtFrame) (rest : List MgmtFrame), s.AtHead f rest →
    let emptied := s.tst.holdings = [] ∨ s.tst.sections = []
    let heldBack := s.psc.state = .settling ∨ s.psc.state = .tallying ∨ 512 ≤ s.ulp.reports.length
    let opened (source : PassSource) (verbose : Bool) (pace displacement : Option Nat) : State :=
      let t := s.preparing source verbose pace displacement
      { t with ulp := { t.ulp with mgmt := rest, inHand := some (.walk f.kind f.tag) } }
    let byte (n : Nat) : Nat := (f.payload.getD n 0).toNat
    (f.kind = 0x29#8 →
      let shaped := f.payload.length = 1 ∧ byte 0 ≤ 1
      (heldBack → exec .openPass s = .next s) ∧
      (¬heldBack → ¬shaped → exec .openPass s = .next (s.answered f rest .badParam [])) ∧
      (¬heldBack → shaped → s.psc.state ≠ .idle → exec .openPass s = .next (s.answered f rest .badState [])) ∧
      (¬heldBack → shaped → s.psc.state = .idle → emptied →
        exec .openPass s = .next (s.answered f rest .emptyTable [])) ∧
      (¬heldBack → shaped → s.psc.state = .idle → ¬emptied →
        exec .openPass s = .next (opened .frontEnds (byte 0 == 1) none none))) ∧
    (f.kind = 0x2A#8 →
      let shaped := f.payload.length = 3 ∧ byte 2 ≤ 1
      (heldBack → exec .rehearse s = .next s) ∧
      (¬heldBack → ¬shaped → exec .rehearse s = .next (s.answered f rest .badParam [])) ∧
      (¬heldBack → shaped → s.psc.state ≠ .idle → exec .rehearse s = .next (s.answered f rest .badState [])) ∧
      (¬heldBack → shaped → s.psc.state = .idle → byte 0 < 4 →
        exec .rehearse s = .next (s.answered f rest .badParam [])) ∧
      (¬heldBack → shaped → s.psc.state = .idle → 4 ≤ byte 0 → emptied →
        exec .rehearse s = .next (s.answered f rest .emptyTable [])) ∧
      (¬heldBack → shaped → s.psc.state = .idle → 4 ≤ byte 0 → ¬emptied →
        exec .rehearse s = .next (opened .rehearsal (byte 2 == 1) (some (byte 0)) (some (byte 1))))) ∧
    (f.kind = 0x2B#8 →
      (f.payload ≠ [] → exec .closePass s = .next (s.answered f rest .badParam [])) ∧
      (f.payload = [] → s.psc.state = .scanning →
        exec .closePass s = .next ((s.answered f rest .done []).settlingFrom .complete)) ∧
      (f.payload = [] → s.psc.state ≠ .scanning → exec .closePass s = .next (s.answered f rest .badState [])))

/-- The PREPARING walk (R129 parts 2 to 4, R131, R71) goes record by record: the marks in load order become UNSEEN, then the
sections take their pass-open values, then each expected record counts in its home section or as UNMAPPED; wherever it is ended,
what it has not reached stands. PREPARING_WALK_END (R130, R181, R191) visits the records that are left (log entry 9, the model's
choice); the expected total is formed and is the number of expected records; the reply DONE with it and UNMAPPED is queued, or
lost; the pass clock is 0, SCANNING is entered, PAM's first window runs from 0, RHG waits in a rehearsal that drives a side, and
the generators start. A rehearsal that drives no side passes over every section and closes at once (R190). -/
def Obligations.PreparingWalkEnds : Prop :=
  (∀ s : State, s.psc.marked = 0 → s.psc.cleared = 0 → s.psc.preparation = 0 → s.psc.counters.unmapped = 0 →
    (s.tst.sections.map Section.id).Nodup → s.tst.holdings.length ≤ 16384 →
    let all := s.tst.holdings
    let expected (h : Holding) : Bool := h.status == .shelved || h.status == .reference
    let homed (k : Nat) (x : SectionId) : Nat := (all.take k).countP (fun h => expected h && h.home == x)
    let walked (i j k : Nat) : State := { s with
      tst := ⟨(all.take i).map (fun h => { h with mark := .unseen }) ++ all.drop i,
        (s.tst.sections.take j).map (fun y =>
          ⟨y.id, y.side, y.level, homed k y.id, .unvisited, .unknown, false, false, false, false, none, []⟩) ++
          s.tst.sections.drop j⟩
      psc := { s.psc with
        marked := i, cleared := j, preparation := k
        counters := { s.psc.counters with
          unmapped := (all.take k).countP (fun h => expected h && (findSection s.tst.sections h.home).isNone) } } }
    (∀ i j k : Nat, i ≤ all.length → j ≤ s.tst.sections.length → k ≤ all.length → (j = 0 ∨ i = all.length) →
      (k = 0 ∨ i = all.length ∧ j = s.tst.sections.length) → State.walkOne^[i + j + k] s = walked i j k) ∧
    let t := walked all.length s.tst.sections.length all.length
    (t.tst.sections.map Section.expected).sum + t.psc.counters.unmapped = all.countP expected) ∧
  ∀ (s : State) (kind tag : Byte), s.resetLine = false → s.psc.state = .preparing → s.ulp.inHand = some (.walk kind tag) →
    let t := State.walkOne^[(s.tst.holdings.length - s.psc.marked) + (s.tst.sections.length - s.psc.cleared) +
      (s.tst.holdings.length - s.psc.preparation)] s
    let total := (t.tst.sections.map Section.expected).sum + t.psc.counters.unmapped
    let u : State := { t with
      ulp := { t.ulp with inHand := none }.answer
        ⟨tag, kind, .done, bytesOf 4 total ++ bytesOf 4 t.psc.counters.unmapped⟩
      psc := { t.psc with state := .scanning, clock := 0, counters := { t.psc.counters with expectedTotal := total } }
      swg := { t.swg with
        runLeft := t.params.assignLeft, runRight := t.params.assignRight, runMode := t.params.sweepMode } }
    let v : State := { u with pam := u.windowFrom 0 }
    (s.psc.source = .frontEnds → exec .preparingWalkEnd s = .next v.startGenerators) ∧
    (s.psc.source = .rehearsal → (∃ side, u.swg.driver side ≠ none) →
      exec .preparingWalkEnd s = .next (State.startGenerators { v with rhg := { v.rhg with run := .waiting } })) ∧
    (s.psc.source = .rehearsal → (∀ side, u.swg.driver side = none) →
      exec .preparingWalkEnd s = .next (State.settlingFrom { v with
        rhg := { v.rhg with run := .idle, current := none, list := [], sweeps := 0 } } .complete))

/-- ABORT_PASS (R142, R40): refused BAD-STATE in IDLE; otherwise the work is ended, PASS-END ABORTED written from the state in
which it was ended, the source returned to FRONT-ENDS, IDLE entered and DONE queued, or lost, behind the reply of an ended walk.
The report queue, the port queues, the clock and the pass counters are kept. -/
def Obligations.AbortPassEndsTheWork : Prop :=
  ∀ (s : State) (tag : Byte), s.resetLine = false →
    (s.psc.state = .idle → exec (.abortPass tag) s = .next { s with ulp := s.ulp.answer ⟨tag, 0x30#8, .badState, []⟩ }) ∧
    (s.psc.state ≠ .idle →
      let t := s.workEnded
      let u := t.writeRecord (.passEnd (t.passEnd .aborted))
      exec (.abortPass tag) s = .next { u with
        psc := { u.psc with state := .idle, source := .frontEnds }, ulp := u.ulp.answer ⟨tag, 0x30#8, .done, []⟩ })

/-- RESTART (R143, with the RESTART columns of R26, R28, R59, R73, R102, R124, R146, R165, R186, R191): outside IDLE the work is
ended; the report queue is emptied; outside IDLE PASS-END RESTART is its only record; the port queues are emptied without raising
the purged counters, the stale and carry-over counts 0, the management input queue emptied without replies; PAUSE, HOLD and the
SWEEP-HOLD flag cleared; every pass counter 0; the clock 0, the source FRONT-ENDS, the state IDLE; DONE queued, or lost. The
tables, the calibration values, the parameters, the link and uplink counters and the alerts are kept. That the UNMAPPED of a
PREPARING walk ended by RESTART is 0 with the other pass counters, and not its partial value, is log entry 42. -/
def Obligations.RestartReturnsToAnEmptyIdle : Prop :=
  ∀ (s : State) (tag : Byte), s.resetLine = false →
    let t := s.workEnded
    let u : State := if s.psc.state = .idle then { s with ulp := { s.ulp with reports := [] } }
      else State.writeRecord { t with ulp := { t.ulp with reports := [] } } (.passEnd (t.passEnd .restart))
    exec (.restart tag) s = .next { u with
      piq := Vector.ofFn (fun p : Port => { u.piq[p] with queue := [], episode := false, counters := ⟨0, 0, 0, 0⟩ })
      scu := { u.scu with
        ports := Vector.ofFn (fun p : Port => { u.scu.ports[p] with
          nearSum := 0, nearCount := 0, farSum := 0, farCount := 0, carryOver := 0 })
        nearTag := none, farTag := none }
      mfu := ⟨Vector.replicate 16 ⟨none, 0, false, .unknown⟩, ⟨0, 0, 0, 0, 0, 0, 0, 0⟩⟩
      spe := ⟨[], u.spe.pointer, Vector.replicate 16 0, none, .idle, [], false, false, SpeCounters.zero⟩
      sru := ⟨[], false, none, [], SruCounters.zero⟩
      pam := ⟨none, Vector.replicate 16 ⟨0, 0, false, 0, false⟩⟩
      rhg := ⟨.idle, none, none, 0, none, [], 0⟩
      psc := ⟨.idle, .frontEnds, u.psc.verbose, 0, none, .draining, 0, 0, 0, 0, u.psc.tallyWait, ⟨0, 0, 0, 0, 0⟩⟩
      swg := { u.swg with holdAlert := false }
      ulp := { u.ulp with mgmt := [], paused := false, hold := false, frameNumber := 0 }.answer ⟨tag, 0x31#8, .done, []⟩ }

/-! ### The activity monitor (Chapter 10) -/

/-- ACTIVITY_WINDOW_END (R183 to R185, R181, R155, R56): at the end of the window the ACTIVITY records are written in ascending
port order while reporting is on, below the high mark and otherwise dropped; then each port's window is judged, a fourth empty
window in a row making the port SILENT with its alert and the loss of its facing; then the next window runs from the end time
just reached. The order of ports in the judgement is ascending. That a HOLD which the window's own ACTIVITY records request
disqualifies the window that ends is the model's choice (log entry 20), and so is that before its end, and with no window
running, nothing happens (log entry 1). -/
def Obligations.ActivityWindowEnds : Prop :=
  (∀ (s : State) (p : Port) (reads hot : Nat),
    s.writeActivity (.activity p reads hot) =
      if s.ulp.reports.length < s.params.highMark ∧ s.ulp.reports.length < 511 then s.writeRecord (.activity p reads hot)
      else { s with ulp := { s.ulp with
        counters := { s.ulp.counters with activityDropped := up32 s.ulp.counters.activityDropped } } }) ∧
  ∀ s : State, s.resetLine = false →
    (s.pam.window = none → exec .activityWindowEnd s = .next s) ∧
    ∀ w, s.pam.window = some w →
      (s.psc.clock < w.stop → exec .activityWindowEnd s = .next s) ∧
      (w.stop ≤ s.psc.clock →
        let written (t : State) (p : Port) : State :=
          if s.params.activityReporting = true ∧ t.piq[p].mode = .active ∧ 0 < t.pam.ports[p].reads then
            t.writeActivity (.activity p t.pam.ports[p].reads t.pam.ports[p].hot)
          else t
        let judged (t : State) (p : Port) : State :=
          let q := t.pam.ports[p]
          let pam (v : PamPort) : Pam := { t.pam with ports := t.pam.ports.set p v }
          if q.silent then { t with pam := pam { q with empty := 4 } }
          else if 0 < q.reads ∨ q.disqualified = true then { t with pam := pam { q with empty := 0 } }
          else if q.empty + 1 < 4 then { t with pam := pam { q with empty := q.empty + 1 } }
          else
            let u : State := { t with
              pam := pam { q with empty := 4, silent := true }
              ulp := { t.ulp with alerts := insertAlert (.portSilent p) t.ulp.alerts } }
            match t.mfu.ports[p].facing with
            | none => u
            | some x =>
              State.leaveSection { u with mfu := { u.mfu with
                ports := u.mfu.ports.set p ⟨none, 0, false, t.mfu.ports[p].lastMove⟩ } } x .unknown false
        let j := (List.finRange 16).foldl judged ((List.finRange 16).foldl written s)
        exec .activityWindowEnd s = .next { j with pam := j.windowFrom w.stop })

/-! ### The uplink (Chapter 8) -/

/-- A frame received on the uplink in HUNTING (R148, R149, R152): bytes other than the sync byte are discarded; a length outside
4 to 1,200 is bad as soon as it is in; a CRC mismatch is bad at the last byte; a good frame raises GOOD-FRAMES and is sorted: the
bypass kinds act at once, whatever their payload, and any other kind waits in the management input queue or, when it holds 4, is
dropped as MGMT-OVERRUN. -/
def Obligations.UplinkFramesAreJudged : Prop :=
  ∀ s : State, s.resetLine = false → s.ulp.rx = .hunting →
    let counted (f : UlpCounters → UlpCounters) : State := { s with ulp := { s.ulp with counters := f s.ulp.counters } }
    (∀ bytes : List Byte, 0xA5#8 ∉ bytes → exec (.uplinkFrameJudged bytes) s = .next s) ∧
    (∀ hi lo : Byte, hi.toNat * 256 + lo.toNat < 4 ∨ 1200 < hi.toNat * 256 + lo.toNat →
      exec (.uplinkFrameJudged [0xA5#8, hi, lo]) s = .next (counted (fun c => { c with badLength := up32 c.badLength }))) ∧
    ∀ (n : Nat) (got : List Byte), 4 ≤ n → n ≤ 1200 → natOf (got.take 2) = n → got.length = n + 2 →
      let sound := natOf (got.drop n) = (crc16 (got.take n)).toNat
      let f : MgmtFrame := ⟨got.getD 2 0, got.getD 3 0, (got.drop 4).take (n - 4)⟩
      let t := counted (fun c => { c with goodFrames := up32 c.goodFrames })
      let result := exec (.uplinkFrameJudged (0xA5#8 :: got)) s
      (¬sound → result = .next (counted (fun c => { c with badCrc := up32 c.badCrc }))) ∧
      (sound → f.kind = 0x30#8 → result = exec (.abortPass f.tag) t) ∧
      (sound → f.kind = 0x31#8 → result = exec (.restart f.tag) t) ∧
      (sound → f.kind = 0x32#8 → result = exec .pause t) ∧
      (sound → f.kind = 0x33#8 → result = exec .resume t) ∧
      (sound → f.kind ∉ [0x30#8, 0x31#8, 0x32#8, 0x33#8] → result = .next (if t.ulp.mgmt.length < 4 then
          { t with ulp := { t.ulp with mgmt := t.ulp.mgmt ++ [f] } }
        else { t with ulp := { t.ulp with
          counters := { t.ulp.counters with mgmtOverrun := up32 t.ulp.counters.mgmtOverrun } } }))

/-- PAUSE, RESUME, the end of a frame and the flush time (R159, R160, R162, R163). An idle transmitter decides while PAUSE is
clear: a REPLY frame, else an ALERT frame, else a REPORT frame that meets the send test, else nothing. PAUSE sets the flag; RESUME
clears it and an idle transmitter decides; UPLINK_FRAME_END counts the frame and decides; FLUSH_TIME_EXPIRY decides once the
oldest record has waited the flush time. That each command includes its decision is log entry 27, and that UPLINK_FRAME_END with
no frame in transmission and FLUSH_TIME_EXPIRY before its time change nothing is log entry 1. -/
def Obligations.TheArbiterDecides : Prop :=
  ∀ s : State,
    let due := ∃ r, s.ulp.reports.head? = some r ∧ s.params.flushTime ≤ s.ulp.now - r.entry
    let mayBegin := s.ulp.sending = none ∧ s.ulp.paused = false
    (¬mayBegin → s.arbitrate = s) ∧
    (∀ r later, mayBegin → s.ulp.replies = r :: later → s.arbitrate = s.sendReply r) ∧
    (mayBegin → s.ulp.replies = [] → s.ulp.alerts ≠ [] → s.arbitrate = s.sendAlert) ∧
    (mayBegin → s.ulp.replies = [] → s.ulp.alerts = [] → 8 ≤ s.ulp.reports.length ∨ due → s.arbitrate = s.sendReport) ∧
    (s.ulp.replies = [] → s.ulp.alerts = [] → s.ulp.reports.length < 8 → ¬due → s.arbitrate = s) ∧
    (s.resetLine = false →
      exec .pause s = .next { s with ulp := { s.ulp with paused := true } } ∧
      (s.ulp.paused = true → exec .resume s = .next (State.arbitrate { s with ulp := { s.ulp with paused := false } })) ∧
      (s.ulp.paused = false → exec .resume s = .next s) ∧
      (s.ulp.sending ≠ none → exec .uplinkFrameEnd s = .next (State.arbitrate { s with ulp := { s.ulp with
        sending := none, counters := { s.ulp.counters with sentFrames := up32 s.ulp.counters.sentFrames } } })) ∧
      (s.ulp.sending = none → exec .uplinkFrameEnd s = .next s) ∧
      (due → exec .flushTimeExpiry s = .next s.arbitrate) ∧
      (¬due → exec .flushTimeExpiry s = .next s))

/-- The upstream frames (R160, R161, R193, R158). REPLY_FRAME begins with the oldest reply and its tag; ALERT_FRAME with the first
eight of the pending set, in the order of kinds and subjects, under tag 0; REPORT_FRAME with the oldest records up to eight and
1,196 payload bytes under the report frame number, RECORDS-SENT rising and HOLD released at the low mark. What is carried leaves
its queue. A posted alert joins the set once, and the set stays in order. The bytes of an alert and of each record are those of
section 11.5, a REPLY's result code that of section 11.4. -/
def Obligations.UpstreamFramesCarryTheOldest : Prop :=
  (∀ s : State, s.resetLine = false → s.ulp.sending = none → s.ulp.paused = false →
    (∀ r later, s.ulp.replies = r :: later → exec .replyFrame s = .next { s with ulp := { s.ulp with
      replies := later, sending := some ⟨0x40#8, r.tag, r.kind :: BitVec.ofNat 8 r.result.code :: r.payload⟩ } }) ∧
    (s.ulp.replies = [] → s.ulp.alerts ≠ [] → exec .alertFrame s = .next { s with ulp := { s.ulp with
      alerts := s.ulp.alerts.drop 8
      sending := some ⟨0x41#8, 0, BitVec.ofNat 8 (min 8 s.ulp.alerts.length) ::
        (s.ulp.alerts.take 8).flatMap Alert.bytes⟩ } }) ∧
    (s.ulp.replies = [] → s.ulp.alerts = [] → s.sendTest = true →
      let n := reportCount s.ulp.reports
      exec .reportFrame s = .next (State.releaseIfLow { s with ulp := { s.ulp with
        reports := s.ulp.reports.drop n
        frameNumber := (s.ulp.frameNumber + 1) % 256
        counters := { s.ulp.counters with recordsSent := min 4294967295 (s.ulp.counters.recordsSent + n) }
        sending := some ⟨0x42#8, BitVec.ofNat 8 s.ulp.frameNumber,
          BitVec.ofNat 8 n :: (s.ulp.reports.take n).flatMap (fun r => r.record.bytes)⟩ } }))) ∧
  (∀ reports : List QueuedRecord,
    let bytes (k : Nat) : Nat := 1 + ((reports.take k).map (fun r => r.record.size)).sum
    IsGreatest (fun k => k ≤ 8 ∧ k ≤ reports.length ∧ bytes k ≤ 1196) (reportCount reports)) ∧
  (∀ r : Record, r.bytes.length = r.size) ∧
  [ResultCode.done, .clamped, .aborted, .badState, .badParam, .badKind, .emptyTable, .tableFull, .duplicate, .badStatus, .badClass,
    .badLevel].map ResultCode.code = List.range 12 ∧
  (∀ (p : Port) (l : Link), (Alert.portOverflow p).bytes = [1, BitVec.ofNat 8 p.val] ∧
    (Alert.portSilent p).bytes = [2, BitVec.ofNat 8 p.val] ∧ (Alert.portStalled p).bytes = [3, BitVec.ofNat 8 p.val] ∧
    (Alert.linkError l).bytes = [4, BitVec.ofNat 8 l.val] ∧ Alert.sweepHold.bytes = [5, 0xFF]) ∧
  (∀ (f : Finding) (r : Summary) (p : Port) (reads hot : Nat),
    let two (x : Option SectionId) : List Byte := bytesOf 2 (x.getD 65535)
    let bit (b : Bool) (k : Nat) : Nat := if b then k else 0
    let kind : Byte := match f.kind with
      | .found => 1 | .outOfOrder => 2 | .misshelved => 3 | .statusConflict => 4 | .foreign => 5 | .missing => 6 | .uncertain => 7
    let confidence : Byte := match f.confidence with | some .firm => 0 | some .ambiguous => 1 | none => 0xFF
    (Record.finding f).bytes =
      [1, kind] ++ bytesOf 12 f.tag.toNat ++ two f.found ++ two f.home ++ [confidence] ∧
    (Record.summary r).bytes = [2] ++
      [r.sec, r.expected, r.tallies.foundHome, r.tallies.outOfOrder, r.tallies.misshelvedIn, r.tallies.foreign,
        r.tallies.conflict].flatMap (bytesOf 2) ++
      [BitVec.ofNat 8 (bit r.rushed 1 + bit r.overfull 2 + bit r.evicted 4 + bit r.orderUnchecked 8 +
        match r.direction with | .unknown => 0 | .forward => 16 | .reverse => 32)] ∧
    (Record.activity p reads hot).bytes = [3, BitVec.ofNat 8 p.val] ++ bytesOf 2 reads ++ bytesOf 2 hot) ∧
  (∀ e : PassEnd,
    let m := e.mfu
    let c := e.spe
    let n := e.sru
    let reason : Byte := match e.reason with | .complete => 1 | .sweepLimit => 2 | .aborted => 3 | .restart => 4
    let state : Byte := match e.stateAtEnd with
      | .idle => 0 | .calibrating => 1 | .preparing => 2 | .scanning => 3 | .settling => 4 | .tallying => 5
    let source : Byte := match e.source with | .frontEnds => 0 | .rehearsal => 1
    (Record.passEnd e).bytes = [4, reason, state, source] ++
      ([e.clock, e.psc.expectedTotal, n.found + n.outOfOrder, n.misshelved, e.psc.missing, e.psc.uncertain, e.psc.notCovered,
        n.foreign, n.statusConflict, e.psc.unmapped,
        m.markerReads, m.weakMarker, m.unmappedMarker, m.crossMarker, m.facingChanges, m.skips, m.reversals, m.referenceDropped,
        c.taken, c.unswept, c.errorTagged, c.late, c.settle, c.faint, c.noFacing, c.revisit, c.resight, c.shed, c.scored,
        c.newSightings, c.placedConfirm, c.placedQuiet, c.placedClose, c.placedSettle, c.placedEvict, c.moves, c.freezes,
        c.evictions,
        n.sectionsOpened, n.sectionsClosed, n.sectionEvictions, n.overfullItems, n.uncheckedSections, n.found, n.outOfOrder,
        n.misshelved, n.statusConflict, n.foreign] ++
        (List.finRange 16).flatMap (fun p : Port =>
          [e.piq[p].entered, e.piq[p].overflowDrops, e.piq[p].heldDrops, e.piq[p].purged])).flatMap (bytesOf 4)) ∧
  ∀ (x : Alert) (alerts : List Alert), alerts.Pairwise (fun a b => a.rank < b.rank) →
    (insertAlert x alerts).Pairwise (fun a b => a.rank < b.rank) ∧ ∀ y, y ∈ insertAlert x alerts ↔ y = x ∨ y ∈ alerts

/-- A frame on the link (section 11.1, R192): the receiver that hunts finds in the bytes of any frame whose length field lies in
the link's range exactly that frame, with its kind, tag and payload and a CRC that matches, and hunts again. A number of k bytes
is sent most significant byte first. -/
def Obligations.FramesReadBackAsTheyWereBuilt : Prop :=
  (∀ k n : Nat, (bytesOf k n).length = k ∧ natOf (bytesOf k n) = n % 256 ^ k) ∧
  ∀ (kind tag : Byte) (payload : List Byte) (lengthOk : Nat → Bool), payload.length ≤ 1196 → lengthOk (payload.length + 4) = true →
    let bytes := wireBytes kind tag payload
    let receive (r : Rx × List RxEvent) (b : Byte) : Rx × List RxEvent := ((rxByte lengthOk r.1 b).1, r.2 ++ [(rxByte lengthOk r.1 b).2])
    bytes.length = payload.length + 7 ∧
    ∃ got, bytes.foldl receive (.hunting, []) = (.hunting, List.replicate (payload.length + 6) .none ++ [.frame got]) ∧
      crcMatches got = true ∧ frameKind got = kind ∧ frameTag got = tag ∧ framePayload got = payload

/-! ### Management exchanges (Chapters 4 and 9) -/

/-- SET_PARAM (R169, R157, R170, R21, R23): the shape, then the tests of R169 in order, each refused with its code; a value
outside the range is replaced by the nearest end and answered CLAMPED, any other DONE, with the value in force and, for the high
mark, the low mark in force. Each ID reads and sets the parameter that R169 gives it, and changes that parameter alone; a new
high mark lowers a low mark above it less 16, and either mark tests HOLD at once; at a change of the flush time an idle
transmitter decides (R159, R160), before the reply is queued (log entry 27). A port mode or follows-global flag is set on the
port named, or on all sixteen. That a port emptied by its new flag is forgotten as the one that ended SPE's wait is the model's
choice (log entry 13). -/
def Obligations.ParametersAreSet : Prop :=
  (∀ (s : State) (f : MgmtFrame) (rest : List MgmtFrame), s.AtHead f rest → f.kind = 0x21#8 →
    let id := (f.payload.getD 0 0).toNat
    let selector := (f.payload.getD 1 0).toNat
    let v := natOf (f.payload.drop 2)
    let low := (paramRange s.params id).1
    let high := (paramRange s.params id).2
    let v' := max low (min high v)
    let perPort := id = 6 ∨ id = 7
    let named := 1 ≤ id ∧ id ≤ 26 ∧ (perPort → selector < 16 ∨ selector = 255) ∧ (id ∈ [3, 4] → v < 3) ∧
      (id ∈ [5, 6, 7, 26] → v < 2)
    let idle := id ∈ [3, 4, 5] ∨ 8 ≤ id ∧ id ≤ 20
    let clash := id = 8 ∧ v' = s.params.referenceClass ∨ id = 9 ∧ v' = s.params.markerClass
    let t := (s.withMgmt rest).applyParam id selector v'
    (f.payload.length ≠ 6 ∨ ¬named → exec .setParam s = .next (s.answered f rest .badParam [])) ∧
    (f.payload.length = 6 → named → idle → s.psc.state ≠ .idle → exec .setParam s = .next (s.answered f rest .badState [])) ∧
    (f.payload.length = 6 → named → (idle → s.psc.state = .idle) → clash →
      exec .setParam s = .next (s.answered f rest .badParam [])) ∧
    (f.payload.length = 6 → named → (idle → s.psc.state = .idle) → ¬clash →
      exec .setParam s = .next (t.withReply f (if v' = v then .done else .clamped)
        (bytesOf 1 id ++ bytesOf 1 selector ++ bytesOf 4 v' ++ (if id = 21 then bytesOf 4 t.params.lowMark else []))))) ∧
  (∀ q : Params,
    (List.range 27).map (paramRange q) = [(0, 1), (2, 250), (2, 250), (0, 2), (0, 2), (0, 1), (0, 1), (0, 1), (0, 255), (0, 255),
      (0, 254), (0, 255), (1, 15), (0, 65535), (1, 65535), (50, 5000), (0, 15), (1, 4095), (8, 64), (0, 255), (0, 255), (64, 496),
      (0, q.highMark - 16), (5, 500), (100, 10000), (0, 255), (0, 1)] ∧
    ∀ id v : Nat, 1 ≤ id → id ≤ 26 → id ∉ [6, 7] → (paramRange q id).1 ≤ v → v ≤ (paramRange q id).2 →
      (q.set id v).get id = v ∧
      ∀ k : Nat, k ≠ id → ¬(id = 21 ∧ k = 22) → (q.set id v).get k = q.get k) ∧
  (∀ q : Params,
    let assigned (g : Assign) : Nat := match g with | .a => 0 | .b => 1 | .off => 2
    let yes (b : Bool) : Nat := if b then 1 else 0
    (List.range 27).map q.get = [0, q.periodA, q.periodB, assigned q.assignLeft, assigned q.assignRight,
      match q.sweepMode with | .free => 0 | .interleaved => 1, 0, 0, q.markerClass, q.referenceClass, q.readFloor,
      q.markerThreshold, q.minReads, q.confirmScore, q.margin, q.quietTime, q.orderTolerance, q.minTransit, q.calWindow, q.tNear,
      q.tFar, q.highMark, q.lowMark, q.flushTime, q.activityWindow, q.hotThreshold, yes q.activityReporting] ∧
    (∀ g : Assign, q.set 3 (assigned g) = { q with assignLeft := g } ∧ q.set 4 (assigned g) = { q with assignRight := g }) ∧
    q.set 5 0 = { q with sweepMode := .free } ∧ q.set 5 1 = { q with sweepMode := .interleaved } ∧
    (∀ b : Bool, q.set 26 (yes b) = { q with activityReporting := b }) ∧
    ∀ v : Nat,
      (q.set 1 v = { q with periodA := v } ∧ q.set 2 v = { q with periodB := v } ∧ q.set 8 v = { q with markerClass := v } ∧
        q.set 9 v = { q with referenceClass := v } ∧ q.set 10 v = { q with readFloor := v } ∧
        q.set 11 v = { q with markerThreshold := v } ∧ q.set 12 v = { q with minReads := v } ∧
        q.set 13 v = { q with confirmScore := v } ∧ q.set 14 v = { q with margin := v } ∧
        q.set 15 v = { q with quietTime := v }) ∧
      (q.set 16 v = { q with orderTolerance := v } ∧ q.set 17 v = { q with minTransit := v } ∧
        q.set 18 v = { q with calWindow := v } ∧ q.set 19 v = { q with tNear := v } ∧ q.set 20 v = { q with tFar := v } ∧
        q.set 21 v = { q with highMark := v, lowMark := min q.lowMark (v - 16) } ∧ q.set 22 v = { q with lowMark := v } ∧
        q.set 23 v = { q with flushTime := v } ∧ q.set 24 v = { q with activityWindow := v } ∧
        q.set 25 v = { q with hotThreshold := v })) ∧
  ∀ (s : State) (id selector v : Nat),
    (id ∉ [6, 7, 21, 22, 23] → s.applyParam id selector v = { s with params := s.params.set id v }) ∧
    (id = 23 → v = s.params.flushTime → s.applyParam id selector v = s) ∧
    (id = 23 → v ≠ s.params.flushTime →
      s.applyParam id selector v = State.arbitrate { s with params := { s.params with flushTime := v } }) ∧
    (id = 21 → s.applyParam id selector v =
      State.retestHold { s with params := { s.params with highMark := v, lowMark := min s.params.lowMark (v - 16) } }) ∧
    (id = 22 → s.applyParam id selector v = State.retestHold { s with params := { s.params with lowMark := v } }) ∧
    (id = 6 ∨ id = 7 →
      (∀ p : Port, s.applyParam id p.val v = s.setPortParam id v p) ∧
      s.applyParam id 255 v = (List.finRange 16).foldl (fun t p => t.setPortParam id v p) s) ∧
    ∀ p : Port,
      let q := s.piq[p]
      let newly := v = 1 ∧ q.follows = false ∧ s.qhold = true
      let off (b : Bool) : Pam := if b = true ∧ s.pam.window ≠ none then
          { s.pam with ports := s.pam.ports.set p { s.pam.ports[p] with disqualified := true } }
        else s.pam
      s.setPortParam 6 v p = { s with
        piq := s.piq.set p { q with mode := if v = 1 then .muted else .active }, pam := off (decide (v = 1)) } ∧
      (¬newly → s.setPortParam 7 v p = { s with piq := s.piq.set p { q with follows := v == 1 } }) ∧
      (newly → s.setPortParam 7 v p = { s with
        piq := s.piq.set p { q with
          follows := true, queue := [], episode := false
          counters := { q.counters with purged := min 4294967295 (q.counters.purged + q.queue.length) } }
        spe := { s.spe with
          stale := s.spe.stale.set p 0, woken := if s.spe.woken = some p then none else s.spe.woken }
        scu := { s.scu with ports := s.scu.ports.set p { s.scu.ports[p] with carryOver := 0 } }
        pam := off true })

/-- The exchanges that read the device and change nothing but their queues (R166 to R168, R171 to R176, R150): IDENTIFY answers the
part's fixed payload, GET_PARAM the value in force or sixteen for a per-port parameter read with ALL, READ_STATUS the items of the
group as they stand, in the order of R173 to R176 with the encodings of section 11.4, and an unknown kind BAD-KIND with the kind
byte; a payload of the wrong shape, or a parameter, port or group that names nothing, is BAD-PARAM. That any of the five rows
refuses a group that names nothing is the model's choice (log entry 2), and so are the codes and the field order of the groups
where the manual leaves them open (log entry 29). -/
def Obligations.SnapshotsAreAnswered : Prop :=
  ∀ (s : State) (f : MgmtFrame) (rest : List MgmtFrame), s.AtHead f rest →
    let byte (n : Nat) : Nat := (f.payload.getD n 0).toNat
    let answers (c : Instr) (result : ResultCode) (payload : List Byte) : Prop :=
      exec c s = .next (s.answered f rest result payload)
    let group (c : Instr) (n : Nat) (payload : List Byte) : Prop :=
      (f.payload = [BitVec.ofNat 8 n] → answers c .done payload) ∧
      (f.payload.length ≠ 1 ∨ byte 0 = 0 ∨ 5 < byte 0 → answers c .badParam [])
    (f.kind = 0x20#8 →
      (f.payload = [] → answers .identify .done (bytesOf 2 0x4C10 ++ bytesOf 1 1 ++
        [16, 4, 16384, 1024, 2048, 32, 96, 32, 512, 8, 4, 26].flatMap (bytesOf 2))) ∧
      (f.payload ≠ [] → answers .identify .badParam [])) ∧
    (f.kind = 0x22#8 →
      let perPort := byte 0 = 6 ∨ byte 0 = 7
      let named := f.payload.length = 2 ∧ 1 ≤ byte 0 ∧ byte 0 ≤ 26 ∧ (perPort → byte 1 < 16 ∨ byte 1 = 255)
      let value (p : Port) : Nat := if byte 0 = 6 then s.piq[p].mode.code else s.piq[p].follows.toNat
      let head := bytesOf 1 (byte 0) ++ bytesOf 1 (byte 1)
      (¬named → answers .getParam .badParam []) ∧
      (named → ¬perPort → answers .getParam .done (head ++ bytesOf 4 (s.params.get (byte 0)))) ∧
      (named → perPort → byte 1 = 255 →
        answers .getParam .done (head ++ (List.finRange 16).flatMap (fun p => bytesOf 4 (value p)))) ∧
      (∀ p : Port, named → perPort → byte 1 = p.val → answers .getParam .done (head ++ bytesOf 4 (value p)))) ∧
    (f.kind = 0x23#8 →
      let flag (b : Bool) : List Byte := bytesOf 1 b.toNat
      let count (n : Nat) : List Byte := bytesOf 4 n
      let counts (l : List Nat) : List Byte := l.flatMap (bytesOf 4)
      let runStates : List RunState := [.stopped, .running, .held]
      let assigns : List Assign := [.a, .b, .off]
      let running := s.psc.state = .calibrating
      let m := s.mfu.counters
      let c := s.spe.counters
      let r := s.sru.counters
      let n := s.psc.counters
      let u := s.ulp.counters
      let port (p : Port) : List Byte := [
        count s.piq[p].queue.length, codeIn [.active, .muted] s.piq[p].mode, flag s.piq[p].follows, flag s.piq[p].episode,
        flag (s.qhold && s.piq[p].follows),
        counts [s.piq[p].counters.entered, s.piq[p].counters.overflowDrops, s.piq[p].counters.heldDrops,
          s.piq[p].counters.purged],
        orAbsent 2 s.mfu.ports[p].facing, bytesOf 2 s.mfu.ports[p].transit, flag s.mfu.ports[p].stalled,
        codeIn [.unknown, .forward, .reverse] s.mfu.ports[p].lastMove,
        [BitVec.ofInt 8 s.scu.ports[p].offset], bytesOf 2 s.scu.ports[p].gain,
        flag s.pam.ports[p].silent, counts [s.pam.ports[p].empty, s.pam.ports[p].reads, s.pam.ports[p].hot]].flatten
      let result (p : Port) : List Byte := [
        codeIn [.notRun, .ok, .clamped, .failed] s.scu.ports[p].status, [BitVec.ofInt 8 s.scu.ports[p].offset],
        bytesOf 2 s.scu.ports[p].gain, count s.scu.ports[p].last.nearCount, orAbsent 2 s.scu.ports[p].last.nearMean,
        count s.scu.ports[p].last.farCount, orAbsent 2 s.scu.ports[p].last.farMean].flatten
      let accumulators (p : Port) : List Byte :=
        [s.scu.ports[p].nearSum, s.scu.ports[p].nearCount, s.scu.ports[p].farSum, s.scu.ports[p].farCount,
          s.scu.ports[p].carryOver].flatMap (fun k => orAbsent 4 (if running then some k else none))
      let link (l : Link) : List Byte :=
        counts [s.links[l].goodFrames, s.links[l].badFrames, s.links[l].ignoredReads, s.links[l].sweepsSent,
          s.links[l].superseded] ++ flag s.links[l].errorLatch ++ bytesOf 1 (if s.links[l].rx = .hunting then 0 else 1)
      let placed (b : Bool) : Nat := s.spe.table.countP (fun w => w.placement.isSome == b)
      group .readStatusPass 1 [
        codeIn [.idle, .calibrating, .preparing, .scanning, .settling, .tallying] s.psc.state,
        codeIn [.frontEnds, .rehearsal] s.psc.source, flag s.psc.verbose, count s.psc.clock,
        codeIn [none, some .complete, some .sweepLimit] s.psc.endReason,
        codeIn [.draining, .placing, .closingAll] s.psc.stage, count s.psc.tallyPosition,
        counts [s.swg.genA.count, s.swg.genB.count], codeIn runStates s.swg.genA.run, codeIn runStates s.swg.genB.run,
        orAbsent 4 s.swg.lastB,
        codeIn assigns s.swg.runLeft, codeIn assigns s.swg.runRight, codeIn [.free, .interleaved] s.swg.runMode,
        flag s.ulp.hold, flag s.ulp.paused, flag s.qhold,
        counts [s.tst.holdings.length, s.tst.sections.length],
        [Mark.unseen, .sighted, .placed, .disposed].flatMap (fun k => count (s.tst.holdings.countP (fun h => h.mark = k))),
        counts [placed false, placed true],
        counts [s.sru.openList.length, s.sru.openList.countP (fun o => o.stage = .closing)],
        counts [n.expectedTotal, n.unmapped],
        counts [rest.length, s.ulp.replies.length, s.ulp.reports.length, s.ulp.alerts.length],
        flag s.scu.calPass].flatten ∧
      group .readStatusPorts 2 ((List.finRange 16).flatMap port) ∧
      group .readStatusCalibration 3 (flag s.scu.calPass ++
        counts [s.scu.tallyCarryOver, s.scu.tallyNonReference, s.scu.tallyOtherReference, s.scu.tallyOverCount] ++
        (List.finRange 16).flatMap result ++ codeOrAbsent (if running then s.scu.nearTag else none) ++
        codeOrAbsent (if running then s.scu.farTag else none) ++ (List.finRange 16).flatMap accumulators) ∧
      group .readStatusCounters 4 (counts [
        m.markerReads, m.weakMarker, m.unmappedMarker, m.crossMarker, m.facingChanges, m.skips, m.reversals,
        m.referenceDropped,
        c.taken, c.unswept, c.errorTagged, c.late, c.settle, c.faint, c.noFacing, c.revisit, c.resight, c.shed, c.scored,
        c.newSightings, c.placedConfirm, c.placedQuiet, c.placedClose, c.placedSettle, c.placedEvict, c.moves, c.freezes,
        c.evictions,
        r.sectionsOpened, r.sectionsClosed, r.sectionEvictions, r.overfullItems, r.uncheckedSections, r.found, r.outOfOrder,
        r.misshelved, r.statusConflict, r.foreign,
        n.expectedTotal, n.unmapped, n.missing, n.uncertain, n.notCovered]) ∧
      group .readStatusLinks 5 ((List.finRange 4).flatMap link ++ counts [
        u.goodFrames, u.badLength, u.badCrc, u.mgmtOverrun, u.replyLost, u.activityDropped, u.holdEpisodes, u.sentFrames,
        u.recordsSent] ++ bytesOf 1 s.ulp.frameNumber)) ∧
    (f.kind.toNat < 0x20 ∨ 0x2B < f.kind.toNat → answers .badKind .badKind [f.kind])

/-- RESET_PORT_QUEUES and its GLOBAL form (R22, R23, R177, R76, R32, R20): each port named by the mask, or each follows-global
port, loses its entries, which count as purged, its episode flag, its stale count and its carry-over count; the reply gives the
ports emptied and the entries discarded from each of the sixteen. The modes, the flags and every other block stand. A request
that names nothing is BAD-PARAM; that either row answers it is the model's choice (log entry 2), and so is that an emptied port
is forgotten as the one that ended SPE's wait (log entry 13). -/
def Obligations.PortQueuesAreReset : Prop :=
  ∀ (s : State) (f : MgmtFrame) (rest : List MgmtFrame), s.AtHead f rest → f.kind = 0x24#8 →
    let mode := (f.payload.getD 0 0).toNat
    let mask := natOf (f.payload.drop 1)
    let emptied (which : Port → Bool) : State :=
      let t : State := { s with
        piq := Vector.ofFn (fun p : Port => if which p then { s.piq[p] with
            queue := [], episode := false
            counters := { s.piq[p].counters with
              purged := min 4294967295 (s.piq[p].counters.purged + s.piq[p].queue.length) } }
          else s.piq[p])
        spe := { s.spe with
          stale := Vector.ofFn (fun p : Port => if which p then 0 else s.spe.stale[p])
          woken := match s.spe.woken with
            | none => none
            | some p => if which p then none else some p }
        scu := { s.scu with
          ports := Vector.ofFn (fun p : Port =>
            if which p then { s.scu.ports[p] with carryOver := 0 } else s.scu.ports[p]) } }
      (t.withMgmt rest).withReply f .done
        (bytesOf 2 ((List.finRange 16).map (fun p : Port => if which p then 2 ^ p.val else 0)).sum ++
          (List.finRange 16).flatMap (fun p : Port => bytesOf 1 (if which p then s.piq[p].queue.length else 0)))
    (f.payload.length = 3 → mode = 0 → mask ≠ 0 →
      exec .resetPortQueues s = .next (emptied (fun p => mask.testBit p.val))) ∧
    (f.payload.length = 3 → mode = 1 → exec .resetPortQueuesGlobal s = .next (emptied (fun p => s.piq[p].follows))) ∧
    (f.payload.length ≠ 3 ∨ mode = 0 ∧ mask = 0 ∨ 1 < mode →
      exec .resetPortQueues s = .next (s.answered f rest .badParam []) ∧
      exec .resetPortQueuesGlobal s = .next (s.answered f rest .badParam []))

/-- Loading and clearing (R60 to R67, R167). A load is tested at dispatch by its shape, the pass state and its block size, and
its block becomes the exchange in hand; LOAD_COMPLETE stores the records in turn up to the first that fails a test of R64 or R66
and answers its code, the number stored and the table count. The fields of both records stand where section 11.3 puts them.
CLEAR_TABLES empties the named tables in IDLE and answers how many records each held. That a block is stored in one action at its
end is log entry 11, and that an unnamed selector is refused before the pass state is tested log entry 40. -/
def Obligations.TablesAreLoadedAndCleared : Prop :=
  (∀ (s : State) (f : MgmtFrame) (rest : List MgmtFrame), s.AtHead f rest →
    let n := (f.payload.getD 0 0).toNat
    let load (c : Instr) (size : Nat) (block : Exchange) : Prop :=
      let shaped := f.payload ≠ [] ∧ f.payload.length = 1 + n * size
      (¬shaped → exec c s = .next (s.answered f rest .badParam [])) ∧
      (shaped → s.psc.state ≠ .idle → exec c s = .next (s.answered f rest .badState [])) ∧
      (shaped → s.psc.state = .idle → n = 0 ∨ 32 < n → exec c s = .next (s.answered f rest .badParam [])) ∧
      (shaped → s.psc.state = .idle → 1 ≤ n → n ≤ 32 →
        exec c s = .next { s with ulp := { s.ulp with mgmt := rest, inHand := some block } })
    let record (size k : Nat) : List Byte := ((f.payload.drop 1).drop (k * size)).take size
    (f.kind = 0x25#8 → load .loadHoldings 23
      (.loadHoldings f.tag ((List.range n).map (fun k => rawHolding (record 23 k))))) ∧
    (f.kind = 0x26#8 → load .loadSections 4
      (.loadSections f.tag ((List.range n).map (fun k => rawSection (record 4 k))))) ∧
    (f.kind = 0x27#8 →
      let shaped := f.payload.length = 1 ∧ 1 ≤ n ∧ n ≤ 3
      let h := n = 1 ∨ n = 3
      let y := n = 2 ∨ n = 3
      (¬shaped → exec .clearTables s = .next (s.answered f rest .badParam [])) ∧
      (shaped → s.psc.state ≠ .idle → exec .clearTables s = .next (s.answered f rest .badState [])) ∧
      (shaped → s.psc.state = .idle → exec .clearTables s = .next (State.answered { s with
        tst := ⟨if h then [] else s.tst.holdings, if y then [] else s.tst.sections⟩ } f rest .done
          (bytesOf 2 (if h then s.tst.holdings.length else 0) ++ bytesOf 2 (if y then s.tst.sections.length else 0)))))) ∧
  (∀ (s : State) (tag : Byte), s.resetLine = false →
    let ends (t : State) (kind : Byte) (r : ResultCode) (stored count : Nat) : State := { t with
      ulp := { t.ulp with inHand := none }.answer ⟨tag, kind, r, bytesOf 1 stored ++ bytesOf 2 count⟩ }
    (∀ block, s.ulp.inHand = some (.loadHoldings tag block) →
      let r := storeBlock (testHolding s.params) s.tst.holdings block 0
      exec .loadComplete s =
        .next (ends { s with tst := { s.tst with holdings := r.1 } } 0x25#8 r.2.2 r.2.1 r.1.length)) ∧
    (∀ block, s.ulp.inHand = some (.loadSections tag block) →
      let r := storeBlock testSection s.tst.sections block 0
      exec .loadComplete s =
        .next (ends { s with tst := { s.tst with sections := r.1 } } 0x26#8 r.2.2 r.2.1 r.1.length))) ∧
  (∀ (q : Params) (table : List Holding) (r : RawHolding),
    let special := tagClass r.tag = q.markerClass ∨ tagClass r.tag = q.referenceClass
    let present := ∃ h ∈ table, h.tag = r.tag
    (special → testHolding q table r = .error .badClass) ∧
    (¬special → statusOf r.status = none → testHolding q table r = .error .badStatus) ∧
    ∀ status, ¬special → statusOf r.status = some status →
      testHolding q table r =
        if 4095 < r.home then .error .badParam else if present then .error .duplicate
        else if 16384 ≤ table.length then .error .tableFull else .ok ⟨r.tag, r.key, r.home, status, .unseen⟩) ∧
  (∀ (table : List Section) (r : RawSection),
    let side : Side := if r.side = 0 then .left else .right
    let present := ∃ y ∈ table, y.id = r.id
    testSection table r =
      if 4095 < r.id then .error .badParam else if r.level < 1 ∨ 8 < r.level ∨ 1 < r.side then .error .badLevel
      else if present then .error .duplicate else if 1024 ≤ table.length then .error .tableFull
      else .ok ⟨r.id, side, r.level, 0, .unvisited, .unknown, false, false, false, false, none, []⟩) ∧
  (∀ (tag : TagCode) (key home status id side level : Nat),
    key < 2 ^ 64 → home < 65536 → status < 256 → id < 65536 → side < 256 → level < 256 →
    rawHolding (bytesOf 12 tag.toNat ++ bytesOf 8 key ++ bytesOf 2 home ++ bytesOf 1 status) = ⟨tag, key, home, status⟩ ∧
    rawSection (bytesOf 2 id ++ bytesOf 1 side ++ bytesOf 1 level) = ⟨id, side, level⟩) ∧
  ∀ (ρ α : Type) (test : List α → ρ → Except ResultCode α) (table : List α) (block : List ρ),
    ∃ stored, (storeBlock test table block 0).1 = table ++ stored ∧
      (storeBlock test table block 0).2.1 = stored.length ∧ stored.length ≤ block.length ∧
      (∀ k y, stored[k]? = some y → ∃ r, block[k]? = some r ∧ test (table ++ stored.take k) r = .ok y) ∧
      (∀ r, block[stored.length]? = some r →
        test (table ++ stored) r = .error (storeBlock test table block 0).2.2) ∧
      (stored.length = block.length → (storeBlock test table block 0).2.2 = .done)

/-! ### What every step keeps -/

/-- No step takes a queue past its capacity; outside IDLE the report queue keeps a place for PASS-END, and the alert pending set
stays in order without repeats. -/
def Obligations.StepsKeepTheQueuesWithinCapacity : Prop :=
  ∀ s t : State, s.QueuesInv → step s = .next t → t.QueuesInv

/-- Every step keeps the sighting table: sound entries in ascending slot order, one for a tag code, 2,048 at most. Where the
tables, the pass states and the open-section list are sound as well, every step keeps the law of marks and sightings, on which
the search of an entry by its tag code rests (log entry 28): a held record has an entry exactly when its mark is SIGHTED or
PLACED, and the item of a PLACED entry stands in the list of its placed section alone. -/
def Obligations.StepsKeepTheSightingTable : Prop :=
  (∀ s t : State, s.SightingsInv → step s = .next t → t.SightingsInv) ∧
  ∀ s t : State, s.SightingsInv → s.TablesInv → s.RunningInv → s.SectionsInv → s.MarksInv → step s = .next t →
    t.SectionsInv ∧ t.MarksInv

/-- Every step keeps the two tables within their capacities and free of repeats, the placement lists at 96 items and the
open-section list at 32 entries. -/
def Obligations.StepsKeepTheTables : Prop :=
  ∀ s t : State, s.TablesInv → step s = .next t → t.TablesInv

/-- Every step keeps the parameters in their ranges, the two special classes apart, offset, gain, sweep counts and transits in
theirs, and generator B stopped in INTERLEAVED mode. -/
def Obligations.StepsKeepTheValuesInRange : Prop :=
  ∀ s t : State, s.ValuesInv → step s = .next t → t.ValuesInv

/-- Every step keeps the generators stopped outside CALIBRATING and SCANNING, PAM's window and RHG running in SCANNING alone, the
source FRONT-ENDS outside a pass, a walk in hand exactly in PREPARING, and a load in hand in IDLE alone. -/
def Obligations.StepsKeepWhatRunsInEachState : Prop :=
  ∀ s t : State, s.RunningInv → step s = .next t → t.RunningInv

/-- The invariants hold right after power-on. -/
def Obligations.TheInvariantsHoldAtReset : Prop :=
  State.reset.QueuesInv ∧ State.reset.SightingsInv ∧ State.reset.TablesInv ∧ State.reset.ValuesInv ∧ State.reset.RunningInv ∧
    State.reset.SectionsInv ∧ State.reset.MarksInv

/-! ### Laws of the whole device -/

/-- The pass state moves along the manual's edges alone, whatever command is taken and in a step on an empty queue (R125, R128 to
R130, R133 to R136, R139, R142, R143, R29, R34, R145): which commands leave IDLE, which enter it, and that a pass goes from
PREPARING through SCANNING and SETTLING to TALLYING. While a pass stays open no sweep count falls (R7). -/
def Obligations.ThePassStateFollowsItsEdges : Prop :=
  ∀ s t : State, step s = .next t →
    let taken (c : Instr) : Prop := s.pending.head? = some c
    let before := s.psc.state
    let after := t.psc.state
    (after = before ∨
      after = .idle ∧ (taken .powerOn ∨ taken .resetLine ∨ (∃ tag, taken (.abortPass tag)) ∨ (∃ tag, taken (.restart tag)) ∨
        (∃ bytes, taken (.uplinkFrameJudged bytes)) ∨ taken .tallyWalkEnd ∧ before = .tallying ∨
        taken .calibrationComplete ∧ before = .calibrating) ∨
      before = .idle ∧ after = .calibrating ∧ taken .calibrate ∨
      before = .idle ∧ after = .preparing ∧ (taken .openPass ∨ taken .rehearse) ∨
      before = .preparing ∧ (after = .scanning ∨ after = .settling) ∧ taken .preparingWalkEnd ∨
      before = .scanning ∧ after = .settling ∨
      before = .settling ∧ after = .tallying ∧
        (taken .settle ∨ taken .overfullFindingWrite ∨ taken .sectionSummaryWrite)) ∧
    (before.isOpen = true → after.isOpen = true →
      s.swg.genA.count ≤ t.swg.genA.count ∧ s.swg.genB.count ≤ t.swg.genB.count)

/-- Power-on and the RESET line apart, the loaded fields of the tables change by LOAD_COMPLETE, and by CLEAR_TABLES in IDLE, alone,
whatever command is taken and in a step on an empty queue; outside IDLE they do not change at all (R63, R67, R143). LOAD_COMPLETE
only adds records behind those that stand (R60, R62), so a holdings reference and a sequence index keep naming the same record.
That a block is stored by LOAD_COMPLETE in one action and the tables stand from its dispatch until then is the model's choice (log
entry 11, unsafe). -/
def Obligations.LoadedRecordsStand : Prop :=
  ∀ s t : State, step s = .next t → s.pending.head? ≠ some .powerOn → s.pending.head? ≠ some .resetLine →
    let holdings (u : State) := u.tst.holdings.map Holding.loaded
    let sections (u : State) := u.tst.sections.map Section.loaded
    (s.RunningInv → s.psc.state ≠ .idle → holdings t = holdings s ∧ sections t = sections s) ∧
    ((s.pending.head? = some .clearTables → s.psc.state ≠ .idle) →
      (s.pending.head? ≠ some .loadComplete → holdings t = holdings s ∧ sections t = sections s) ∧
      holdings s <+: holdings t ∧ sections s <+: sections t)

/-- R162: PAUSE sets the flag when it arrives, and one that finds it set changes nothing; a frame in transmission goes on to its
end; while the flag is set the arbiter makes no decision, so no frame begins, whatever command is taken and in a step on an empty
queue. A run of received bytes is left out of the last clause, since it may hold a RESUME and a PAUSE. -/
def Obligations.NoFrameBeginsWhilePaused : Prop :=
  (∀ s : State, s.resetLine = false →
    exec .pause s = .next { s with ulp := { s.ulp with paused := true } } ∧
    (s.ulp.paused = true → exec .pause s = .next s ∧ s.arbitrate = s ∧
      (s.ulp.sending ≠ none → exec .uplinkFrameEnd s = .next { s with ulp := { s.ulp with
        sending := none, counters := { s.ulp.counters with sentFrames := up32 s.ulp.counters.sentFrames } } }))) ∧
  ∀ s t : State, step s = .next t → (∀ bytes, s.pending.head? ≠ some (.uplinkFrameJudged bytes)) → s.ulp.paused = true →
    t.ulp.paused = true → t.ulp.sending = s.ulp.sending ∨ t.ulp.sending = none
end

