-- ==== Sys2Proof/Laws/State.lean ====
section
/-! SUPPORT. One lemma per update of a State field and per field: what the update leaves there. -/

namespace Sys2Proof.Machine

/-! ### `setParams` -/

@[simp] theorem State.setParams_params (s : State) (v : Params) : (s.setParams v).params = v := rfl
@[simp] theorem State.setParams_links (s : State) (v : Params) : (s.setParams v).links = s.links := rfl
@[simp] theorem State.setParams_swg (s : State) (v : Params) : (s.setParams v).swg = s.swg := rfl
@[simp] theorem State.setParams_piq (s : State) (v : Params) : (s.setParams v).piq = s.piq := rfl
@[simp] theorem State.setParams_scu (s : State) (v : Params) : (s.setParams v).scu = s.scu := rfl
@[simp] theorem State.setParams_mfu (s : State) (v : Params) : (s.setParams v).mfu = s.mfu := rfl
@[simp] theorem State.setParams_tst (s : State) (v : Params) : (s.setParams v).tst = s.tst := rfl
@[simp] theorem State.setParams_spe (s : State) (v : Params) : (s.setParams v).spe = s.spe := rfl
@[simp] theorem State.setParams_sru (s : State) (v : Params) : (s.setParams v).sru = s.sru := rfl
@[simp] theorem State.setParams_psc (s : State) (v : Params) : (s.setParams v).psc = s.psc := rfl
@[simp] theorem State.setParams_ulp (s : State) (v : Params) : (s.setParams v).ulp = s.ulp := rfl
@[simp] theorem State.setParams_pam (s : State) (v : Params) : (s.setParams v).pam = s.pam := rfl
@[simp] theorem State.setParams_rhg (s : State) (v : Params) : (s.setParams v).rhg = s.rhg := rfl
@[simp] theorem State.setParams_qhold (s : State) (v : Params) : (s.setParams v).qhold = s.qhold := rfl
@[simp] theorem State.setParams_resetLine (s : State) (v : Params) : (s.setParams v).resetLine = s.resetLine := rfl
@[simp] theorem State.setParams_pending (s : State) (v : Params) : (s.setParams v).pending = s.pending := rfl

/-! ### `setLinks` -/

@[simp] theorem State.setLinks_params (s : State) (v : Vector LinkState 4) : (s.setLinks v).params = s.params := rfl
@[simp] theorem State.setLinks_links (s : State) (v : Vector LinkState 4) : (s.setLinks v).links = v := rfl
@[simp] theorem State.setLinks_swg (s : State) (v : Vector LinkState 4) : (s.setLinks v).swg = s.swg := rfl
@[simp] theorem State.setLinks_piq (s : State) (v : Vector LinkState 4) : (s.setLinks v).piq = s.piq := rfl
@[simp] theorem State.setLinks_scu (s : State) (v : Vector LinkState 4) : (s.setLinks v).scu = s.scu := rfl
@[simp] theorem State.setLinks_mfu (s : State) (v : Vector LinkState 4) : (s.setLinks v).mfu = s.mfu := rfl
@[simp] theorem State.setLinks_tst (s : State) (v : Vector LinkState 4) : (s.setLinks v).tst = s.tst := rfl
@[simp] theorem State.setLinks_spe (s : State) (v : Vector LinkState 4) : (s.setLinks v).spe = s.spe := rfl
@[simp] theorem State.setLinks_sru (s : State) (v : Vector LinkState 4) : (s.setLinks v).sru = s.sru := rfl
@[simp] theorem State.setLinks_psc (s : State) (v : Vector LinkState 4) : (s.setLinks v).psc = s.psc := rfl
@[simp] theorem State.setLinks_ulp (s : State) (v : Vector LinkState 4) : (s.setLinks v).ulp = s.ulp := rfl
@[simp] theorem State.setLinks_pam (s : State) (v : Vector LinkState 4) : (s.setLinks v).pam = s.pam := rfl
@[simp] theorem State.setLinks_rhg (s : State) (v : Vector LinkState 4) : (s.setLinks v).rhg = s.rhg := rfl
@[simp] theorem State.setLinks_qhold (s : State) (v : Vector LinkState 4) : (s.setLinks v).qhold = s.qhold := rfl
@[simp] theorem State.setLinks_resetLine (s : State) (v : Vector LinkState 4) : (s.setLinks v).resetLine = s.resetLine := rfl
@[simp] theorem State.setLinks_pending (s : State) (v : Vector LinkState 4) : (s.setLinks v).pending = s.pending := rfl

/-! ### `setSwg` -/

@[simp] theorem State.setSwg_params (s : State) (v : Swg) : (s.setSwg v).params = s.params := rfl
@[simp] theorem State.setSwg_links (s : State) (v : Swg) : (s.setSwg v).links = s.links := rfl
@[simp] theorem State.setSwg_swg (s : State) (v : Swg) : (s.setSwg v).swg = v := rfl
@[simp] theorem State.setSwg_piq (s : State) (v : Swg) : (s.setSwg v).piq = s.piq := rfl
@[simp] theorem State.setSwg_scu (s : State) (v : Swg) : (s.setSwg v).scu = s.scu := rfl
@[simp] theorem State.setSwg_mfu (s : State) (v : Swg) : (s.setSwg v).mfu = s.mfu := rfl
@[simp] theorem State.setSwg_tst (s : State) (v : Swg) : (s.setSwg v).tst = s.tst := rfl
@[simp] theorem State.setSwg_spe (s : State) (v : Swg) : (s.setSwg v).spe = s.spe := rfl
@[simp] theorem State.setSwg_sru (s : State) (v : Swg) : (s.setSwg v).sru = s.sru := rfl
@[simp] theorem State.setSwg_psc (s : State) (v : Swg) : (s.setSwg v).psc = s.psc := rfl
@[simp] theorem State.setSwg_ulp (s : State) (v : Swg) : (s.setSwg v).ulp = s.ulp := rfl
@[simp] theorem State.setSwg_pam (s : State) (v : Swg) : (s.setSwg v).pam = s.pam := rfl
@[simp] theorem State.setSwg_rhg (s : State) (v : Swg) : (s.setSwg v).rhg = s.rhg := rfl
@[simp] theorem State.setSwg_qhold (s : State) (v : Swg) : (s.setSwg v).qhold = s.qhold := rfl
@[simp] theorem State.setSwg_resetLine (s : State) (v : Swg) : (s.setSwg v).resetLine = s.resetLine := rfl
@[simp] theorem State.setSwg_pending (s : State) (v : Swg) : (s.setSwg v).pending = s.pending := rfl

/-! ### `setPiq` -/

@[simp] theorem State.setPiq_params (s : State) (v : Vector PortQueue 16) : (s.setPiq v).params = s.params := rfl
@[simp] theorem State.setPiq_links (s : State) (v : Vector PortQueue 16) : (s.setPiq v).links = s.links := rfl
@[simp] theorem State.setPiq_swg (s : State) (v : Vector PortQueue 16) : (s.setPiq v).swg = s.swg := rfl
@[simp] theorem State.setPiq_piq (s : State) (v : Vector PortQueue 16) : (s.setPiq v).piq = v := rfl
@[simp] theorem State.setPiq_scu (s : State) (v : Vector PortQueue 16) : (s.setPiq v).scu = s.scu := rfl
@[simp] theorem State.setPiq_mfu (s : State) (v : Vector PortQueue 16) : (s.setPiq v).mfu = s.mfu := rfl
@[simp] theorem State.setPiq_tst (s : State) (v : Vector PortQueue 16) : (s.setPiq v).tst = s.tst := rfl
@[simp] theorem State.setPiq_spe (s : State) (v : Vector PortQueue 16) : (s.setPiq v).spe = s.spe := rfl
@[simp] theorem State.setPiq_sru (s : State) (v : Vector PortQueue 16) : (s.setPiq v).sru = s.sru := rfl
@[simp] theorem State.setPiq_psc (s : State) (v : Vector PortQueue 16) : (s.setPiq v).psc = s.psc := rfl
@[simp] theorem State.setPiq_ulp (s : State) (v : Vector PortQueue 16) : (s.setPiq v).ulp = s.ulp := rfl
@[simp] theorem State.setPiq_pam (s : State) (v : Vector PortQueue 16) : (s.setPiq v).pam = s.pam := rfl
@[simp] theorem State.setPiq_rhg (s : State) (v : Vector PortQueue 16) : (s.setPiq v).rhg = s.rhg := rfl
@[simp] theorem State.setPiq_qhold (s : State) (v : Vector PortQueue 16) : (s.setPiq v).qhold = s.qhold := rfl
@[simp] theorem State.setPiq_resetLine (s : State) (v : Vector PortQueue 16) : (s.setPiq v).resetLine = s.resetLine := rfl
@[simp] theorem State.setPiq_pending (s : State) (v : Vector PortQueue 16) : (s.setPiq v).pending = s.pending := rfl

/-! ### `setScu` -/

@[simp] theorem State.setScu_params (s : State) (v : Scu) : (s.setScu v).params = s.params := rfl
@[simp] theorem State.setScu_links (s : State) (v : Scu) : (s.setScu v).links = s.links := rfl
@[simp] theorem State.setScu_swg (s : State) (v : Scu) : (s.setScu v).swg = s.swg := rfl
@[simp] theorem State.setScu_piq (s : State) (v : Scu) : (s.setScu v).piq = s.piq := rfl
@[simp] theorem State.setScu_scu (s : State) (v : Scu) : (s.setScu v).scu = v := rfl
@[simp] theorem State.setScu_mfu (s : State) (v : Scu) : (s.setScu v).mfu = s.mfu := rfl
@[simp] theorem State.setScu_tst (s : State) (v : Scu) : (s.setScu v).tst = s.tst := rfl
@[simp] theorem State.setScu_spe (s : State) (v : Scu) : (s.setScu v).spe = s.spe := rfl
@[simp] theorem State.setScu_sru (s : State) (v : Scu) : (s.setScu v).sru = s.sru := rfl
@[simp] theorem State.setScu_psc (s : State) (v : Scu) : (s.setScu v).psc = s.psc := rfl
@[simp] theorem State.setScu_ulp (s : State) (v : Scu) : (s.setScu v).ulp = s.ulp := rfl
@[simp] theorem State.setScu_pam (s : State) (v : Scu) : (s.setScu v).pam = s.pam := rfl
@[simp] theorem State.setScu_rhg (s : State) (v : Scu) : (s.setScu v).rhg = s.rhg := rfl
@[simp] theorem State.setScu_qhold (s : State) (v : Scu) : (s.setScu v).qhold = s.qhold := rfl
@[simp] theorem State.setScu_resetLine (s : State) (v : Scu) : (s.setScu v).resetLine = s.resetLine := rfl
@[simp] theorem State.setScu_pending (s : State) (v : Scu) : (s.setScu v).pending = s.pending := rfl

/-! ### `setMfu` -/

@[simp] theorem State.setMfu_params (s : State) (v : Mfu) : (s.setMfu v).params = s.params := rfl
@[simp] theorem State.setMfu_links (s : State) (v : Mfu) : (s.setMfu v).links = s.links := rfl
@[simp] theorem State.setMfu_swg (s : State) (v : Mfu) : (s.setMfu v).swg = s.swg := rfl
@[simp] theorem State.setMfu_piq (s : State) (v : Mfu) : (s.setMfu v).piq = s.piq := rfl
@[simp] theorem State.setMfu_scu (s : State) (v : Mfu) : (s.setMfu v).scu = s.scu := rfl
@[simp] theorem State.setMfu_mfu (s : State) (v : Mfu) : (s.setMfu v).mfu = v := rfl
@[simp] theorem State.setMfu_tst (s : State) (v : Mfu) : (s.setMfu v).tst = s.tst := rfl
@[simp] theorem State.setMfu_spe (s : State) (v : Mfu) : (s.setMfu v).spe = s.spe := rfl
@[simp] theorem State.setMfu_sru (s : State) (v : Mfu) : (s.setMfu v).sru = s.sru := rfl
@[simp] theorem State.setMfu_psc (s : State) (v : Mfu) : (s.setMfu v).psc = s.psc := rfl
@[simp] theorem State.setMfu_ulp (s : State) (v : Mfu) : (s.setMfu v).ulp = s.ulp := rfl
@[simp] theorem State.setMfu_pam (s : State) (v : Mfu) : (s.setMfu v).pam = s.pam := rfl
@[simp] theorem State.setMfu_rhg (s : State) (v : Mfu) : (s.setMfu v).rhg = s.rhg := rfl
@[simp] theorem State.setMfu_qhold (s : State) (v : Mfu) : (s.setMfu v).qhold = s.qhold := rfl
@[simp] theorem State.setMfu_resetLine (s : State) (v : Mfu) : (s.setMfu v).resetLine = s.resetLine := rfl
@[simp] theorem State.setMfu_pending (s : State) (v : Mfu) : (s.setMfu v).pending = s.pending := rfl

/-! ### `setTst` -/

@[simp] theorem State.setTst_params (s : State) (v : Tst) : (s.setTst v).params = s.params := rfl
@[simp] theorem State.setTst_links (s : State) (v : Tst) : (s.setTst v).links = s.links := rfl
@[simp] theorem State.setTst_swg (s : State) (v : Tst) : (s.setTst v).swg = s.swg := rfl
@[simp] theorem State.setTst_piq (s : State) (v : Tst) : (s.setTst v).piq = s.piq := rfl
@[simp] theorem State.setTst_scu (s : State) (v : Tst) : (s.setTst v).scu = s.scu := rfl
@[simp] theorem State.setTst_mfu (s : State) (v : Tst) : (s.setTst v).mfu = s.mfu := rfl
@[simp] theorem State.setTst_tst (s : State) (v : Tst) : (s.setTst v).tst = v := rfl
@[simp] theorem State.setTst_spe (s : State) (v : Tst) : (s.setTst v).spe = s.spe := rfl
@[simp] theorem State.setTst_sru (s : State) (v : Tst) : (s.setTst v).sru = s.sru := rfl
@[simp] theorem State.setTst_psc (s : State) (v : Tst) : (s.setTst v).psc = s.psc := rfl
@[simp] theorem State.setTst_ulp (s : State) (v : Tst) : (s.setTst v).ulp = s.ulp := rfl
@[simp] theorem State.setTst_pam (s : State) (v : Tst) : (s.setTst v).pam = s.pam := rfl
@[simp] theorem State.setTst_rhg (s : State) (v : Tst) : (s.setTst v).rhg = s.rhg := rfl
@[simp] theorem State.setTst_qhold (s : State) (v : Tst) : (s.setTst v).qhold = s.qhold := rfl
@[simp] theorem State.setTst_resetLine (s : State) (v : Tst) : (s.setTst v).resetLine = s.resetLine := rfl
@[simp] theorem State.setTst_pending (s : State) (v : Tst) : (s.setTst v).pending = s.pending := rfl

/-! ### `setSpe` -/

@[simp] theorem State.setSpe_params (s : State) (v : Spe) : (s.setSpe v).params = s.params := rfl
@[simp] theorem State.setSpe_links (s : State) (v : Spe) : (s.setSpe v).links = s.links := rfl
@[simp] theorem State.setSpe_swg (s : State) (v : Spe) : (s.setSpe v).swg = s.swg := rfl
@[simp] theorem State.setSpe_piq (s : State) (v : Spe) : (s.setSpe v).piq = s.piq := rfl
@[simp] theorem State.setSpe_scu (s : State) (v : Spe) : (s.setSpe v).scu = s.scu := rfl
@[simp] theorem State.setSpe_mfu (s : State) (v : Spe) : (s.setSpe v).mfu = s.mfu := rfl
@[simp] theorem State.setSpe_tst (s : State) (v : Spe) : (s.setSpe v).tst = s.tst := rfl
@[simp] theorem State.setSpe_spe (s : State) (v : Spe) : (s.setSpe v).spe = v := rfl
@[simp] theorem State.setSpe_sru (s : State) (v : Spe) : (s.setSpe v).sru = s.sru := rfl
@[simp] theorem State.setSpe_psc (s : State) (v : Spe) : (s.setSpe v).psc = s.psc := rfl
@[simp] theorem State.setSpe_ulp (s : State) (v : Spe) : (s.setSpe v).ulp = s.ulp := rfl
@[simp] theorem State.setSpe_pam (s : State) (v : Spe) : (s.setSpe v).pam = s.pam := rfl
@[simp] theorem State.setSpe_rhg (s : State) (v : Spe) : (s.setSpe v).rhg = s.rhg := rfl
@[simp] theorem State.setSpe_qhold (s : State) (v : Spe) : (s.setSpe v).qhold = s.qhold := rfl
@[simp] theorem State.setSpe_resetLine (s : State) (v : Spe) : (s.setSpe v).resetLine = s.resetLine := rfl
@[simp] theorem State.setSpe_pending (s : State) (v : Spe) : (s.setSpe v).pending = s.pending := rfl

/-! ### `setSru` -/

@[simp] theorem State.setSru_params (s : State) (v : Sru) : (s.setSru v).params = s.params := rfl
@[simp] theorem State.setSru_links (s : State) (v : Sru) : (s.setSru v).links = s.links := rfl
@[simp] theorem State.setSru_swg (s : State) (v : Sru) : (s.setSru v).swg = s.swg := rfl
@[simp] theorem State.setSru_piq (s : State) (v : Sru) : (s.setSru v).piq = s.piq := rfl
@[simp] theorem State.setSru_scu (s : State) (v : Sru) : (s.setSru v).scu = s.scu := rfl
@[simp] theorem State.setSru_mfu (s : State) (v : Sru) : (s.setSru v).mfu = s.mfu := rfl
@[simp] theorem State.setSru_tst (s : State) (v : Sru) : (s.setSru v).tst = s.tst := rfl
@[simp] theorem State.setSru_spe (s : State) (v : Sru) : (s.setSru v).spe = s.spe := rfl
@[simp] theorem State.setSru_sru (s : State) (v : Sru) : (s.setSru v).sru = v := rfl
@[simp] theorem State.setSru_psc (s : State) (v : Sru) : (s.setSru v).psc = s.psc := rfl
@[simp] theorem State.setSru_ulp (s : State) (v : Sru) : (s.setSru v).ulp = s.ulp := rfl
@[simp] theorem State.setSru_pam (s : State) (v : Sru) : (s.setSru v).pam = s.pam := rfl
@[simp] theorem State.setSru_rhg (s : State) (v : Sru) : (s.setSru v).rhg = s.rhg := rfl
@[simp] theorem State.setSru_qhold (s : State) (v : Sru) : (s.setSru v).qhold = s.qhold := rfl
@[simp] theorem State.setSru_resetLine (s : State) (v : Sru) : (s.setSru v).resetLine = s.resetLine := rfl
@[simp] theorem State.setSru_pending (s : State) (v : Sru) : (s.setSru v).pending = s.pending := rfl

/-! ### `setPsc` -/

@[simp] theorem State.setPsc_params (s : State) (v : Psc) : (s.setPsc v).params = s.params := rfl
@[simp] theorem State.setPsc_links (s : State) (v : Psc) : (s.setPsc v).links = s.links := rfl
@[simp] theorem State.setPsc_swg (s : State) (v : Psc) : (s.setPsc v).swg = s.swg := rfl
@[simp] theorem State.setPsc_piq (s : State) (v : Psc) : (s.setPsc v).piq = s.piq := rfl
@[simp] theorem State.setPsc_scu (s : State) (v : Psc) : (s.setPsc v).scu = s.scu := rfl
@[simp] theorem State.setPsc_mfu (s : State) (v : Psc) : (s.setPsc v).mfu = s.mfu := rfl
@[simp] theorem State.setPsc_tst (s : State) (v : Psc) : (s.setPsc v).tst = s.tst := rfl
@[simp] theorem State.setPsc_spe (s : State) (v : Psc) : (s.setPsc v).spe = s.spe := rfl
@[simp] theorem State.setPsc_sru (s : State) (v : Psc) : (s.setPsc v).sru = s.sru := rfl
@[simp] theorem State.setPsc_psc (s : State) (v : Psc) : (s.setPsc v).psc = v := rfl
@[simp] theorem State.setPsc_ulp (s : State) (v : Psc) : (s.setPsc v).ulp = s.ulp := rfl
@[simp] theorem State.setPsc_pam (s : State) (v : Psc) : (s.setPsc v).pam = s.pam := rfl
@[simp] theorem State.setPsc_rhg (s : State) (v : Psc) : (s.setPsc v).rhg = s.rhg := rfl
@[simp] theorem State.setPsc_qhold (s : State) (v : Psc) : (s.setPsc v).qhold = s.qhold := rfl
@[simp] theorem State.setPsc_resetLine (s : State) (v : Psc) : (s.setPsc v).resetLine = s.resetLine := rfl
@[simp] theorem State.setPsc_pending (s : State) (v : Psc) : (s.setPsc v).pending = s.pending := rfl

/-! ### `setUlp` -/

@[simp] theorem State.setUlp_params (s : State) (v : Ulp) : (s.setUlp v).params = s.params := rfl
@[simp] theorem State.setUlp_links (s : State) (v : Ulp) : (s.setUlp v).links = s.links := rfl
@[simp] theorem State.setUlp_swg (s : State) (v : Ulp) : (s.setUlp v).swg = s.swg := rfl
@[simp] theorem State.setUlp_piq (s : State) (v : Ulp) : (s.setUlp v).piq = s.piq := rfl
@[simp] theorem State.setUlp_scu (s : State) (v : Ulp) : (s.setUlp v).scu = s.scu := rfl
@[simp] theorem State.setUlp_mfu (s : State) (v : Ulp) : (s.setUlp v).mfu = s.mfu := rfl
@[simp] theorem State.setUlp_tst (s : State) (v : Ulp) : (s.setUlp v).tst = s.tst := rfl
@[simp] theorem State.setUlp_spe (s : State) (v : Ulp) : (s.setUlp v).spe = s.spe := rfl
@[simp] theorem State.setUlp_sru (s : State) (v : Ulp) : (s.setUlp v).sru = s.sru := rfl
@[simp] theorem State.setUlp_psc (s : State) (v : Ulp) : (s.setUlp v).psc = s.psc := rfl
@[simp] theorem State.setUlp_ulp (s : State) (v : Ulp) : (s.setUlp v).ulp = v := rfl
@[simp] theorem State.setUlp_pam (s : State) (v : Ulp) : (s.setUlp v).pam = s.pam := rfl
@[simp] theorem State.setUlp_rhg (s : State) (v : Ulp) : (s.setUlp v).rhg = s.rhg := rfl
@[simp] theorem State.setUlp_qhold (s : State) (v : Ulp) : (s.setUlp v).qhold = s.qhold := rfl
@[simp] theorem State.setUlp_resetLine (s : State) (v : Ulp) : (s.setUlp v).resetLine = s.resetLine := rfl
@[simp] theorem State.setUlp_pending (s : State) (v : Ulp) : (s.setUlp v).pending = s.pending := rfl

/-! ### `setPam` -/

@[simp] theorem State.setPam_params (s : State) (v : Pam) : (s.setPam v).params = s.params := rfl
@[simp] theorem State.setPam_links (s : State) (v : Pam) : (s.setPam v).links = s.links := rfl
@[simp] theorem State.setPam_swg (s : State) (v : Pam) : (s.setPam v).swg = s.swg := rfl
@[simp] theorem State.setPam_piq (s : State) (v : Pam) : (s.setPam v).piq = s.piq := rfl
@[simp] theorem State.setPam_scu (s : State) (v : Pam) : (s.setPam v).scu = s.scu := rfl
@[simp] theorem State.setPam_mfu (s : State) (v : Pam) : (s.setPam v).mfu = s.mfu := rfl
@[simp] theorem State.setPam_tst (s : State) (v : Pam) : (s.setPam v).tst = s.tst := rfl
@[simp] theorem State.setPam_spe (s : State) (v : Pam) : (s.setPam v).spe = s.spe := rfl
@[simp] theorem State.setPam_sru (s : State) (v : Pam) : (s.setPam v).sru = s.sru := rfl
@[simp] theorem State.setPam_psc (s : State) (v : Pam) : (s.setPam v).psc = s.psc := rfl
@[simp] theorem State.setPam_ulp (s : State) (v : Pam) : (s.setPam v).ulp = s.ulp := rfl
@[simp] theorem State.setPam_pam (s : State) (v : Pam) : (s.setPam v).pam = v := rfl
@[simp] theorem State.setPam_rhg (s : State) (v : Pam) : (s.setPam v).rhg = s.rhg := rfl
@[simp] theorem State.setPam_qhold (s : State) (v : Pam) : (s.setPam v).qhold = s.qhold := rfl
@[simp] theorem State.setPam_resetLine (s : State) (v : Pam) : (s.setPam v).resetLine = s.resetLine := rfl
@[simp] theorem State.setPam_pending (s : State) (v : Pam) : (s.setPam v).pending = s.pending := rfl

/-! ### `setRhg` -/

@[simp] theorem State.setRhg_params (s : State) (v : Rhg) : (s.setRhg v).params = s.params := rfl
@[simp] theorem State.setRhg_links (s : State) (v : Rhg) : (s.setRhg v).links = s.links := rfl
@[simp] theorem State.setRhg_swg (s : State) (v : Rhg) : (s.setRhg v).swg = s.swg := rfl
@[simp] theorem State.setRhg_piq (s : State) (v : Rhg) : (s.setRhg v).piq = s.piq := rfl
@[simp] theorem State.setRhg_scu (s : State) (v : Rhg) : (s.setRhg v).scu = s.scu := rfl
@[simp] theorem State.setRhg_mfu (s : State) (v : Rhg) : (s.setRhg v).mfu = s.mfu := rfl
@[simp] theorem State.setRhg_tst (s : State) (v : Rhg) : (s.setRhg v).tst = s.tst := rfl
@[simp] theorem State.setRhg_spe (s : State) (v : Rhg) : (s.setRhg v).spe = s.spe := rfl
@[simp] theorem State.setRhg_sru (s : State) (v : Rhg) : (s.setRhg v).sru = s.sru := rfl
@[simp] theorem State.setRhg_psc (s : State) (v : Rhg) : (s.setRhg v).psc = s.psc := rfl
@[simp] theorem State.setRhg_ulp (s : State) (v : Rhg) : (s.setRhg v).ulp = s.ulp := rfl
@[simp] theorem State.setRhg_pam (s : State) (v : Rhg) : (s.setRhg v).pam = s.pam := rfl
@[simp] theorem State.setRhg_rhg (s : State) (v : Rhg) : (s.setRhg v).rhg = v := rfl
@[simp] theorem State.setRhg_qhold (s : State) (v : Rhg) : (s.setRhg v).qhold = s.qhold := rfl
@[simp] theorem State.setRhg_resetLine (s : State) (v : Rhg) : (s.setRhg v).resetLine = s.resetLine := rfl
@[simp] theorem State.setRhg_pending (s : State) (v : Rhg) : (s.setRhg v).pending = s.pending := rfl

/-! ### `setQhold` -/

@[simp] theorem State.setQhold_params (s : State) (v : Bool) : (s.setQhold v).params = s.params := rfl
@[simp] theorem State.setQhold_links (s : State) (v : Bool) : (s.setQhold v).links = s.links := rfl
@[simp] theorem State.setQhold_swg (s : State) (v : Bool) : (s.setQhold v).swg = s.swg := rfl
@[simp] theorem State.setQhold_piq (s : State) (v : Bool) : (s.setQhold v).piq = s.piq := rfl
@[simp] theorem State.setQhold_scu (s : State) (v : Bool) : (s.setQhold v).scu = s.scu := rfl
@[simp] theorem State.setQhold_mfu (s : State) (v : Bool) : (s.setQhold v).mfu = s.mfu := rfl
@[simp] theorem State.setQhold_tst (s : State) (v : Bool) : (s.setQhold v).tst = s.tst := rfl
@[simp] theorem State.setQhold_spe (s : State) (v : Bool) : (s.setQhold v).spe = s.spe := rfl
@[simp] theorem State.setQhold_sru (s : State) (v : Bool) : (s.setQhold v).sru = s.sru := rfl
@[simp] theorem State.setQhold_psc (s : State) (v : Bool) : (s.setQhold v).psc = s.psc := rfl
@[simp] theorem State.setQhold_ulp (s : State) (v : Bool) : (s.setQhold v).ulp = s.ulp := rfl
@[simp] theorem State.setQhold_pam (s : State) (v : Bool) : (s.setQhold v).pam = s.pam := rfl
@[simp] theorem State.setQhold_rhg (s : State) (v : Bool) : (s.setQhold v).rhg = s.rhg := rfl
@[simp] theorem State.setQhold_qhold (s : State) (v : Bool) : (s.setQhold v).qhold = v := rfl
@[simp] theorem State.setQhold_resetLine (s : State) (v : Bool) : (s.setQhold v).resetLine = s.resetLine := rfl
@[simp] theorem State.setQhold_pending (s : State) (v : Bool) : (s.setQhold v).pending = s.pending := rfl

/-! ### `setResetLine` -/

@[simp] theorem State.setResetLine_params (s : State) (v : Bool) : (s.setResetLine v).params = s.params := rfl
@[simp] theorem State.setResetLine_links (s : State) (v : Bool) : (s.setResetLine v).links = s.links := rfl
@[simp] theorem State.setResetLine_swg (s : State) (v : Bool) : (s.setResetLine v).swg = s.swg := rfl
@[simp] theorem State.setResetLine_piq (s : State) (v : Bool) : (s.setResetLine v).piq = s.piq := rfl
@[simp] theorem State.setResetLine_scu (s : State) (v : Bool) : (s.setResetLine v).scu = s.scu := rfl
@[simp] theorem State.setResetLine_mfu (s : State) (v : Bool) : (s.setResetLine v).mfu = s.mfu := rfl
@[simp] theorem State.setResetLine_tst (s : State) (v : Bool) : (s.setResetLine v).tst = s.tst := rfl
@[simp] theorem State.setResetLine_spe (s : State) (v : Bool) : (s.setResetLine v).spe = s.spe := rfl
@[simp] theorem State.setResetLine_sru (s : State) (v : Bool) : (s.setResetLine v).sru = s.sru := rfl
@[simp] theorem State.setResetLine_psc (s : State) (v : Bool) : (s.setResetLine v).psc = s.psc := rfl
@[simp] theorem State.setResetLine_ulp (s : State) (v : Bool) : (s.setResetLine v).ulp = s.ulp := rfl
@[simp] theorem State.setResetLine_pam (s : State) (v : Bool) : (s.setResetLine v).pam = s.pam := rfl
@[simp] theorem State.setResetLine_rhg (s : State) (v : Bool) : (s.setResetLine v).rhg = s.rhg := rfl
@[simp] theorem State.setResetLine_qhold (s : State) (v : Bool) : (s.setResetLine v).qhold = s.qhold := rfl
@[simp] theorem State.setResetLine_resetLine (s : State) (v : Bool) : (s.setResetLine v).resetLine = v := rfl
@[simp] theorem State.setResetLine_pending (s : State) (v : Bool) : (s.setResetLine v).pending = s.pending := rfl

/-! ### `setPending` -/

@[simp] theorem State.setPending_params (s : State) (v : List Instr) : (s.setPending v).params = s.params := rfl
@[simp] theorem State.setPending_links (s : State) (v : List Instr) : (s.setPending v).links = s.links := rfl
@[simp] theorem State.setPending_swg (s : State) (v : List Instr) : (s.setPending v).swg = s.swg := rfl
@[simp] theorem State.setPending_piq (s : State) (v : List Instr) : (s.setPending v).piq = s.piq := rfl
@[simp] theorem State.setPending_scu (s : State) (v : List Instr) : (s.setPending v).scu = s.scu := rfl
@[simp] theorem State.setPending_mfu (s : State) (v : List Instr) : (s.setPending v).mfu = s.mfu := rfl
@[simp] theorem State.setPending_tst (s : State) (v : List Instr) : (s.setPending v).tst = s.tst := rfl
@[simp] theorem State.setPending_spe (s : State) (v : List Instr) : (s.setPending v).spe = s.spe := rfl
@[simp] theorem State.setPending_sru (s : State) (v : List Instr) : (s.setPending v).sru = s.sru := rfl
@[simp] theorem State.setPending_psc (s : State) (v : List Instr) : (s.setPending v).psc = s.psc := rfl
@[simp] theorem State.setPending_ulp (s : State) (v : List Instr) : (s.setPending v).ulp = s.ulp := rfl
@[simp] theorem State.setPending_pam (s : State) (v : List Instr) : (s.setPending v).pam = s.pam := rfl
@[simp] theorem State.setPending_rhg (s : State) (v : List Instr) : (s.setPending v).rhg = s.rhg := rfl
@[simp] theorem State.setPending_qhold (s : State) (v : List Instr) : (s.setPending v).qhold = s.qhold := rfl
@[simp] theorem State.setPending_resetLine (s : State) (v : List Instr) : (s.setPending v).resetLine = s.resetLine := rfl
@[simp] theorem State.setPending_pending (s : State) (v : List Instr) : (s.setPending v).pending = v := rfl

end Sys2Proof.Machine
end

