-- ==== Sys2Proof/Laws/Blocks.lean ====
section
/-! SUPPORT. One lemma per shared operation: the State fields it leaves as they are. What it does to the others its definition
says. -/

namespace Sys2Proof.Machine

/-- A fold keeps what each of its steps keeps. -/
theorem foldl_keeps {α β γ : Type} (g : β → γ) (f : β → α → β) (h : ∀ b a, g (f b a) = g b) (l : List α) (b : β) :
    g (l.foldl f b) = g b := by
  induction l generalizing b with
  | nil => rfl
  | cons a l ih => rw [List.foldl_cons, ih, h]

/-- A run over the ports keeps what each port's action keeps. -/
theorem forPorts_keeps {γ : Type} (g : State → γ) (f : Port → State → State) (h : ∀ p t, g (f p t) = g t) (s : State) :
    g (s.forPorts f) = g s := foldl_keeps g _ (fun b a => h a b) _ _

/-- A repeated action keeps what it keeps once. -/
theorem repeated_keeps {γ : Type} (g : State → γ) (f : State → State) (h : ∀ t, g (f t) = g t) (n : Nat) (s : State) :
    g (repeated f n s) = g s := by
  induction n generalizing s with
  | zero => rfl
  | succ n ih => rw [repeated, ih, h]

/-! ### Ops -/

@[simp] theorem State.modLink_frame (s : State) (l : Link) (f : LinkState → LinkState) :
    (s.modLink l f).params = s.params ∧
    (s.modLink l f).swg = s.swg ∧
    (s.modLink l f).piq = s.piq ∧
    (s.modLink l f).scu = s.scu ∧
    (s.modLink l f).mfu = s.mfu ∧
    (s.modLink l f).tst = s.tst ∧
    (s.modLink l f).spe = s.spe ∧
    (s.modLink l f).sru = s.sru ∧
    (s.modLink l f).psc = s.psc ∧
    (s.modLink l f).ulp = s.ulp ∧
    (s.modLink l f).pam = s.pam ∧
    (s.modLink l f).rhg = s.rhg ∧
    (s.modLink l f).qhold = s.qhold ∧
    (s.modLink l f).resetLine = s.resetLine ∧
    (s.modLink l f).pending = s.pending := by
  unfold State.modLink; simp

@[simp] theorem State.modPiq_frame (s : State) (p : Port) (f : PortQueue → PortQueue) :
    (s.modPiq p f).params = s.params ∧
    (s.modPiq p f).links = s.links ∧
    (s.modPiq p f).swg = s.swg ∧
    (s.modPiq p f).scu = s.scu ∧
    (s.modPiq p f).mfu = s.mfu ∧
    (s.modPiq p f).tst = s.tst ∧
    (s.modPiq p f).spe = s.spe ∧
    (s.modPiq p f).sru = s.sru ∧
    (s.modPiq p f).psc = s.psc ∧
    (s.modPiq p f).ulp = s.ulp ∧
    (s.modPiq p f).pam = s.pam ∧
    (s.modPiq p f).rhg = s.rhg ∧
    (s.modPiq p f).qhold = s.qhold ∧
    (s.modPiq p f).resetLine = s.resetLine ∧
    (s.modPiq p f).pending = s.pending := by
  unfold State.modPiq; simp

@[simp] theorem State.modScu_frame (s : State) (p : Port) (f : ScuPort → ScuPort) :
    (s.modScu p f).params = s.params ∧
    (s.modScu p f).links = s.links ∧
    (s.modScu p f).swg = s.swg ∧
    (s.modScu p f).piq = s.piq ∧
    (s.modScu p f).mfu = s.mfu ∧
    (s.modScu p f).tst = s.tst ∧
    (s.modScu p f).spe = s.spe ∧
    (s.modScu p f).sru = s.sru ∧
    (s.modScu p f).psc = s.psc ∧
    (s.modScu p f).ulp = s.ulp ∧
    (s.modScu p f).pam = s.pam ∧
    (s.modScu p f).rhg = s.rhg ∧
    (s.modScu p f).qhold = s.qhold ∧
    (s.modScu p f).resetLine = s.resetLine ∧
    (s.modScu p f).pending = s.pending := by
  unfold State.modScu; simp

@[simp] theorem State.modFacing_frame (s : State) (p : Port) (f : FacingRecord → FacingRecord) :
    (s.modFacing p f).params = s.params ∧
    (s.modFacing p f).links = s.links ∧
    (s.modFacing p f).swg = s.swg ∧
    (s.modFacing p f).piq = s.piq ∧
    (s.modFacing p f).scu = s.scu ∧
    (s.modFacing p f).tst = s.tst ∧
    (s.modFacing p f).spe = s.spe ∧
    (s.modFacing p f).sru = s.sru ∧
    (s.modFacing p f).psc = s.psc ∧
    (s.modFacing p f).ulp = s.ulp ∧
    (s.modFacing p f).pam = s.pam ∧
    (s.modFacing p f).rhg = s.rhg ∧
    (s.modFacing p f).qhold = s.qhold ∧
    (s.modFacing p f).resetLine = s.resetLine ∧
    (s.modFacing p f).pending = s.pending := by
  unfold State.modFacing; simp

@[simp] theorem State.modPam_frame (s : State) (p : Port) (f : PamPort → PamPort) :
    (s.modPam p f).params = s.params ∧
    (s.modPam p f).links = s.links ∧
    (s.modPam p f).swg = s.swg ∧
    (s.modPam p f).piq = s.piq ∧
    (s.modPam p f).scu = s.scu ∧
    (s.modPam p f).mfu = s.mfu ∧
    (s.modPam p f).tst = s.tst ∧
    (s.modPam p f).spe = s.spe ∧
    (s.modPam p f).sru = s.sru ∧
    (s.modPam p f).psc = s.psc ∧
    (s.modPam p f).ulp = s.ulp ∧
    (s.modPam p f).rhg = s.rhg ∧
    (s.modPam p f).qhold = s.qhold ∧
    (s.modPam p f).resetLine = s.resetLine ∧
    (s.modPam p f).pending = s.pending := by
  unfold State.modPam; simp

@[simp] theorem State.setStale_frame (s : State) (p : Port) (n : Nat) :
    (s.setStale p n).params = s.params ∧
    (s.setStale p n).links = s.links ∧
    (s.setStale p n).swg = s.swg ∧
    (s.setStale p n).piq = s.piq ∧
    (s.setStale p n).scu = s.scu ∧
    (s.setStale p n).mfu = s.mfu ∧
    (s.setStale p n).tst = s.tst ∧
    (s.setStale p n).sru = s.sru ∧
    (s.setStale p n).psc = s.psc ∧
    (s.setStale p n).ulp = s.ulp ∧
    (s.setStale p n).pam = s.pam ∧
    (s.setStale p n).rhg = s.rhg ∧
    (s.setStale p n).qhold = s.qhold ∧
    (s.setStale p n).resetLine = s.resetLine ∧
    (s.setStale p n).pending = s.pending := by
  unfold State.setStale; simp

@[simp] theorem State.countMfu_frame (s : State) (f : MfuCounters → MfuCounters) :
    (s.countMfu f).params = s.params ∧
    (s.countMfu f).links = s.links ∧
    (s.countMfu f).swg = s.swg ∧
    (s.countMfu f).piq = s.piq ∧
    (s.countMfu f).scu = s.scu ∧
    (s.countMfu f).tst = s.tst ∧
    (s.countMfu f).spe = s.spe ∧
    (s.countMfu f).sru = s.sru ∧
    (s.countMfu f).psc = s.psc ∧
    (s.countMfu f).ulp = s.ulp ∧
    (s.countMfu f).pam = s.pam ∧
    (s.countMfu f).rhg = s.rhg ∧
    (s.countMfu f).qhold = s.qhold ∧
    (s.countMfu f).resetLine = s.resetLine ∧
    (s.countMfu f).pending = s.pending := by
  unfold State.countMfu; simp

@[simp] theorem State.countSpe_frame (s : State) (f : SpeCounters → SpeCounters) :
    (s.countSpe f).params = s.params ∧
    (s.countSpe f).links = s.links ∧
    (s.countSpe f).swg = s.swg ∧
    (s.countSpe f).piq = s.piq ∧
    (s.countSpe f).scu = s.scu ∧
    (s.countSpe f).mfu = s.mfu ∧
    (s.countSpe f).tst = s.tst ∧
    (s.countSpe f).sru = s.sru ∧
    (s.countSpe f).psc = s.psc ∧
    (s.countSpe f).ulp = s.ulp ∧
    (s.countSpe f).pam = s.pam ∧
    (s.countSpe f).rhg = s.rhg ∧
    (s.countSpe f).qhold = s.qhold ∧
    (s.countSpe f).resetLine = s.resetLine ∧
    (s.countSpe f).pending = s.pending := by
  unfold State.countSpe; simp

@[simp] theorem State.countSru_frame (s : State) (f : SruCounters → SruCounters) :
    (s.countSru f).params = s.params ∧
    (s.countSru f).links = s.links ∧
    (s.countSru f).swg = s.swg ∧
    (s.countSru f).piq = s.piq ∧
    (s.countSru f).scu = s.scu ∧
    (s.countSru f).mfu = s.mfu ∧
    (s.countSru f).tst = s.tst ∧
    (s.countSru f).spe = s.spe ∧
    (s.countSru f).psc = s.psc ∧
    (s.countSru f).ulp = s.ulp ∧
    (s.countSru f).pam = s.pam ∧
    (s.countSru f).rhg = s.rhg ∧
    (s.countSru f).qhold = s.qhold ∧
    (s.countSru f).resetLine = s.resetLine ∧
    (s.countSru f).pending = s.pending := by
  unfold State.countSru; simp

@[simp] theorem State.countPsc_frame (s : State) (f : PscCounters → PscCounters) :
    (s.countPsc f).params = s.params ∧
    (s.countPsc f).links = s.links ∧
    (s.countPsc f).swg = s.swg ∧
    (s.countPsc f).piq = s.piq ∧
    (s.countPsc f).scu = s.scu ∧
    (s.countPsc f).mfu = s.mfu ∧
    (s.countPsc f).tst = s.tst ∧
    (s.countPsc f).spe = s.spe ∧
    (s.countPsc f).sru = s.sru ∧
    (s.countPsc f).ulp = s.ulp ∧
    (s.countPsc f).pam = s.pam ∧
    (s.countPsc f).rhg = s.rhg ∧
    (s.countPsc f).qhold = s.qhold ∧
    (s.countPsc f).resetLine = s.resetLine ∧
    (s.countPsc f).pending = s.pending := by
  unfold State.countPsc; simp

@[simp] theorem State.countUlp_frame (s : State) (f : UlpCounters → UlpCounters) :
    (s.countUlp f).params = s.params ∧
    (s.countUlp f).links = s.links ∧
    (s.countUlp f).swg = s.swg ∧
    (s.countUlp f).piq = s.piq ∧
    (s.countUlp f).scu = s.scu ∧
    (s.countUlp f).mfu = s.mfu ∧
    (s.countUlp f).tst = s.tst ∧
    (s.countUlp f).spe = s.spe ∧
    (s.countUlp f).sru = s.sru ∧
    (s.countUlp f).psc = s.psc ∧
    (s.countUlp f).pam = s.pam ∧
    (s.countUlp f).rhg = s.rhg ∧
    (s.countUlp f).qhold = s.qhold ∧
    (s.countUlp f).resetLine = s.resetLine ∧
    (s.countUlp f).pending = s.pending := by
  unfold State.countUlp; simp

@[simp] theorem State.mark_frame (s : State) (r : Option Nat) (m : Mark) :
    (s.mark r m).params = s.params ∧
    (s.mark r m).links = s.links ∧
    (s.mark r m).swg = s.swg ∧
    (s.mark r m).piq = s.piq ∧
    (s.mark r m).scu = s.scu ∧
    (s.mark r m).mfu = s.mfu ∧
    (s.mark r m).spe = s.spe ∧
    (s.mark r m).sru = s.sru ∧
    (s.mark r m).psc = s.psc ∧
    (s.mark r m).ulp = s.ulp ∧
    (s.mark r m).pam = s.pam ∧
    (s.mark r m).rhg = s.rhg ∧
    (s.mark r m).qhold = s.qhold ∧
    (s.mark r m).resetLine = s.resetLine ∧
    (s.mark r m).pending = s.pending := by
  unfold State.mark; split <;> simp

@[simp] theorem State.modSection_frame (s : State) (x : SectionId) (f : Section → Section) :
    (s.modSection x f).params = s.params ∧
    (s.modSection x f).links = s.links ∧
    (s.modSection x f).swg = s.swg ∧
    (s.modSection x f).piq = s.piq ∧
    (s.modSection x f).scu = s.scu ∧
    (s.modSection x f).mfu = s.mfu ∧
    (s.modSection x f).spe = s.spe ∧
    (s.modSection x f).sru = s.sru ∧
    (s.modSection x f).psc = s.psc ∧
    (s.modSection x f).ulp = s.ulp ∧
    (s.modSection x f).pam = s.pam ∧
    (s.modSection x f).rhg = s.rhg ∧
    (s.modSection x f).qhold = s.qhold ∧
    (s.modSection x f).resetLine = s.resetLine ∧
    (s.modSection x f).pending = s.pending := by
  unfold State.modSection; simp

@[simp] theorem State.modOpen_frame (s : State) (x : SectionId) (f : OpenSection → OpenSection) :
    (s.modOpen x f).params = s.params ∧
    (s.modOpen x f).links = s.links ∧
    (s.modOpen x f).swg = s.swg ∧
    (s.modOpen x f).piq = s.piq ∧
    (s.modOpen x f).scu = s.scu ∧
    (s.modOpen x f).mfu = s.mfu ∧
    (s.modOpen x f).tst = s.tst ∧
    (s.modOpen x f).spe = s.spe ∧
    (s.modOpen x f).psc = s.psc ∧
    (s.modOpen x f).ulp = s.ulp ∧
    (s.modOpen x f).pam = s.pam ∧
    (s.modOpen x f).rhg = s.rhg ∧
    (s.modOpen x f).qhold = s.qhold ∧
    (s.modOpen x f).resetLine = s.resetLine ∧
    (s.modOpen x f).pending = s.pending := by
  unfold State.modOpen; simp

@[simp] theorem State.setWork_frame (s : State) (w : Work) :
    (s.setWork w).params = s.params ∧
    (s.setWork w).links = s.links ∧
    (s.setWork w).swg = s.swg ∧
    (s.setWork w).piq = s.piq ∧
    (s.setWork w).scu = s.scu ∧
    (s.setWork w).mfu = s.mfu ∧
    (s.setWork w).tst = s.tst ∧
    (s.setWork w).sru = s.sru ∧
    (s.setWork w).psc = s.psc ∧
    (s.setWork w).ulp = s.ulp ∧
    (s.setWork w).pam = s.pam ∧
    (s.setWork w).rhg = s.rhg ∧
    (s.setWork w).qhold = s.qhold ∧
    (s.setWork w).resetLine = s.resetLine ∧
    (s.setWork w).pending = s.pending := by
  unfold State.setWork; simp

@[simp] theorem State.setTable_frame (s : State) (l : List Sighting) :
    (s.setTable l).params = s.params ∧
    (s.setTable l).links = s.links ∧
    (s.setTable l).swg = s.swg ∧
    (s.setTable l).piq = s.piq ∧
    (s.setTable l).scu = s.scu ∧
    (s.setTable l).mfu = s.mfu ∧
    (s.setTable l).tst = s.tst ∧
    (s.setTable l).sru = s.sru ∧
    (s.setTable l).psc = s.psc ∧
    (s.setTable l).ulp = s.ulp ∧
    (s.setTable l).pam = s.pam ∧
    (s.setTable l).rhg = s.rhg ∧
    (s.setTable l).qhold = s.qhold ∧
    (s.setTable l).resetLine = s.resetLine ∧
    (s.setTable l).pending = s.pending := by
  unfold State.setTable; simp

@[simp] theorem State.modEntry_frame (s : State) (n : Nat) (f : Sighting → Sighting) :
    (s.modEntry n f).params = s.params ∧
    (s.modEntry n f).links = s.links ∧
    (s.modEntry n f).swg = s.swg ∧
    (s.modEntry n f).piq = s.piq ∧
    (s.modEntry n f).scu = s.scu ∧
    (s.modEntry n f).mfu = s.mfu ∧
    (s.modEntry n f).tst = s.tst ∧
    (s.modEntry n f).sru = s.sru ∧
    (s.modEntry n f).psc = s.psc ∧
    (s.modEntry n f).ulp = s.ulp ∧
    (s.modEntry n f).pam = s.pam ∧
    (s.modEntry n f).rhg = s.rhg ∧
    (s.modEntry n f).qhold = s.qhold ∧
    (s.modEntry n f).resetLine = s.resetLine ∧
    (s.modEntry n f).pending = s.pending := by
  unfold State.modEntry; simp

@[simp] theorem State.freeSlot_frame (s : State) (n : Nat) :
    (s.freeSlot n).params = s.params ∧
    (s.freeSlot n).links = s.links ∧
    (s.freeSlot n).swg = s.swg ∧
    (s.freeSlot n).piq = s.piq ∧
    (s.freeSlot n).scu = s.scu ∧
    (s.freeSlot n).mfu = s.mfu ∧
    (s.freeSlot n).tst = s.tst ∧
    (s.freeSlot n).sru = s.sru ∧
    (s.freeSlot n).psc = s.psc ∧
    (s.freeSlot n).ulp = s.ulp ∧
    (s.freeSlot n).pam = s.pam ∧
    (s.freeSlot n).rhg = s.rhg ∧
    (s.freeSlot n).qhold = s.qhold ∧
    (s.freeSlot n).resetLine = s.resetLine ∧
    (s.freeSlot n).pending = s.pending := by
  unfold State.freeSlot; simp

@[simp] theorem State.countScored_frame (s : State) :
    (s.countScored).params = s.params ∧
    (s.countScored).links = s.links ∧
    (s.countScored).swg = s.swg ∧
    (s.countScored).piq = s.piq ∧
    (s.countScored).scu = s.scu ∧
    (s.countScored).mfu = s.mfu ∧
    (s.countScored).tst = s.tst ∧
    (s.countScored).sru = s.sru ∧
    (s.countScored).psc = s.psc ∧
    (s.countScored).ulp = s.ulp ∧
    (s.countScored).pam = s.pam ∧
    (s.countScored).rhg = s.rhg ∧
    (s.countScored).qhold = s.qhold ∧
    (s.countScored).resetLine = s.resetLine ∧
    (s.countScored).pending = s.pending := by
  unfold State.countScored; simp

@[simp] theorem State.endScored_frame (s : State) :
    (s.endScored).params = s.params ∧
    (s.endScored).links = s.links ∧
    (s.endScored).swg = s.swg ∧
    (s.endScored).piq = s.piq ∧
    (s.endScored).scu = s.scu ∧
    (s.endScored).mfu = s.mfu ∧
    (s.endScored).tst = s.tst ∧
    (s.endScored).sru = s.sru ∧
    (s.endScored).psc = s.psc ∧
    (s.endScored).ulp = s.ulp ∧
    (s.endScored).pam = s.pam ∧
    (s.endScored).rhg = s.rhg ∧
    (s.endScored).qhold = s.qhold ∧
    (s.endScored).resetLine = s.resetLine ∧
    (s.endScored).pending = s.pending := by
  unfold State.endScored; split <;> simp

@[simp] theorem State.endWait_frame (s : State) :
    (s.endWait).params = s.params ∧
    (s.endWait).links = s.links ∧
    (s.endWait).swg = s.swg ∧
    (s.endWait).piq = s.piq ∧
    (s.endWait).scu = s.scu ∧
    (s.endWait).mfu = s.mfu ∧
    (s.endWait).tst = s.tst ∧
    (s.endWait).sru = s.sru ∧
    (s.endWait).psc = s.psc ∧
    (s.endWait).ulp = s.ulp ∧
    (s.endWait).pam = s.pam ∧
    (s.endWait).rhg = s.rhg ∧
    (s.endWait).qhold = s.qhold ∧
    (s.endWait).resetLine = s.resetLine ∧
    (s.endWait).pending = s.pending := by
  unfold State.endWait; split <;> simp

/-! ### Flags -/

@[simp] theorem State.postAlert_frame (s : State) (x : Alert) :
    (s.postAlert x).params = s.params ∧
    (s.postAlert x).links = s.links ∧
    (s.postAlert x).swg = s.swg ∧
    (s.postAlert x).piq = s.piq ∧
    (s.postAlert x).scu = s.scu ∧
    (s.postAlert x).mfu = s.mfu ∧
    (s.postAlert x).tst = s.tst ∧
    (s.postAlert x).spe = s.spe ∧
    (s.postAlert x).sru = s.sru ∧
    (s.postAlert x).psc = s.psc ∧
    (s.postAlert x).pam = s.pam ∧
    (s.postAlert x).rhg = s.rhg ∧
    (s.postAlert x).qhold = s.qhold ∧
    (s.postAlert x).resetLine = s.resetLine ∧
    (s.postAlert x).pending = s.pending := by
  unfold State.postAlert; simp

@[simp] theorem State.queueReply_frame (s : State) (r : Reply) :
    (s.queueReply r).params = s.params ∧
    (s.queueReply r).links = s.links ∧
    (s.queueReply r).swg = s.swg ∧
    (s.queueReply r).piq = s.piq ∧
    (s.queueReply r).scu = s.scu ∧
    (s.queueReply r).mfu = s.mfu ∧
    (s.queueReply r).tst = s.tst ∧
    (s.queueReply r).spe = s.spe ∧
    (s.queueReply r).sru = s.sru ∧
    (s.queueReply r).psc = s.psc ∧
    (s.queueReply r).pam = s.pam ∧
    (s.queueReply r).rhg = s.rhg ∧
    (s.queueReply r).qhold = s.qhold ∧
    (s.queueReply r).resetLine = s.resetLine ∧
    (s.queueReply r).pending = s.pending := by
  unfold State.queueReply; split <;> simp

@[simp] theorem State.disqualifyAll_frame (s : State) :
    (s.disqualifyAll).params = s.params ∧
    (s.disqualifyAll).links = s.links ∧
    (s.disqualifyAll).swg = s.swg ∧
    (s.disqualifyAll).piq = s.piq ∧
    (s.disqualifyAll).scu = s.scu ∧
    (s.disqualifyAll).mfu = s.mfu ∧
    (s.disqualifyAll).tst = s.tst ∧
    (s.disqualifyAll).spe = s.spe ∧
    (s.disqualifyAll).sru = s.sru ∧
    (s.disqualifyAll).psc = s.psc ∧
    (s.disqualifyAll).ulp = s.ulp ∧
    (s.disqualifyAll).rhg = s.rhg ∧
    (s.disqualifyAll).qhold = s.qhold ∧
    (s.disqualifyAll).resetLine = s.resetLine ∧
    (s.disqualifyAll).pending = s.pending := by
  unfold State.disqualifyAll; split <;> simp

@[simp] theorem State.disqualify_frame (s : State) (p : Port) :
    (s.disqualify p).params = s.params ∧
    (s.disqualify p).links = s.links ∧
    (s.disqualify p).swg = s.swg ∧
    (s.disqualify p).piq = s.piq ∧
    (s.disqualify p).scu = s.scu ∧
    (s.disqualify p).mfu = s.mfu ∧
    (s.disqualify p).tst = s.tst ∧
    (s.disqualify p).spe = s.spe ∧
    (s.disqualify p).sru = s.sru ∧
    (s.disqualify p).psc = s.psc ∧
    (s.disqualify p).ulp = s.ulp ∧
    (s.disqualify p).rhg = s.rhg ∧
    (s.disqualify p).qhold = s.qhold ∧
    (s.disqualify p).resetLine = s.resetLine ∧
    (s.disqualify p).pending = s.pending := by
  unfold State.disqualify; split <;> simp

@[simp] theorem State.requestHold_frame (s : State) :
    (s.requestHold).params = s.params ∧
    (s.requestHold).links = s.links ∧
    (s.requestHold).piq = s.piq ∧
    (s.requestHold).scu = s.scu ∧
    (s.requestHold).mfu = s.mfu ∧
    (s.requestHold).tst = s.tst ∧
    (s.requestHold).spe = s.spe ∧
    (s.requestHold).sru = s.sru ∧
    (s.requestHold).psc = s.psc ∧
    (s.requestHold).rhg = s.rhg ∧
    (s.requestHold).qhold = s.qhold ∧
    (s.requestHold).resetLine = s.resetLine ∧
    (s.requestHold).pending = s.pending := by
  unfold State.requestHold; simp

@[simp] theorem State.appendRecord_frame (s : State) (r : Record) :
    (s.appendRecord r).params = s.params ∧
    (s.appendRecord r).links = s.links ∧
    (s.appendRecord r).swg = s.swg ∧
    (s.appendRecord r).piq = s.piq ∧
    (s.appendRecord r).scu = s.scu ∧
    (s.appendRecord r).mfu = s.mfu ∧
    (s.appendRecord r).tst = s.tst ∧
    (s.appendRecord r).spe = s.spe ∧
    (s.appendRecord r).sru = s.sru ∧
    (s.appendRecord r).psc = s.psc ∧
    (s.appendRecord r).pam = s.pam ∧
    (s.appendRecord r).rhg = s.rhg ∧
    (s.appendRecord r).qhold = s.qhold ∧
    (s.appendRecord r).resetLine = s.resetLine ∧
    (s.appendRecord r).pending = s.pending := by
  unfold State.appendRecord; simp

@[simp] theorem State.writeRecord_frame (s : State) (r : Record) :
    (s.writeRecord r).params = s.params ∧
    (s.writeRecord r).links = s.links ∧
    (s.writeRecord r).piq = s.piq ∧
    (s.writeRecord r).scu = s.scu ∧
    (s.writeRecord r).mfu = s.mfu ∧
    (s.writeRecord r).tst = s.tst ∧
    (s.writeRecord r).spe = s.spe ∧
    (s.writeRecord r).sru = s.sru ∧
    (s.writeRecord r).psc = s.psc ∧
    (s.writeRecord r).rhg = s.rhg ∧
    (s.writeRecord r).qhold = s.qhold ∧
    (s.writeRecord r).resetLine = s.resetLine ∧
    (s.writeRecord r).pending = s.pending := by
  unfold State.writeRecord; split <;> simp

@[simp] theorem State.writeActivity_frame (s : State) (r : Record) :
    (s.writeActivity r).params = s.params ∧
    (s.writeActivity r).links = s.links ∧
    (s.writeActivity r).piq = s.piq ∧
    (s.writeActivity r).scu = s.scu ∧
    (s.writeActivity r).mfu = s.mfu ∧
    (s.writeActivity r).tst = s.tst ∧
    (s.writeActivity r).spe = s.spe ∧
    (s.writeActivity r).sru = s.sru ∧
    (s.writeActivity r).psc = s.psc ∧
    (s.writeActivity r).rhg = s.rhg ∧
    (s.writeActivity r).qhold = s.qhold ∧
    (s.writeActivity r).resetLine = s.resetLine ∧
    (s.writeActivity r).pending = s.pending := by
  unfold State.writeActivity; split <;> simp

/-! ### Piq -/

@[simp] theorem State.wake_frame (s : State) (p : Port) :
    (s.wake p).params = s.params ∧
    (s.wake p).links = s.links ∧
    (s.wake p).swg = s.swg ∧
    (s.wake p).piq = s.piq ∧
    (s.wake p).scu = s.scu ∧
    (s.wake p).mfu = s.mfu ∧
    (s.wake p).tst = s.tst ∧
    (s.wake p).sru = s.sru ∧
    (s.wake p).psc = s.psc ∧
    (s.wake p).ulp = s.ulp ∧
    (s.wake p).pam = s.pam ∧
    (s.wake p).rhg = s.rhg ∧
    (s.wake p).qhold = s.qhold ∧
    (s.wake p).resetLine = s.resetLine ∧
    (s.wake p).pending = s.pending := by
  unfold State.wake; split <;> simp

@[simp] theorem State.overflowDrop_frame (s : State) (p : Port) :
    (s.overflowDrop p).params = s.params ∧
    (s.overflowDrop p).links = s.links ∧
    (s.overflowDrop p).swg = s.swg ∧
    (s.overflowDrop p).scu = s.scu ∧
    (s.overflowDrop p).mfu = s.mfu ∧
    (s.overflowDrop p).tst = s.tst ∧
    (s.overflowDrop p).spe = s.spe ∧
    (s.overflowDrop p).sru = s.sru ∧
    (s.overflowDrop p).psc = s.psc ∧
    (s.overflowDrop p).pam = s.pam ∧
    (s.overflowDrop p).rhg = s.rhg ∧
    (s.overflowDrop p).qhold = s.qhold ∧
    (s.overflowDrop p).resetLine = s.resetLine ∧
    (s.overflowDrop p).pending = s.pending := by
  unfold State.overflowDrop; split <;> simp

@[simp] theorem State.arrive_frame (s : State) (e : ReadEntry) :
    (s.arrive e).params = s.params ∧
    (s.arrive e).links = s.links ∧
    (s.arrive e).swg = s.swg ∧
    (s.arrive e).scu = s.scu ∧
    (s.arrive e).mfu = s.mfu ∧
    (s.arrive e).tst = s.tst ∧
    (s.arrive e).sru = s.sru ∧
    (s.arrive e).psc = s.psc ∧
    (s.arrive e).pam = s.pam ∧
    (s.arrive e).rhg = s.rhg ∧
    (s.arrive e).qhold = s.qhold ∧
    (s.arrive e).resetLine = s.resetLine ∧
    (s.arrive e).pending = s.pending := by
  unfold State.arrive; (repeat' split) <;> simp

@[simp] theorem State.emptyPort_frame (s : State) (p : Port) :
    (s.emptyPort p).params = s.params ∧
    (s.emptyPort p).links = s.links ∧
    (s.emptyPort p).swg = s.swg ∧
    (s.emptyPort p).mfu = s.mfu ∧
    (s.emptyPort p).tst = s.tst ∧
    (s.emptyPort p).sru = s.sru ∧
    (s.emptyPort p).psc = s.psc ∧
    (s.emptyPort p).ulp = s.ulp ∧
    (s.emptyPort p).pam = s.pam ∧
    (s.emptyPort p).rhg = s.rhg ∧
    (s.emptyPort p).qhold = s.qhold ∧
    (s.emptyPort p).resetLine = s.resetLine ∧
    (s.emptyPort p).pending = s.pending := by
  unfold State.emptyPort; dsimp only; split <;> simp

@[simp] theorem State.becomeHeld_frame (s : State) (p : Port) :
    (s.becomeHeld p).params = s.params ∧
    (s.becomeHeld p).links = s.links ∧
    (s.becomeHeld p).swg = s.swg ∧
    (s.becomeHeld p).mfu = s.mfu ∧
    (s.becomeHeld p).tst = s.tst ∧
    (s.becomeHeld p).sru = s.sru ∧
    (s.becomeHeld p).psc = s.psc ∧
    (s.becomeHeld p).ulp = s.ulp ∧
    (s.becomeHeld p).rhg = s.rhg ∧
    (s.becomeHeld p).qhold = s.qhold ∧
    (s.becomeHeld p).resetLine = s.resetLine ∧
    (s.becomeHeld p).pending = s.pending := by
  unfold State.becomeHeld; simp

/-! ### Settling -/

@[simp] theorem State.stopGenerators_frame (s : State) :
    (s.stopGenerators).params = s.params ∧
    (s.stopGenerators).links = s.links ∧
    (s.stopGenerators).piq = s.piq ∧
    (s.stopGenerators).scu = s.scu ∧
    (s.stopGenerators).mfu = s.mfu ∧
    (s.stopGenerators).tst = s.tst ∧
    (s.stopGenerators).spe = s.spe ∧
    (s.stopGenerators).sru = s.sru ∧
    (s.stopGenerators).psc = s.psc ∧
    (s.stopGenerators).ulp = s.ulp ∧
    (s.stopGenerators).pam = s.pam ∧
    (s.stopGenerators).rhg = s.rhg ∧
    (s.stopGenerators).qhold = s.qhold ∧
    (s.stopGenerators).resetLine = s.resetLine ∧
    (s.stopGenerators).pending = s.pending := by
  unfold State.stopGenerators; simp

@[simp] theorem State.stopWindow_frame (s : State) :
    (s.stopWindow).params = s.params ∧
    (s.stopWindow).links = s.links ∧
    (s.stopWindow).swg = s.swg ∧
    (s.stopWindow).piq = s.piq ∧
    (s.stopWindow).scu = s.scu ∧
    (s.stopWindow).mfu = s.mfu ∧
    (s.stopWindow).tst = s.tst ∧
    (s.stopWindow).spe = s.spe ∧
    (s.stopWindow).sru = s.sru ∧
    (s.stopWindow).psc = s.psc ∧
    (s.stopWindow).ulp = s.ulp ∧
    (s.stopWindow).rhg = s.rhg ∧
    (s.stopWindow).qhold = s.qhold ∧
    (s.stopWindow).resetLine = s.resetLine ∧
    (s.stopWindow).pending = s.pending := by
  unfold State.stopWindow; simp

@[simp] theorem State.stopRhg_frame (s : State) :
    (s.stopRhg).params = s.params ∧
    (s.stopRhg).links = s.links ∧
    (s.stopRhg).swg = s.swg ∧
    (s.stopRhg).piq = s.piq ∧
    (s.stopRhg).scu = s.scu ∧
    (s.stopRhg).mfu = s.mfu ∧
    (s.stopRhg).tst = s.tst ∧
    (s.stopRhg).spe = s.spe ∧
    (s.stopRhg).sru = s.sru ∧
    (s.stopRhg).psc = s.psc ∧
    (s.stopRhg).ulp = s.ulp ∧
    (s.stopRhg).pam = s.pam ∧
    (s.stopRhg).qhold = s.qhold ∧
    (s.stopRhg).resetLine = s.resetLine ∧
    (s.stopRhg).pending = s.pending := by
  unfold State.stopRhg; simp

@[simp] theorem State.enterSettling_frame (s : State) (r : EndReason) :
    (s.enterSettling r).params = s.params ∧
    (s.enterSettling r).links = s.links ∧
    (s.enterSettling r).piq = s.piq ∧
    (s.enterSettling r).scu = s.scu ∧
    (s.enterSettling r).mfu = s.mfu ∧
    (s.enterSettling r).tst = s.tst ∧
    (s.enterSettling r).spe = s.spe ∧
    (s.enterSettling r).sru = s.sru ∧
    (s.enterSettling r).ulp = s.ulp ∧
    (s.enterSettling r).qhold = s.qhold ∧
    (s.enterSettling r).resetLine = s.resetLine ∧
    (s.enterSettling r).pending = s.pending := by
  unfold State.enterSettling; simp

@[simp] theorem State.internalClose_frame (s : State) (r : EndReason) :
    (s.internalClose r).params = s.params ∧
    (s.internalClose r).links = s.links ∧
    (s.internalClose r).piq = s.piq ∧
    (s.internalClose r).scu = s.scu ∧
    (s.internalClose r).mfu = s.mfu ∧
    (s.internalClose r).tst = s.tst ∧
    (s.internalClose r).spe = s.spe ∧
    (s.internalClose r).sru = s.sru ∧
    (s.internalClose r).ulp = s.ulp ∧
    (s.internalClose r).qhold = s.qhold ∧
    (s.internalClose r).resetLine = s.resetLine ∧
    (s.internalClose r).pending = s.pending := by
  unfold State.internalClose; split <;> simp

@[simp] theorem State.enterTallying_frame (s : State) :
    (s.enterTallying).params = s.params ∧
    (s.enterTallying).links = s.links ∧
    (s.enterTallying).swg = s.swg ∧
    (s.enterTallying).piq = s.piq ∧
    (s.enterTallying).scu = s.scu ∧
    (s.enterTallying).mfu = s.mfu ∧
    (s.enterTallying).tst = s.tst ∧
    (s.enterTallying).spe = s.spe ∧
    (s.enterTallying).ulp = s.ulp ∧
    (s.enterTallying).pam = s.pam ∧
    (s.enterTallying).rhg = s.rhg ∧
    (s.enterTallying).qhold = s.qhold ∧
    (s.enterTallying).resetLine = s.resetLine ∧
    (s.enterTallying).pending = s.pending := by
  unfold State.enterTallying; simp

@[simp] theorem State.signalIfClosed_frame (s : State) :
    (s.signalIfClosed).params = s.params ∧
    (s.signalIfClosed).links = s.links ∧
    (s.signalIfClosed).swg = s.swg ∧
    (s.signalIfClosed).piq = s.piq ∧
    (s.signalIfClosed).scu = s.scu ∧
    (s.signalIfClosed).mfu = s.mfu ∧
    (s.signalIfClosed).tst = s.tst ∧
    (s.signalIfClosed).spe = s.spe ∧
    (s.signalIfClosed).ulp = s.ulp ∧
    (s.signalIfClosed).pam = s.pam ∧
    (s.signalIfClosed).rhg = s.rhg ∧
    (s.signalIfClosed).qhold = s.qhold ∧
    (s.signalIfClosed).resetLine = s.resetLine ∧
    (s.signalIfClosed).pending = s.pending := by
  unfold State.signalIfClosed; split <;> simp

/-! ### Rhg -/

@[simp] theorem State.rhgTake_frame (s : State) (i : Nat) :
    (s.rhgTake i).params = s.params ∧
    (s.rhgTake i).links = s.links ∧
    (s.rhgTake i).piq = s.piq ∧
    (s.rhgTake i).scu = s.scu ∧
    (s.rhgTake i).mfu = s.mfu ∧
    (s.rhgTake i).tst = s.tst ∧
    (s.rhgTake i).spe = s.spe ∧
    (s.rhgTake i).sru = s.sru ∧
    (s.rhgTake i).ulp = s.ulp ∧
    (s.rhgTake i).qhold = s.qhold ∧
    (s.rhgTake i).resetLine = s.resetLine ∧
    (s.rhgTake i).pending = s.pending := by
  unfold State.rhgTake; split <;> simp

@[simp] theorem State.rhgPresent_frame (s : State) (y : Section) (n : Nat) :
    (s.rhgPresent y n).params = s.params ∧
    (s.rhgPresent y n).links = s.links ∧
    (s.rhgPresent y n).swg = s.swg ∧
    (s.rhgPresent y n).scu = s.scu ∧
    (s.rhgPresent y n).mfu = s.mfu ∧
    (s.rhgPresent y n).tst = s.tst ∧
    (s.rhgPresent y n).sru = s.sru ∧
    (s.rhgPresent y n).psc = s.psc ∧
    (s.rhgPresent y n).pam = s.pam ∧
    (s.rhgPresent y n).qhold = s.qhold ∧
    (s.rhgPresent y n).resetLine = s.resetLine ∧
    (s.rhgPresent y n).pending = s.pending := by
  unfold State.rhgPresent; split <;> simp

@[simp] theorem State.rhgAdvance_frame (s : State) (l : List Side) (n : Nat) :
    (s.rhgAdvance l n).params = s.params ∧
    (s.rhgAdvance l n).links = s.links ∧
    (s.rhgAdvance l n).scu = s.scu ∧
    (s.rhgAdvance l n).mfu = s.mfu ∧
    (s.rhgAdvance l n).tst = s.tst ∧
    (s.rhgAdvance l n).sru = s.sru ∧
    (s.rhgAdvance l n).qhold = s.qhold ∧
    (s.rhgAdvance l n).resetLine = s.resetLine ∧
    (s.rhgAdvance l n).pending = s.pending := by
  unfold State.rhgAdvance; dsimp only; (repeat' split) <;> simp

@[simp] theorem State.rhgStart_frame (s : State) (l : List Side) (n : Nat) (b : Bool) :
    (s.rhgStart l n b).params = s.params ∧
    (s.rhgStart l n b).links = s.links ∧
    (s.rhgStart l n b).scu = s.scu ∧
    (s.rhgStart l n b).mfu = s.mfu ∧
    (s.rhgStart l n b).tst = s.tst ∧
    (s.rhgStart l n b).sru = s.sru ∧
    (s.rhgStart l n b).qhold = s.qhold ∧
    (s.rhgStart l n b).resetLine = s.resetLine ∧
    (s.rhgStart l n b).pending = s.pending := by
  unfold State.rhgStart; (repeat' split) <;> simp

/-! ### Swg -/

@[simp] theorem State.sendSweep_frame (s : State) (d : Side) (n w : Nat) :
    (s.sendSweep d n w).params = s.params ∧
    (s.sendSweep d n w).swg = s.swg ∧
    (s.sendSweep d n w).piq = s.piq ∧
    (s.sendSweep d n w).scu = s.scu ∧
    (s.sendSweep d n w).mfu = s.mfu ∧
    (s.sendSweep d n w).tst = s.tst ∧
    (s.sendSweep d n w).spe = s.spe ∧
    (s.sendSweep d n w).sru = s.sru ∧
    (s.sendSweep d n w).psc = s.psc ∧
    (s.sendSweep d n w).ulp = s.ulp ∧
    (s.sendSweep d n w).pam = s.pam ∧
    (s.sendSweep d n w).rhg = s.rhg ∧
    (s.sendSweep d n w).qhold = s.qhold ∧
    (s.sendSweep d n w).resetLine = s.resetLine ∧
    (s.sendSweep d n w).pending = s.pending := by
  unfold State.sendSweep; split
  · exact ⟨foldl_keeps State.params _ (by simp) _ _, foldl_keeps State.swg _ (by simp) _ _, foldl_keeps State.piq _ (by simp) _ _, foldl_keeps State.scu _ (by simp) _ _, foldl_keeps State.mfu _ (by simp) _ _, foldl_keeps State.tst _ (by simp) _ _, foldl_keeps State.spe _ (by simp) _ _, foldl_keeps State.sru _ (by simp) _ _, foldl_keeps State.psc _ (by simp) _ _, foldl_keeps State.ulp _ (by simp) _ _, foldl_keeps State.pam _ (by simp) _ _, foldl_keeps State.rhg _ (by simp) _ _, foldl_keeps State.qhold _ (by simp) _ _, foldl_keeps State.resetLine _ (by simp) _ _, foldl_keeps State.pending _ (by simp) _ _⟩
  · simp

@[simp] theorem State.countTransit_frame (s : State) (p : Port) :
    (s.countTransit p).params = s.params ∧
    (s.countTransit p).links = s.links ∧
    (s.countTransit p).swg = s.swg ∧
    (s.countTransit p).piq = s.piq ∧
    (s.countTransit p).scu = s.scu ∧
    (s.countTransit p).tst = s.tst ∧
    (s.countTransit p).spe = s.spe ∧
    (s.countTransit p).sru = s.sru ∧
    (s.countTransit p).psc = s.psc ∧
    (s.countTransit p).pam = s.pam ∧
    (s.countTransit p).rhg = s.rhg ∧
    (s.countTransit p).qhold = s.qhold ∧
    (s.countTransit p).resetLine = s.resetLine ∧
    (s.countTransit p).pending = s.pending := by
  unfold State.countTransit; dsimp only; (repeat' split) <;> simp

@[simp] theorem State.sweepStarted_frame (s : State) (l : List Side) (n : Nat) (b : Bool) :
    (s.sweepStarted l n b).params = s.params ∧
    (s.sweepStarted l n b).links = s.links ∧
    (s.sweepStarted l n b).scu = s.scu ∧
    (s.sweepStarted l n b).tst = s.tst ∧
    (s.sweepStarted l n b).sru = s.sru ∧
    (s.sweepStarted l n b).qhold = s.qhold ∧
    (s.sweepStarted l n b).resetLine = s.resetLine ∧
    (s.sweepStarted l n b).pending = s.pending := by
  unfold State.sweepStarted
  simp only [State.rhgStart_frame]
  exact ⟨forPorts_keeps State.params _ (by intro p t; split <;> simp) _, forPorts_keeps State.links _ (by intro p t; split <;> simp) _, forPorts_keeps State.scu _ (by intro p t; split <;> simp) _, forPorts_keeps State.tst _ (by intro p t; split <;> simp) _, forPorts_keeps State.sru _ (by intro p t; split <;> simp) _, forPorts_keeps State.qhold _ (by intro p t; split <;> simp) _, forPorts_keeps State.resetLine _ (by intro p t; split <;> simp) _, forPorts_keeps State.pending _ (by intro p t; split <;> simp) _⟩

@[simp] theorem State.modGen_frame (s : State) (g : Generator) (f : GenState → GenState) :
    (s.modGen g f).params = s.params ∧
    (s.modGen g f).links = s.links ∧
    (s.modGen g f).piq = s.piq ∧
    (s.modGen g f).scu = s.scu ∧
    (s.modGen g f).mfu = s.mfu ∧
    (s.modGen g f).tst = s.tst ∧
    (s.modGen g f).spe = s.spe ∧
    (s.modGen g f).sru = s.sru ∧
    (s.modGen g f).psc = s.psc ∧
    (s.modGen g f).ulp = s.ulp ∧
    (s.modGen g f).pam = s.pam ∧
    (s.modGen g f).rhg = s.rhg ∧
    (s.modGen g f).qhold = s.qhold ∧
    (s.modGen g f).resetLine = s.resetLine ∧
    (s.modGen g f).pending = s.pending := by
  unfold State.modGen; simp

@[simp] theorem State.withholdStart_frame (s : State) (g : Generator) :
    (s.withholdStart g).params = s.params ∧
    (s.withholdStart g).links = s.links ∧
    (s.withholdStart g).piq = s.piq ∧
    (s.withholdStart g).scu = s.scu ∧
    (s.withholdStart g).mfu = s.mfu ∧
    (s.withholdStart g).tst = s.tst ∧
    (s.withholdStart g).spe = s.spe ∧
    (s.withholdStart g).sru = s.sru ∧
    (s.withholdStart g).psc = s.psc ∧
    (s.withholdStart g).pam = s.pam ∧
    (s.withholdStart g).rhg = s.rhg ∧
    (s.withholdStart g).qhold = s.qhold ∧
    (s.withholdStart g).resetLine = s.resetLine ∧
    (s.withholdStart g).pending = s.pending := by
  unfold State.withholdStart; dsimp only; split <;> simp

@[simp] theorem State.freeStart_frame (s : State) (g : Generator) :
    (s.freeStart g).params = s.params ∧
    (s.freeStart g).scu = s.scu ∧
    (s.freeStart g).tst = s.tst ∧
    (s.freeStart g).sru = s.sru ∧
    (s.freeStart g).qhold = s.qhold ∧
    (s.freeStart g).resetLine = s.resetLine ∧
    (s.freeStart g).pending = s.pending := by
  unfold State.freeStart; dsimp only; simp only [State.sweepStarted_frame, State.modGen_frame]
  exact ⟨foldl_keeps State.params _ (by simp) _ _, foldl_keeps State.scu _ (by simp) _ _, foldl_keeps State.tst _ (by simp) _ _, foldl_keeps State.sru _ (by simp) _ _, foldl_keeps State.qhold _ (by simp) _ _, foldl_keeps State.resetLine _ (by simp) _ _, foldl_keeps State.pending _ (by simp) _ _⟩

@[simp] theorem State.interleavedStart_frame (s : State) :
    (s.interleavedStart).params = s.params ∧
    (s.interleavedStart).scu = s.scu ∧
    (s.interleavedStart).tst = s.tst ∧
    (s.interleavedStart).sru = s.sru ∧
    (s.interleavedStart).qhold = s.qhold ∧
    (s.interleavedStart).resetLine = s.resetLine ∧
    (s.interleavedStart).pending = s.pending := by
  unfold State.interleavedStart; dsimp only; simp only [State.sweepStarted_frame, State.setSwg_params, State.setSwg_scu, State.setSwg_tst, State.setSwg_sru, State.setSwg_qhold, State.setSwg_resetLine, State.setSwg_pending]
  exact ⟨foldl_keeps State.params _ (by simp) _ _, foldl_keeps State.scu _ (by simp) _ _, foldl_keeps State.tst _ (by simp) _ _, foldl_keeps State.sru _ (by simp) _ _, foldl_keeps State.qhold _ (by simp) _ _, foldl_keeps State.resetLine _ (by simp) _ _, foldl_keeps State.pending _ (by simp) _ _⟩

@[simp] theorem State.endWindow_frame (s : State) (g : Generator) :
    (s.endWindow g).params = s.params ∧
    (s.endWindow g).links = s.links ∧
    (s.endWindow g).piq = s.piq ∧
    (s.endWindow g).scu = s.scu ∧
    (s.endWindow g).mfu = s.mfu ∧
    (s.endWindow g).tst = s.tst ∧
    (s.endWindow g).spe = s.spe ∧
    (s.endWindow g).sru = s.sru ∧
    (s.endWindow g).psc = s.psc ∧
    (s.endWindow g).ulp = s.ulp ∧
    (s.endWindow g).pam = s.pam ∧
    (s.endWindow g).rhg = s.rhg ∧
    (s.endWindow g).qhold = s.qhold ∧
    (s.endWindow g).resetLine = s.resetLine ∧
    (s.endWindow g).pending = s.pending := by
  unfold State.endWindow; split <;> simp

@[simp] theorem State.attemptStart_frame (s : State) (g : Generator) :
    (s.attemptStart g).params = s.params ∧
    (s.attemptStart g).scu = s.scu ∧
    (s.attemptStart g).tst = s.tst ∧
    (s.attemptStart g).sru = s.sru ∧
    (s.attemptStart g).qhold = s.qhold ∧
    (s.attemptStart g).resetLine = s.resetLine ∧
    (s.attemptStart g).pending = s.pending := by
  unfold State.attemptStart; (repeat' split) <;> simp

@[simp] theorem State.startIfActive_frame (s : State) (g : Generator) :
    (s.startIfActive g).params = s.params ∧
    (s.startIfActive g).scu = s.scu ∧
    (s.startIfActive g).tst = s.tst ∧
    (s.startIfActive g).sru = s.sru ∧
    (s.startIfActive g).qhold = s.qhold ∧
    (s.startIfActive g).resetLine = s.resetLine ∧
    (s.startIfActive g).pending = s.pending := by
  unfold State.startIfActive; split <;> simp

@[simp] theorem State.latchRun_frame (s : State) :
    (s.latchRun).params = s.params ∧
    (s.latchRun).links = s.links ∧
    (s.latchRun).piq = s.piq ∧
    (s.latchRun).scu = s.scu ∧
    (s.latchRun).mfu = s.mfu ∧
    (s.latchRun).tst = s.tst ∧
    (s.latchRun).spe = s.spe ∧
    (s.latchRun).sru = s.sru ∧
    (s.latchRun).psc = s.psc ∧
    (s.latchRun).ulp = s.ulp ∧
    (s.latchRun).pam = s.pam ∧
    (s.latchRun).rhg = s.rhg ∧
    (s.latchRun).qhold = s.qhold ∧
    (s.latchRun).resetLine = s.resetLine ∧
    (s.latchRun).pending = s.pending := by
  unfold State.latchRun; simp

@[simp] theorem State.startGenerators_frame (s : State) :
    (s.startGenerators).params = s.params ∧
    (s.startGenerators).scu = s.scu ∧
    (s.startGenerators).tst = s.tst ∧
    (s.startGenerators).sru = s.sru ∧
    (s.startGenerators).qhold = s.qhold ∧
    (s.startGenerators).resetLine = s.resetLine ∧
    (s.startGenerators).pending = s.pending := by
  unfold State.startGenerators; simp

@[simp] theorem State.releaseStart_frame (s : State) (h : Bool) (g : Generator) :
    (s.releaseStart h g).params = s.params ∧
    (s.releaseStart h g).scu = s.scu ∧
    (s.releaseStart h g).tst = s.tst ∧
    (s.releaseStart h g).sru = s.sru ∧
    (s.releaseStart h g).qhold = s.qhold ∧
    (s.releaseStart h g).resetLine = s.resetLine ∧
    (s.releaseStart h g).pending = s.pending := by
  unfold State.releaseStart; split <;> simp

@[simp] theorem State.releaseHold_frame (s : State) :
    (s.releaseHold).params = s.params ∧
    (s.releaseHold).scu = s.scu ∧
    (s.releaseHold).tst = s.tst ∧
    (s.releaseHold).sru = s.sru ∧
    (s.releaseHold).qhold = s.qhold ∧
    (s.releaseHold).resetLine = s.resetLine ∧
    (s.releaseHold).pending = s.pending := by
  unfold State.releaseHold; simp

@[simp] theorem State.releaseIfLow_frame (s : State) :
    (s.releaseIfLow).params = s.params ∧
    (s.releaseIfLow).scu = s.scu ∧
    (s.releaseIfLow).tst = s.tst ∧
    (s.releaseIfLow).sru = s.sru ∧
    (s.releaseIfLow).qhold = s.qhold ∧
    (s.releaseIfLow).resetLine = s.resetLine ∧
    (s.releaseIfLow).pending = s.pending := by
  unfold State.releaseIfLow; split <;> simp

@[simp] theorem State.retestHold_frame (s : State) :
    (s.retestHold).params = s.params ∧
    (s.retestHold).scu = s.scu ∧
    (s.retestHold).tst = s.tst ∧
    (s.retestHold).sru = s.sru ∧
    (s.retestHold).qhold = s.qhold ∧
    (s.retestHold).resetLine = s.resetLine ∧
    (s.retestHold).pending = s.pending := by
  unfold State.retestHold; split <;> simp

@[simp] theorem State.makeB_frame (s : State) (b : BStart) :
    (s.makeB b).params = s.params ∧
    (s.makeB b).scu = s.scu ∧
    (s.makeB b).tst = s.tst ∧
    (s.makeB b).sru = s.sru ∧
    (s.makeB b).qhold = s.qhold ∧
    (s.makeB b).resetLine = s.resetLine ∧
    (s.makeB b).pending = s.pending := by
  unfold State.makeB; split <;> simp

/-! ### Sections -/

@[simp] theorem State.beginClose_frame (s : State) (x : SectionId) :
    (s.beginClose x).params = s.params ∧
    (s.beginClose x).links = s.links ∧
    (s.beginClose x).swg = s.swg ∧
    (s.beginClose x).piq = s.piq ∧
    (s.beginClose x).scu = s.scu ∧
    (s.beginClose x).mfu = s.mfu ∧
    (s.beginClose x).tst = s.tst ∧
    (s.beginClose x).psc = s.psc ∧
    (s.beginClose x).ulp = s.ulp ∧
    (s.beginClose x).pam = s.pam ∧
    (s.beginClose x).rhg = s.rhg ∧
    (s.beginClose x).qhold = s.qhold ∧
    (s.beginClose x).resetLine = s.resetLine ∧
    (s.beginClose x).pending = s.pending := by
  unfold State.beginClose; (repeat' split) <;> simp

@[simp] theorem State.enterClosing_frame (s : State) (x : SectionId) :
    (s.enterClosing x).params = s.params ∧
    (s.enterClosing x).links = s.links ∧
    (s.enterClosing x).swg = s.swg ∧
    (s.enterClosing x).piq = s.piq ∧
    (s.enterClosing x).scu = s.scu ∧
    (s.enterClosing x).mfu = s.mfu ∧
    (s.enterClosing x).spe = s.spe ∧
    (s.enterClosing x).psc = s.psc ∧
    (s.enterClosing x).ulp = s.ulp ∧
    (s.enterClosing x).pam = s.pam ∧
    (s.enterClosing x).rhg = s.rhg ∧
    (s.enterClosing x).qhold = s.qhold ∧
    (s.enterClosing x).resetLine = s.resetLine ∧
    (s.enterClosing x).pending = s.pending := by
  unfold State.enterClosing; simp

@[simp] theorem State.closeAllSections_frame (s : State) :
    (s.closeAllSections).params = s.params ∧
    (s.closeAllSections).links = s.links ∧
    (s.closeAllSections).swg = s.swg ∧
    (s.closeAllSections).piq = s.piq ∧
    (s.closeAllSections).scu = s.scu ∧
    (s.closeAllSections).mfu = s.mfu ∧
    (s.closeAllSections).tst = s.tst ∧
    (s.closeAllSections).ulp = s.ulp ∧
    (s.closeAllSections).pam = s.pam ∧
    (s.closeAllSections).rhg = s.rhg ∧
    (s.closeAllSections).qhold = s.qhold ∧
    (s.closeAllSections).resetLine = s.resetLine ∧
    (s.closeAllSections).pending = s.pending := by
  unfold State.closeAllSections; simp only [State.signalIfClosed_frame]
  exact ⟨(foldl_keeps State.params _ (by simp) _ _).trans (by simp), (foldl_keeps State.links _ (by simp) _ _).trans (by simp), (foldl_keeps State.swg _ (by simp) _ _).trans (by simp), (foldl_keeps State.piq _ (by simp) _ _).trans (by simp), (foldl_keeps State.scu _ (by simp) _ _).trans (by simp), (foldl_keeps State.mfu _ (by simp) _ _).trans (by simp), (foldl_keeps State.tst _ (by simp) _ _).trans (by simp), (foldl_keeps State.ulp _ (by simp) _ _).trans (by simp), (foldl_keeps State.pam _ (by simp) _ _).trans (by simp), (foldl_keeps State.rhg _ (by simp) _ _).trans (by simp), (foldl_keeps State.qhold _ (by simp) _ _).trans (by simp), (foldl_keeps State.resetLine _ (by simp) _ _).trans (by simp), (foldl_keeps State.pending _ (by simp) _ _).trans (by simp)⟩

@[simp] theorem State.openSection_frame (s : State) (r : OpenRequest) :
    (s.openSection r).params = s.params ∧
    (s.openSection r).links = s.links ∧
    (s.openSection r).swg = s.swg ∧
    (s.openSection r).piq = s.piq ∧
    (s.openSection r).scu = s.scu ∧
    (s.openSection r).mfu = s.mfu ∧
    (s.openSection r).psc = s.psc ∧
    (s.openSection r).ulp = s.ulp ∧
    (s.openSection r).pam = s.pam ∧
    (s.openSection r).rhg = s.rhg ∧
    (s.openSection r).qhold = s.qhold ∧
    (s.openSection r).resetLine = s.resetLine ∧
    (s.openSection r).pending = s.pending := by
  unfold State.openSection; dsimp only; split <;> simp

@[simp] theorem State.leaveSection_frame (s : State) (x : SectionId) (d : Direction) (r : Bool) :
    (s.leaveSection x d r).params = s.params ∧
    (s.leaveSection x d r).links = s.links ∧
    (s.leaveSection x d r).swg = s.swg ∧
    (s.leaveSection x d r).piq = s.piq ∧
    (s.leaveSection x d r).scu = s.scu ∧
    (s.leaveSection x d r).mfu = s.mfu ∧
    (s.leaveSection x d r).spe = s.spe ∧
    (s.leaveSection x d r).psc = s.psc ∧
    (s.leaveSection x d r).ulp = s.ulp ∧
    (s.leaveSection x d r).pam = s.pam ∧
    (s.leaveSection x d r).rhg = s.rhg ∧
    (s.leaveSection x d r).qhold = s.qhold ∧
    (s.leaveSection x d r).resetLine = s.resetLine ∧
    (s.leaveSection x d r).pending = s.pending := by
  unfold State.leaveSection; split <;> simp

@[simp] theorem State.reenterSection_frame (s : State) (x : SectionId) (d : Direction) :
    (s.reenterSection x d).params = s.params ∧
    (s.reenterSection x d).links = s.links ∧
    (s.reenterSection x d).swg = s.swg ∧
    (s.reenterSection x d).piq = s.piq ∧
    (s.reenterSection x d).scu = s.scu ∧
    (s.reenterSection x d).mfu = s.mfu ∧
    (s.reenterSection x d).spe = s.spe ∧
    (s.reenterSection x d).psc = s.psc ∧
    (s.reenterSection x d).ulp = s.ulp ∧
    (s.reenterSection x d).pam = s.pam ∧
    (s.reenterSection x d).rhg = s.rhg ∧
    (s.reenterSection x d).qhold = s.qhold ∧
    (s.reenterSection x d).resetLine = s.resetLine ∧
    (s.reenterSection x d).pending = s.pending := by
  unfold State.reenterSection; simp

@[simp] theorem State.tallyFinding_frame (s : State) (x : SectionId) (k : FindingKind) :
    (s.tallyFinding x k).params = s.params ∧
    (s.tallyFinding x k).links = s.links ∧
    (s.tallyFinding x k).swg = s.swg ∧
    (s.tallyFinding x k).piq = s.piq ∧
    (s.tallyFinding x k).scu = s.scu ∧
    (s.tallyFinding x k).mfu = s.mfu ∧
    (s.tallyFinding x k).tst = s.tst ∧
    (s.tallyFinding x k).spe = s.spe ∧
    (s.tallyFinding x k).psc = s.psc ∧
    (s.tallyFinding x k).ulp = s.ulp ∧
    (s.tallyFinding x k).pam = s.pam ∧
    (s.tallyFinding x k).rhg = s.rhg ∧
    (s.tallyFinding x k).qhold = s.qhold ∧
    (s.tallyFinding x k).resetLine = s.resetLine ∧
    (s.tallyFinding x k).pending = s.pending := by
  unfold State.tallyFinding; simp

/-! ### Placement -/

@[simp] theorem State.addItem_frame (s : State) (x : SectionId) (i : Item) :
    (s.addItem x i).params = s.params ∧
    (s.addItem x i).links = s.links ∧
    (s.addItem x i).swg = s.swg ∧
    (s.addItem x i).piq = s.piq ∧
    (s.addItem x i).scu = s.scu ∧
    (s.addItem x i).mfu = s.mfu ∧
    (s.addItem x i).spe = s.spe ∧
    (s.addItem x i).sru = s.sru ∧
    (s.addItem x i).psc = s.psc ∧
    (s.addItem x i).ulp = s.ulp ∧
    (s.addItem x i).pam = s.pam ∧
    (s.addItem x i).rhg = s.rhg ∧
    (s.addItem x i).qhold = s.qhold ∧
    (s.addItem x i).resetLine = s.resetLine ∧
    (s.addItem x i).pending = s.pending := by
  unfold State.addItem; simp

@[simp] theorem State.removeItem_frame (s : State) (x : SectionId) (n : Nat) :
    (s.removeItem x n).params = s.params ∧
    (s.removeItem x n).links = s.links ∧
    (s.removeItem x n).swg = s.swg ∧
    (s.removeItem x n).piq = s.piq ∧
    (s.removeItem x n).scu = s.scu ∧
    (s.removeItem x n).mfu = s.mfu ∧
    (s.removeItem x n).spe = s.spe ∧
    (s.removeItem x n).sru = s.sru ∧
    (s.removeItem x n).psc = s.psc ∧
    (s.removeItem x n).ulp = s.ulp ∧
    (s.removeItem x n).pam = s.pam ∧
    (s.removeItem x n).rhg = s.rhg ∧
    (s.removeItem x n).qhold = s.qhold ∧
    (s.removeItem x n).resetLine = s.resetLine ∧
    (s.removeItem x n).pending = s.pending := by
  unfold State.removeItem; simp

@[simp] theorem State.modItem_frame (s : State) (x : SectionId) (n : Nat) (f : Item → Item) :
    (s.modItem x n f).params = s.params ∧
    (s.modItem x n f).links = s.links ∧
    (s.modItem x n f).swg = s.swg ∧
    (s.modItem x n f).piq = s.piq ∧
    (s.modItem x n f).scu = s.scu ∧
    (s.modItem x n f).mfu = s.mfu ∧
    (s.modItem x n f).spe = s.spe ∧
    (s.modItem x n f).sru = s.sru ∧
    (s.modItem x n f).psc = s.psc ∧
    (s.modItem x n f).ulp = s.ulp ∧
    (s.modItem x n f).pam = s.pam ∧
    (s.modItem x n f).rhg = s.rhg ∧
    (s.modItem x n f).qhold = s.qhold ∧
    (s.modItem x n f).resetLine = s.resetLine ∧
    (s.modItem x n f).pending = s.pending := by
  unfold State.modItem; simp

@[simp] theorem State.finishDisposal_frame (s : State) (n : Nat) :
    (s.finishDisposal n).params = s.params ∧
    (s.finishDisposal n).links = s.links ∧
    (s.finishDisposal n).swg = s.swg ∧
    (s.finishDisposal n).piq = s.piq ∧
    (s.finishDisposal n).scu = s.scu ∧
    (s.finishDisposal n).mfu = s.mfu ∧
    (s.finishDisposal n).sru = s.sru ∧
    (s.finishDisposal n).psc = s.psc ∧
    (s.finishDisposal n).ulp = s.ulp ∧
    (s.finishDisposal n).pam = s.pam ∧
    (s.finishDisposal n).rhg = s.rhg ∧
    (s.finishDisposal n).qhold = s.qhold ∧
    (s.finishDisposal n).resetLine = s.resetLine ∧
    (s.finishDisposal n).pending = s.pending := by
  unfold State.finishDisposal; (repeat' split) <;> simp

@[simp] theorem State.disposeFull_frame (s : State) (x : SectionId) (e : Sighting) (k : Confidence) (r : Continuation) :
    (s.disposeFull x e k r).params = s.params ∧
    (s.disposeFull x e k r).links = s.links ∧
    (s.disposeFull x e k r).piq = s.piq ∧
    (s.disposeFull x e k r).scu = s.scu ∧
    (s.disposeFull x e k r).mfu = s.mfu ∧
    (s.disposeFull x e k r).psc = s.psc ∧
    (s.disposeFull x e k r).rhg = s.rhg ∧
    (s.disposeFull x e k r).qhold = s.qhold ∧
    (s.disposeFull x e k r).resetLine = s.resetLine ∧
    (s.disposeFull x e k r).pending = s.pending := by
  unfold State.disposeFull; dsimp only; (repeat' split) <;> simp

@[simp] theorem State.place_frame (s : State) (n : Nat) (r : Route) (c : Continuation) :
    (s.place n r c).params = s.params ∧
    (s.place n r c).links = s.links ∧
    (s.place n r c).piq = s.piq ∧
    (s.place n r c).scu = s.scu ∧
    (s.place n r c).mfu = s.mfu ∧
    (s.place n r c).psc = s.psc ∧
    (s.place n r c).rhg = s.rhg ∧
    (s.place n r c).qhold = s.qhold ∧
    (s.place n r c).resetLine = s.resetLine ∧
    (s.place n r c).pending = s.pending := by
  unfold State.place; (repeat' split) <;> simp

@[simp] theorem State.placeMany_frame (s : State) (l : List Nat) (r : Route) (c : Continuation) :
    (s.placeMany l r c).params = s.params ∧
    (s.placeMany l r c).links = s.links ∧
    (s.placeMany l r c).piq = s.piq ∧
    (s.placeMany l r c).scu = s.scu ∧
    (s.placeMany l r c).mfu = s.mfu ∧
    (s.placeMany l r c).psc = s.psc ∧
    (s.placeMany l r c).rhg = s.rhg ∧
    (s.placeMany l r c).qhold = s.qhold ∧
    (s.placeMany l r c).resetLine = s.resetLine ∧
    (s.placeMany l r c).pending = s.pending := by
  unfold State.placeMany
  exact ⟨foldl_keeps State.params _ (by intro t n; split <;> simp) _ _, foldl_keeps State.links _ (by intro t n; split <;> simp) _ _, foldl_keeps State.piq _ (by intro t n; split <;> simp) _ _, foldl_keeps State.scu _ (by intro t n; split <;> simp) _ _, foldl_keeps State.mfu _ (by intro t n; split <;> simp) _ _, foldl_keeps State.psc _ (by intro t n; split <;> simp) _ _, foldl_keeps State.rhg _ (by intro t n; split <;> simp) _ _, foldl_keeps State.qhold _ (by intro t n; split <;> simp) _ _, foldl_keeps State.resetLine _ (by intro t n; split <;> simp) _ _, foldl_keeps State.pending _ (by intro t n; split <;> simp) _ _⟩

@[simp] theorem State.retireAll_frame (s : State) (x : SectionId) :
    (s.retireAll x).params = s.params ∧
    (s.retireAll x).links = s.links ∧
    (s.retireAll x).swg = s.swg ∧
    (s.retireAll x).piq = s.piq ∧
    (s.retireAll x).scu = s.scu ∧
    (s.retireAll x).mfu = s.mfu ∧
    (s.retireAll x).sru = s.sru ∧
    (s.retireAll x).psc = s.psc ∧
    (s.retireAll x).ulp = s.ulp ∧
    (s.retireAll x).pam = s.pam ∧
    (s.retireAll x).rhg = s.rhg ∧
    (s.retireAll x).qhold = s.qhold ∧
    (s.retireAll x).resetLine = s.resetLine ∧
    (s.retireAll x).pending = s.pending := by
  unfold State.retireAll; dsimp only; simp only [State.setTable_frame]
  exact ⟨foldl_keeps State.params _ (by simp) _ _, foldl_keeps State.links _ (by simp) _ _, foldl_keeps State.swg _ (by simp) _ _, foldl_keeps State.piq _ (by simp) _ _, foldl_keeps State.scu _ (by simp) _ _, foldl_keeps State.mfu _ (by simp) _ _, foldl_keeps State.sru _ (by simp) _ _, foldl_keeps State.psc _ (by simp) _ _, foldl_keeps State.ulp _ (by simp) _ _, foldl_keeps State.pam _ (by simp) _ _, foldl_keeps State.rhg _ (by simp) _ _, foldl_keeps State.qhold _ (by simp) _ _, foldl_keeps State.resetLine _ (by simp) _ _, foldl_keeps State.pending _ (by simp) _ _⟩

@[simp] theorem State.earlyRetire_frame (s : State) (n : Nat) :
    (s.earlyRetire n).params = s.params ∧
    (s.earlyRetire n).links = s.links ∧
    (s.earlyRetire n).swg = s.swg ∧
    (s.earlyRetire n).piq = s.piq ∧
    (s.earlyRetire n).scu = s.scu ∧
    (s.earlyRetire n).mfu = s.mfu ∧
    (s.earlyRetire n).sru = s.sru ∧
    (s.earlyRetire n).psc = s.psc ∧
    (s.earlyRetire n).ulp = s.ulp ∧
    (s.earlyRetire n).pam = s.pam ∧
    (s.earlyRetire n).rhg = s.rhg ∧
    (s.earlyRetire n).qhold = s.qhold ∧
    (s.earlyRetire n).resetLine = s.resetLine ∧
    (s.earlyRetire n).pending = s.pending := by
  unfold State.earlyRetire; (repeat' split) <;> simp

@[simp] theorem State.awaitPlace_frame (s : State) (r : Option OpenRequest) :
    (s.awaitPlace r).params = s.params ∧
    (s.awaitPlace r).links = s.links ∧
    (s.awaitPlace r).swg = s.swg ∧
    (s.awaitPlace r).piq = s.piq ∧
    (s.awaitPlace r).scu = s.scu ∧
    (s.awaitPlace r).mfu = s.mfu ∧
    (s.awaitPlace r).tst = s.tst ∧
    (s.awaitPlace r).sru = s.sru ∧
    (s.awaitPlace r).psc = s.psc ∧
    (s.awaitPlace r).ulp = s.ulp ∧
    (s.awaitPlace r).pam = s.pam ∧
    (s.awaitPlace r).rhg = s.rhg ∧
    (s.awaitPlace r).qhold = s.qhold ∧
    (s.awaitPlace r).resetLine = s.resetLine ∧
    (s.awaitPlace r).pending = s.pending := by
  unfold State.awaitPlace; split <;> simp

@[simp] theorem State.forcePlaceRun_frame (s : State) (x : SectionId) (r : Option OpenRequest) :
    (s.forcePlaceRun x r).params = s.params ∧
    (s.forcePlaceRun x r).links = s.links ∧
    (s.forcePlaceRun x r).piq = s.piq ∧
    (s.forcePlaceRun x r).scu = s.scu ∧
    (s.forcePlaceRun x r).mfu = s.mfu ∧
    (s.forcePlaceRun x r).psc = s.psc ∧
    (s.forcePlaceRun x r).rhg = s.rhg ∧
    (s.forcePlaceRun x r).qhold = s.qhold ∧
    (s.forcePlaceRun x r).resetLine = s.resetLine ∧
    (s.forcePlaceRun x r).pending = s.pending := by
  unfold State.forcePlaceRun; dsimp only; split <;> simp

@[simp] theorem State.settleRun_frame (s : State) :
    (s.settleRun).params = s.params ∧
    (s.settleRun).links = s.links ∧
    (s.settleRun).piq = s.piq ∧
    (s.settleRun).scu = s.scu ∧
    (s.settleRun).mfu = s.mfu ∧
    (s.settleRun).rhg = s.rhg ∧
    (s.settleRun).qhold = s.qhold ∧
    (s.settleRun).resetLine = s.resetLine ∧
    (s.settleRun).pending = s.pending := by
  unfold State.settleRun; dsimp only; split <;> simp

@[simp] theorem State.makeRoom_frame (s : State) (r : OpenRequest) :
    (s.makeRoom r).params = s.params ∧
    (s.makeRoom r).links = s.links ∧
    (s.makeRoom r).piq = s.piq ∧
    (s.makeRoom r).scu = s.scu ∧
    (s.makeRoom r).mfu = s.mfu ∧
    (s.makeRoom r).psc = s.psc ∧
    (s.makeRoom r).rhg = s.rhg ∧
    (s.makeRoom r).qhold = s.qhold ∧
    (s.makeRoom r).resetLine = s.resetLine ∧
    (s.makeRoom r).pending = s.pending := by
  unfold State.makeRoom; split <;> simp

@[simp] theorem State.enterSection_frame (s : State) (x : SectionId) (d : Direction) :
    (s.enterSection x d).params = s.params ∧
    (s.enterSection x d).links = s.links ∧
    (s.enterSection x d).piq = s.piq ∧
    (s.enterSection x d).scu = s.scu ∧
    (s.enterSection x d).mfu = s.mfu ∧
    (s.enterSection x d).psc = s.psc ∧
    (s.enterSection x d).rhg = s.rhg ∧
    (s.enterSection x d).qhold = s.qhold ∧
    (s.enterSection x d).resetLine = s.resetLine ∧
    (s.enterSection x d).pending = s.pending := by
  unfold State.enterSection; (repeat' split) <;> simp

@[simp] theorem State.confirmTest_frame (s : State) (n : Nat) :
    (s.confirmTest n).params = s.params ∧
    (s.confirmTest n).links = s.links ∧
    (s.confirmTest n).piq = s.piq ∧
    (s.confirmTest n).scu = s.scu ∧
    (s.confirmTest n).mfu = s.mfu ∧
    (s.confirmTest n).psc = s.psc ∧
    (s.confirmTest n).rhg = s.rhg ∧
    (s.confirmTest n).qhold = s.qhold ∧
    (s.confirmTest n).resetLine = s.resetLine ∧
    (s.confirmTest n).pending = s.pending := by
  unfold State.confirmTest; (repeat' split) <;> simp

@[simp] theorem State.moveEntry_frame (s : State) (e : Sighting) (x : SectionId) (c : Candidate) :
    (s.moveEntry e x c).params = s.params ∧
    (s.moveEntry e x c).links = s.links ∧
    (s.moveEntry e x c).piq = s.piq ∧
    (s.moveEntry e x c).scu = s.scu ∧
    (s.moveEntry e x c).mfu = s.mfu ∧
    (s.moveEntry e x c).psc = s.psc ∧
    (s.moveEntry e x c).rhg = s.rhg ∧
    (s.moveEntry e x c).qhold = s.qhold ∧
    (s.moveEntry e x c).resetLine = s.resetLine ∧
    (s.moveEntry e x c).pending = s.pending := by
  unfold State.moveEntry; split <;> simp

@[simp] theorem State.freeze_frame (s : State) (e : Sighting) (x : SectionId) :
    (s.freeze e x).params = s.params ∧
    (s.freeze e x).links = s.links ∧
    (s.freeze e x).swg = s.swg ∧
    (s.freeze e x).piq = s.piq ∧
    (s.freeze e x).scu = s.scu ∧
    (s.freeze e x).mfu = s.mfu ∧
    (s.freeze e x).sru = s.sru ∧
    (s.freeze e x).psc = s.psc ∧
    (s.freeze e x).ulp = s.ulp ∧
    (s.freeze e x).pam = s.pam ∧
    (s.freeze e x).rhg = s.rhg ∧
    (s.freeze e x).qhold = s.qhold ∧
    (s.freeze e x).resetLine = s.resetLine ∧
    (s.freeze e x).pending = s.pending := by
  unfold State.freeze; simp

@[simp] theorem State.moveTest_frame (s : State) (n : Nat) :
    (s.moveTest n).params = s.params ∧
    (s.moveTest n).links = s.links ∧
    (s.moveTest n).piq = s.piq ∧
    (s.moveTest n).scu = s.scu ∧
    (s.moveTest n).mfu = s.mfu ∧
    (s.moveTest n).psc = s.psc ∧
    (s.moveTest n).rhg = s.rhg ∧
    (s.moveTest n).qhold = s.qhold ∧
    (s.moveTest n).resetLine = s.resetLine ∧
    (s.moveTest n).pending = s.pending := by
  unfold State.moveTest; (repeat' split) <;> simp

@[simp] theorem State.makeEntry_frame (s : State) (r : ItemRead) (h : Option Nat) :
    (s.makeEntry r h).params = s.params ∧
    (s.makeEntry r h).links = s.links ∧
    (s.makeEntry r h).piq = s.piq ∧
    (s.makeEntry r h).scu = s.scu ∧
    (s.makeEntry r h).mfu = s.mfu ∧
    (s.makeEntry r h).psc = s.psc ∧
    (s.makeEntry r h).rhg = s.rhg ∧
    (s.makeEntry r h).qhold = s.qhold ∧
    (s.makeEntry r h).resetLine = s.resetLine ∧
    (s.makeEntry r h).pending = s.pending := by
  unfold State.makeEntry; dsimp only; simp

@[simp] theorem State.evictFor_frame (s : State) (r : ItemRead) (h : Option Nat) :
    (s.evictFor r h).params = s.params ∧
    (s.evictFor r h).links = s.links ∧
    (s.evictFor r h).piq = s.piq ∧
    (s.evictFor r h).scu = s.scu ∧
    (s.evictFor r h).mfu = s.mfu ∧
    (s.evictFor r h).psc = s.psc ∧
    (s.evictFor r h).rhg = s.rhg ∧
    (s.evictFor r h).qhold = s.qhold ∧
    (s.evictFor r h).resetLine = s.resetLine ∧
    (s.evictFor r h).pending = s.pending := by
  unfold State.evictFor; dsimp only; (repeat' split) <;> simp

@[simp] theorem State.newEntry_frame (s : State) (r : ItemRead) (h : Option Nat) :
    (s.newEntry r h).params = s.params ∧
    (s.newEntry r h).links = s.links ∧
    (s.newEntry r h).piq = s.piq ∧
    (s.newEntry r h).scu = s.scu ∧
    (s.newEntry r h).mfu = s.mfu ∧
    (s.newEntry r h).psc = s.psc ∧
    (s.newEntry r h).rhg = s.rhg ∧
    (s.newEntry r h).qhold = s.qhold ∧
    (s.newEntry r h).resetLine = s.resetLine ∧
    (s.newEntry r h).pending = s.pending := by
  unfold State.newEntry; (repeat' split) <;> simp

@[simp] theorem State.goOn_frame (s : State) (c : Continuation) :
    (s.goOn c).params = s.params ∧
    (s.goOn c).links = s.links ∧
    (s.goOn c).piq = s.piq ∧
    (s.goOn c).scu = s.scu ∧
    (s.goOn c).mfu = s.mfu ∧
    (s.goOn c).rhg = s.rhg ∧
    (s.goOn c).qhold = s.qhold ∧
    (s.goOn c).resetLine = s.resetLine ∧
    (s.goOn c).pending = s.pending := by
  unfold State.goOn; split <;> simp

/-! ### Mfu -/

@[simp] theorem State.changeFacing_frame (s : State) (p : Port) (x : SectionId) (y : Section) :
    (s.changeFacing p x y).params = s.params ∧
    (s.changeFacing p x y).links = s.links ∧
    (s.changeFacing p x y).piq = s.piq ∧
    (s.changeFacing p x y).scu = s.scu ∧
    (s.changeFacing p x y).psc = s.psc ∧
    (s.changeFacing p x y).rhg = s.rhg ∧
    (s.changeFacing p x y).qhold = s.qhold ∧
    (s.changeFacing p x y).resetLine = s.resetLine ∧
    (s.changeFacing p x y).pending = s.pending := by
  unfold State.changeFacing; simp

@[simp] theorem State.firstFacing_frame (s : State) (p : Port) (y : Section) :
    (s.firstFacing p y).params = s.params ∧
    (s.firstFacing p y).links = s.links ∧
    (s.firstFacing p y).piq = s.piq ∧
    (s.firstFacing p y).scu = s.scu ∧
    (s.firstFacing p y).psc = s.psc ∧
    (s.firstFacing p y).rhg = s.rhg ∧
    (s.firstFacing p y).qhold = s.qhold ∧
    (s.firstFacing p y).resetLine = s.resetLine ∧
    (s.firstFacing p y).pending = s.pending := by
  unfold State.firstFacing; simp

@[simp] theorem State.acceptMarker_frame (s : State) (p : Port) (y : Section) :
    (s.acceptMarker p y).params = s.params ∧
    (s.acceptMarker p y).links = s.links ∧
    (s.acceptMarker p y).piq = s.piq ∧
    (s.acceptMarker p y).scu = s.scu ∧
    (s.acceptMarker p y).psc = s.psc ∧
    (s.acceptMarker p y).rhg = s.rhg ∧
    (s.acceptMarker p y).qhold = s.qhold ∧
    (s.acceptMarker p y).resetLine = s.resetLine ∧
    (s.acceptMarker p y).pending = s.pending := by
  unfold State.acceptMarker; (repeat' split) <;> simp

@[simp] theorem State.testMarker_frame (s : State) (p : Port) (g : TagCode) (c : Nat) :
    (s.testMarker p g c).params = s.params ∧
    (s.testMarker p g c).links = s.links ∧
    (s.testMarker p g c).piq = s.piq ∧
    (s.testMarker p g c).scu = s.scu ∧
    (s.testMarker p g c).psc = s.psc ∧
    (s.testMarker p g c).rhg = s.rhg ∧
    (s.testMarker p g c).qhold = s.qhold ∧
    (s.testMarker p g c).resetLine = s.resetLine ∧
    (s.testMarker p g c).pending = s.pending := by
  unfold State.testMarker; (repeat' split) <;> simp

@[simp] theorem State.markerRead_frame (s : State) (p : Port) (g : TagCode) (c : Nat) :
    (s.markerRead p g c).params = s.params ∧
    (s.markerRead p g c).links = s.links ∧
    (s.markerRead p g c).piq = s.piq ∧
    (s.markerRead p g c).scu = s.scu ∧
    (s.markerRead p g c).psc = s.psc ∧
    (s.markerRead p g c).rhg = s.rhg ∧
    (s.markerRead p g c).qhold = s.qhold ∧
    (s.markerRead p g c).resetLine = s.resetLine ∧
    (s.markerRead p g c).pending = s.pending := by
  unfold State.markerRead; simp

@[simp] theorem State.referenceRead_frame (s : State) :
    (s.referenceRead).params = s.params ∧
    (s.referenceRead).links = s.links ∧
    (s.referenceRead).swg = s.swg ∧
    (s.referenceRead).piq = s.piq ∧
    (s.referenceRead).scu = s.scu ∧
    (s.referenceRead).tst = s.tst ∧
    (s.referenceRead).spe = s.spe ∧
    (s.referenceRead).sru = s.sru ∧
    (s.referenceRead).psc = s.psc ∧
    (s.referenceRead).ulp = s.ulp ∧
    (s.referenceRead).pam = s.pam ∧
    (s.referenceRead).rhg = s.rhg ∧
    (s.referenceRead).qhold = s.qhold ∧
    (s.referenceRead).resetLine = s.resetLine ∧
    (s.referenceRead).pending = s.pending := by
  unfold State.referenceRead; simp

@[simp] theorem State.loseFacing_frame (s : State) (p : Port) :
    (s.loseFacing p).params = s.params ∧
    (s.loseFacing p).links = s.links ∧
    (s.loseFacing p).swg = s.swg ∧
    (s.loseFacing p).piq = s.piq ∧
    (s.loseFacing p).scu = s.scu ∧
    (s.loseFacing p).spe = s.spe ∧
    (s.loseFacing p).psc = s.psc ∧
    (s.loseFacing p).ulp = s.ulp ∧
    (s.loseFacing p).pam = s.pam ∧
    (s.loseFacing p).rhg = s.rhg ∧
    (s.loseFacing p).qhold = s.qhold ∧
    (s.loseFacing p).resetLine = s.resetLine ∧
    (s.loseFacing p).pending = s.pending := by
  unfold State.loseFacing; split <;> simp

/-! ### Scu, Pam and Spe -/

@[simp] theorem State.scuRead_frame (s : State) (c : Bool) (e : ReadEntry) :
    (s.scuRead c e).params = s.params ∧
    (s.scuRead c e).links = s.links ∧
    (s.scuRead c e).swg = s.swg ∧
    (s.scuRead c e).piq = s.piq ∧
    (s.scuRead c e).mfu = s.mfu ∧
    (s.scuRead c e).tst = s.tst ∧
    (s.scuRead c e).spe = s.spe ∧
    (s.scuRead c e).sru = s.sru ∧
    (s.scuRead c e).psc = s.psc ∧
    (s.scuRead c e).ulp = s.ulp ∧
    (s.scuRead c e).pam = s.pam ∧
    (s.scuRead c e).rhg = s.rhg ∧
    (s.scuRead c e).qhold = s.qhold ∧
    (s.scuRead c e).resetLine = s.resetLine ∧
    (s.scuRead c e).pending = s.pending := by
  unfold State.scuRead; split <;> simp

@[simp] theorem State.startWindow_frame (s : State) (n : Nat) :
    (s.startWindow n).params = s.params ∧
    (s.startWindow n).links = s.links ∧
    (s.startWindow n).swg = s.swg ∧
    (s.startWindow n).piq = s.piq ∧
    (s.startWindow n).scu = s.scu ∧
    (s.startWindow n).mfu = s.mfu ∧
    (s.startWindow n).tst = s.tst ∧
    (s.startWindow n).spe = s.spe ∧
    (s.startWindow n).sru = s.sru ∧
    (s.startWindow n).psc = s.psc ∧
    (s.startWindow n).ulp = s.ulp ∧
    (s.startWindow n).rhg = s.rhg ∧
    (s.startWindow n).qhold = s.qhold ∧
    (s.startWindow n).resetLine = s.resetLine ∧
    (s.startWindow n).pending = s.pending := by
  unfold State.startWindow; dsimp only
  exact ⟨(forPorts_keeps State.params _ (by intros; simp) _).trans (by simp), (forPorts_keeps State.links _ (by intros; simp) _).trans (by simp), (forPorts_keeps State.swg _ (by intros; simp) _).trans (by simp), (forPorts_keeps State.piq _ (by intros; simp) _).trans (by simp), (forPorts_keeps State.scu _ (by intros; simp) _).trans (by simp), (forPorts_keeps State.mfu _ (by intros; simp) _).trans (by simp), (forPorts_keeps State.tst _ (by intros; simp) _).trans (by simp), (forPorts_keeps State.spe _ (by intros; simp) _).trans (by simp), (forPorts_keeps State.sru _ (by intros; simp) _).trans (by simp), (forPorts_keeps State.psc _ (by intros; simp) _).trans (by simp), (forPorts_keeps State.ulp _ (by intros; simp) _).trans (by simp), (forPorts_keeps State.rhg _ (by intros; simp) _).trans (by simp), (forPorts_keeps State.qhold _ (by intros; simp) _).trans (by simp), (forPorts_keeps State.resetLine _ (by intros; simp) _).trans (by simp), (forPorts_keeps State.pending _ (by intros; simp) _).trans (by simp)⟩

@[simp] theorem State.pamReport_frame (s : State) (p : Port) (c : Nat) :
    (s.pamReport p c).params = s.params ∧
    (s.pamReport p c).links = s.links ∧
    (s.pamReport p c).swg = s.swg ∧
    (s.pamReport p c).piq = s.piq ∧
    (s.pamReport p c).scu = s.scu ∧
    (s.pamReport p c).mfu = s.mfu ∧
    (s.pamReport p c).tst = s.tst ∧
    (s.pamReport p c).spe = s.spe ∧
    (s.pamReport p c).sru = s.sru ∧
    (s.pamReport p c).psc = s.psc ∧
    (s.pamReport p c).ulp = s.ulp ∧
    (s.pamReport p c).rhg = s.rhg ∧
    (s.pamReport p c).qhold = s.qhold ∧
    (s.pamReport p c).resetLine = s.resetLine ∧
    (s.pamReport p c).pending = s.pending := by
  unfold State.pamReport; dsimp only; split <;> simp

@[simp] theorem State.activityOf_frame (s : State) (p : Port) :
    (s.activityOf p).params = s.params ∧
    (s.activityOf p).links = s.links ∧
    (s.activityOf p).piq = s.piq ∧
    (s.activityOf p).scu = s.scu ∧
    (s.activityOf p).mfu = s.mfu ∧
    (s.activityOf p).tst = s.tst ∧
    (s.activityOf p).spe = s.spe ∧
    (s.activityOf p).sru = s.sru ∧
    (s.activityOf p).psc = s.psc ∧
    (s.activityOf p).rhg = s.rhg ∧
    (s.activityOf p).qhold = s.qhold ∧
    (s.activityOf p).resetLine = s.resetLine ∧
    (s.activityOf p).pending = s.pending := by
  unfold State.activityOf; split <;> simp

@[simp] theorem State.writeActivities_frame (s : State) :
    (s.writeActivities).params = s.params ∧
    (s.writeActivities).links = s.links ∧
    (s.writeActivities).piq = s.piq ∧
    (s.writeActivities).scu = s.scu ∧
    (s.writeActivities).mfu = s.mfu ∧
    (s.writeActivities).tst = s.tst ∧
    (s.writeActivities).spe = s.spe ∧
    (s.writeActivities).sru = s.sru ∧
    (s.writeActivities).psc = s.psc ∧
    (s.writeActivities).rhg = s.rhg ∧
    (s.writeActivities).qhold = s.qhold ∧
    (s.writeActivities).resetLine = s.resetLine ∧
    (s.writeActivities).pending = s.pending := by
  unfold State.writeActivities; split
  · exact ⟨forPorts_keeps State.params _ (by intros; simp) _, forPorts_keeps State.links _ (by intros; simp) _, forPorts_keeps State.piq _ (by intros; simp) _, forPorts_keeps State.scu _ (by intros; simp) _, forPorts_keeps State.mfu _ (by intros; simp) _, forPorts_keeps State.tst _ (by intros; simp) _, forPorts_keeps State.spe _ (by intros; simp) _, forPorts_keeps State.sru _ (by intros; simp) _, forPorts_keeps State.psc _ (by intros; simp) _, forPorts_keeps State.rhg _ (by intros; simp) _, forPorts_keeps State.qhold _ (by intros; simp) _, forPorts_keeps State.resetLine _ (by intros; simp) _, forPorts_keeps State.pending _ (by intros; simp) _⟩
  · simp

@[simp] theorem State.fallSilent_frame (s : State) (p : Port) :
    (s.fallSilent p).params = s.params ∧
    (s.fallSilent p).links = s.links ∧
    (s.fallSilent p).swg = s.swg ∧
    (s.fallSilent p).piq = s.piq ∧
    (s.fallSilent p).scu = s.scu ∧
    (s.fallSilent p).spe = s.spe ∧
    (s.fallSilent p).psc = s.psc ∧
    (s.fallSilent p).rhg = s.rhg ∧
    (s.fallSilent p).qhold = s.qhold ∧
    (s.fallSilent p).resetLine = s.resetLine ∧
    (s.fallSilent p).pending = s.pending := by
  unfold State.fallSilent; simp

@[simp] theorem State.judgeWindow_frame (s : State) (p : Port) :
    (s.judgeWindow p).params = s.params ∧
    (s.judgeWindow p).links = s.links ∧
    (s.judgeWindow p).swg = s.swg ∧
    (s.judgeWindow p).piq = s.piq ∧
    (s.judgeWindow p).scu = s.scu ∧
    (s.judgeWindow p).spe = s.spe ∧
    (s.judgeWindow p).psc = s.psc ∧
    (s.judgeWindow p).rhg = s.rhg ∧
    (s.judgeWindow p).qhold = s.qhold ∧
    (s.judgeWindow p).resetLine = s.resetLine ∧
    (s.judgeWindow p).pending = s.pending := by
  unfold State.judgeWindow; dsimp only; (repeat' split) <;> simp

@[simp] theorem State.countOpen_frame (s : State) (f : SpeCounters → SpeCounters) :
    (s.countOpen f).params = s.params ∧
    (s.countOpen f).links = s.links ∧
    (s.countOpen f).swg = s.swg ∧
    (s.countOpen f).piq = s.piq ∧
    (s.countOpen f).scu = s.scu ∧
    (s.countOpen f).mfu = s.mfu ∧
    (s.countOpen f).tst = s.tst ∧
    (s.countOpen f).sru = s.sru ∧
    (s.countOpen f).psc = s.psc ∧
    (s.countOpen f).ulp = s.ulp ∧
    (s.countOpen f).pam = s.pam ∧
    (s.countOpen f).rhg = s.rhg ∧
    (s.countOpen f).qhold = s.qhold ∧
    (s.countOpen f).resetLine = s.resetLine ∧
    (s.countOpen f).pending = s.pending := by
  unfold State.countOpen; split <;> simp

@[simp] theorem State.writePeak_frame (s : State) (e : Sighting) :
    (s.writePeak e).params = s.params ∧
    (s.writePeak e).links = s.links ∧
    (s.writePeak e).swg = s.swg ∧
    (s.writePeak e).piq = s.piq ∧
    (s.writePeak e).scu = s.scu ∧
    (s.writePeak e).mfu = s.mfu ∧
    (s.writePeak e).spe = s.spe ∧
    (s.writePeak e).sru = s.sru ∧
    (s.writePeak e).psc = s.psc ∧
    (s.writePeak e).ulp = s.ulp ∧
    (s.writePeak e).pam = s.pam ∧
    (s.writePeak e).rhg = s.rhg ∧
    (s.writePeak e).qhold = s.qhold ∧
    (s.writePeak e).resetLine = s.resetLine ∧
    (s.writePeak e).pending = s.pending := by
  unfold State.writePeak; (repeat' split) <;> simp

@[simp] theorem State.scoreEntry_frame (s : State) (e : Sighting) (r : ItemRead) :
    (s.scoreEntry e r).params = s.params ∧
    (s.scoreEntry e r).links = s.links ∧
    (s.scoreEntry e r).piq = s.piq ∧
    (s.scoreEntry e r).scu = s.scu ∧
    (s.scoreEntry e r).mfu = s.mfu ∧
    (s.scoreEntry e r).psc = s.psc ∧
    (s.scoreEntry e r).rhg = s.rhg ∧
    (s.scoreEntry e r).qhold = s.qhold ∧
    (s.scoreEntry e r).resetLine = s.resetLine ∧
    (s.scoreEntry e r).pending = s.pending := by
  unfold State.scoreEntry; dsimp only; (repeat' split) <;> simp

@[simp] theorem State.sight_frame (s : State) (r : ItemRead) :
    (s.sight r).params = s.params ∧
    (s.sight r).links = s.links ∧
    (s.sight r).piq = s.piq ∧
    (s.sight r).scu = s.scu ∧
    (s.sight r).mfu = s.mfu ∧
    (s.sight r).psc = s.psc ∧
    (s.sight r).rhg = s.rhg ∧
    (s.sight r).qhold = s.qhold ∧
    (s.sight r).resetLine = s.resetLine ∧
    (s.sight r).pending = s.pending := by
  unfold State.sight; dsimp only; (repeat' split) <;> simp

@[simp] theorem State.itemRead_frame (s : State) (e : ReadEntry) (c : Nat) :
    (s.itemRead e c).params = s.params ∧
    (s.itemRead e c).links = s.links ∧
    (s.itemRead e c).piq = s.piq ∧
    (s.itemRead e c).scu = s.scu ∧
    (s.itemRead e c).mfu = s.mfu ∧
    (s.itemRead e c).psc = s.psc ∧
    (s.itemRead e c).rhg = s.rhg ∧
    (s.itemRead e c).qhold = s.qhold ∧
    (s.itemRead e c).resetLine = s.resetLine ∧
    (s.itemRead e c).pending = s.pending := by
  unfold State.itemRead; (repeat' split) <;> simp

@[simp] theorem State.classifyRead_frame (s : State) (e : ReadEntry) :
    (s.classifyRead e).params = s.params ∧
    (s.classifyRead e).links = s.links ∧
    (s.classifyRead e).piq = s.piq ∧
    (s.classifyRead e).scu = s.scu ∧
    (s.classifyRead e).psc = s.psc ∧
    (s.classifyRead e).rhg = s.rhg ∧
    (s.classifyRead e).qhold = s.qhold ∧
    (s.classifyRead e).resetLine = s.resetLine ∧
    (s.classifyRead e).pending = s.pending := by
  unfold State.classifyRead; split <;> simp

@[simp] theorem State.takeIn_frame (s : State) (e : ReadEntry) (b : Bool) (i : Intake) :
    (s.takeIn e b i).params = s.params ∧
    (s.takeIn e b i).links = s.links ∧
    (s.takeIn e b i).piq = s.piq ∧
    (s.takeIn e b i).psc = s.psc ∧
    (s.takeIn e b i).rhg = s.rhg ∧
    (s.takeIn e b i).qhold = s.qhold ∧
    (s.takeIn e b i).resetLine = s.resetLine ∧
    (s.takeIn e b i).pending = s.pending := by
  unfold State.takeIn; split <;> simp

@[simp] theorem State.dequeue_frame (s : State) (p : Port) :
    (s.dequeue p).params = s.params ∧
    (s.dequeue p).links = s.links ∧
    (s.dequeue p).swg = s.swg ∧
    (s.dequeue p).mfu = s.mfu ∧
    (s.dequeue p).tst = s.tst ∧
    (s.dequeue p).sru = s.sru ∧
    (s.dequeue p).psc = s.psc ∧
    (s.dequeue p).ulp = s.ulp ∧
    (s.dequeue p).pam = s.pam ∧
    (s.dequeue p).rhg = s.rhg ∧
    (s.dequeue p).qhold = s.qhold ∧
    (s.dequeue p).resetLine = s.resetLine ∧
    (s.dequeue p).pending = s.pending := by
  unfold State.dequeue; split <;> simp

@[simp] theorem State.takeEntry_frame (s : State) (e : ReadEntry) :
    (s.takeEntry e).params = s.params ∧
    (s.takeEntry e).links = s.links ∧
    (s.takeEntry e).psc = s.psc ∧
    (s.takeEntry e).rhg = s.rhg ∧
    (s.takeEntry e).qhold = s.qhold ∧
    (s.takeEntry e).resetLine = s.resetLine ∧
    (s.takeEntry e).pending = s.pending := by
  unfold State.takeEntry; simp

/-! ### Exchanges -/

@[simp] theorem State.popMgmt_frame (s : State) :
    (s.popMgmt).params = s.params ∧
    (s.popMgmt).links = s.links ∧
    (s.popMgmt).swg = s.swg ∧
    (s.popMgmt).piq = s.piq ∧
    (s.popMgmt).scu = s.scu ∧
    (s.popMgmt).mfu = s.mfu ∧
    (s.popMgmt).tst = s.tst ∧
    (s.popMgmt).spe = s.spe ∧
    (s.popMgmt).sru = s.sru ∧
    (s.popMgmt).psc = s.psc ∧
    (s.popMgmt).pam = s.pam ∧
    (s.popMgmt).rhg = s.rhg ∧
    (s.popMgmt).qhold = s.qhold ∧
    (s.popMgmt).resetLine = s.resetLine ∧
    (s.popMgmt).pending = s.pending := by
  unfold State.popMgmt; simp

@[simp] theorem State.reply_frame (s : State) (f : MgmtFrame) (r : ResultCode) (l : List Byte) :
    (s.reply f r l).params = s.params ∧
    (s.reply f r l).links = s.links ∧
    (s.reply f r l).swg = s.swg ∧
    (s.reply f r l).piq = s.piq ∧
    (s.reply f r l).scu = s.scu ∧
    (s.reply f r l).mfu = s.mfu ∧
    (s.reply f r l).tst = s.tst ∧
    (s.reply f r l).spe = s.spe ∧
    (s.reply f r l).sru = s.sru ∧
    (s.reply f r l).psc = s.psc ∧
    (s.reply f r l).pam = s.pam ∧
    (s.reply f r l).rhg = s.rhg ∧
    (s.reply f r l).qhold = s.qhold ∧
    (s.reply f r l).resetLine = s.resetLine ∧
    (s.reply f r l).pending = s.pending := by
  unfold State.reply; simp

@[simp] theorem State.refuse_frame (s : State) (f : MgmtFrame) (r : ResultCode) :
    (s.refuse f r).params = s.params ∧
    (s.refuse f r).links = s.links ∧
    (s.refuse f r).swg = s.swg ∧
    (s.refuse f r).piq = s.piq ∧
    (s.refuse f r).scu = s.scu ∧
    (s.refuse f r).mfu = s.mfu ∧
    (s.refuse f r).tst = s.tst ∧
    (s.refuse f r).spe = s.spe ∧
    (s.refuse f r).sru = s.sru ∧
    (s.refuse f r).psc = s.psc ∧
    (s.refuse f r).pam = s.pam ∧
    (s.refuse f r).rhg = s.rhg ∧
    (s.refuse f r).qhold = s.qhold ∧
    (s.refuse f r).resetLine = s.resetLine ∧
    (s.refuse f r).pending = s.pending := by
  unfold State.refuse; simp

@[simp] theorem State.setPortMode_frame (s : State) (m : PortMode) (p : Port) :
    (s.setPortMode m p).params = s.params ∧
    (s.setPortMode m p).links = s.links ∧
    (s.setPortMode m p).swg = s.swg ∧
    (s.setPortMode m p).scu = s.scu ∧
    (s.setPortMode m p).mfu = s.mfu ∧
    (s.setPortMode m p).tst = s.tst ∧
    (s.setPortMode m p).spe = s.spe ∧
    (s.setPortMode m p).sru = s.sru ∧
    (s.setPortMode m p).psc = s.psc ∧
    (s.setPortMode m p).ulp = s.ulp ∧
    (s.setPortMode m p).rhg = s.rhg ∧
    (s.setPortMode m p).qhold = s.qhold ∧
    (s.setPortMode m p).resetLine = s.resetLine ∧
    (s.setPortMode m p).pending = s.pending := by
  unfold State.setPortMode; split <;> simp

@[simp] theorem State.setFollows_frame (s : State) (b : Bool) (p : Port) :
    (s.setFollows b p).params = s.params ∧
    (s.setFollows b p).links = s.links ∧
    (s.setFollows b p).swg = s.swg ∧
    (s.setFollows b p).mfu = s.mfu ∧
    (s.setFollows b p).tst = s.tst ∧
    (s.setFollows b p).sru = s.sru ∧
    (s.setFollows b p).psc = s.psc ∧
    (s.setFollows b p).ulp = s.ulp ∧
    (s.setFollows b p).rhg = s.rhg ∧
    (s.setFollows b p).qhold = s.qhold ∧
    (s.setFollows b p).resetLine = s.resetLine ∧
    (s.setFollows b p).pending = s.pending := by
  unfold State.setFollows; split <;> simp

@[simp] theorem State.setPortParam_frame (s : State) (i v : Nat) (p : Port) :
    (s.setPortParam i v p).params = s.params ∧
    (s.setPortParam i v p).links = s.links ∧
    (s.setPortParam i v p).swg = s.swg ∧
    (s.setPortParam i v p).mfu = s.mfu ∧
    (s.setPortParam i v p).tst = s.tst ∧
    (s.setPortParam i v p).sru = s.sru ∧
    (s.setPortParam i v p).psc = s.psc ∧
    (s.setPortParam i v p).ulp = s.ulp ∧
    (s.setPortParam i v p).rhg = s.rhg ∧
    (s.setPortParam i v p).qhold = s.qhold ∧
    (s.setPortParam i v p).resetLine = s.resetLine ∧
    (s.setPortParam i v p).pending = s.pending := by
  unfold State.setPortParam; split <;> simp

@[simp] theorem State.resetPorts_frame (s : State) (f : MgmtFrame) (q : Port → Bool) :
    (s.resetPorts f q).params = s.params ∧
    (s.resetPorts f q).links = s.links ∧
    (s.resetPorts f q).swg = s.swg ∧
    (s.resetPorts f q).mfu = s.mfu ∧
    (s.resetPorts f q).tst = s.tst ∧
    (s.resetPorts f q).sru = s.sru ∧
    (s.resetPorts f q).psc = s.psc ∧
    (s.resetPorts f q).pam = s.pam ∧
    (s.resetPorts f q).rhg = s.rhg ∧
    (s.resetPorts f q).qhold = s.qhold ∧
    (s.resetPorts f q).resetLine = s.resetLine ∧
    (s.resetPorts f q).pending = s.pending := by
  unfold State.resetPorts; simp only [State.reply_frame]
  exact ⟨forPorts_keeps State.params _ (by intro p t; split <;> simp) _, forPorts_keeps State.links _ (by intro p t; split <;> simp) _, forPorts_keeps State.swg _ (by intro p t; split <;> simp) _, forPorts_keeps State.mfu _ (by intro p t; split <;> simp) _, forPorts_keeps State.tst _ (by intro p t; split <;> simp) _, forPorts_keeps State.sru _ (by intro p t; split <;> simp) _, forPorts_keeps State.psc _ (by intro p t; split <;> simp) _, forPorts_keeps State.pam _ (by intro p t; split <;> simp) _, forPorts_keeps State.rhg _ (by intro p t; split <;> simp) _, forPorts_keeps State.qhold _ (by intro p t; split <;> simp) _, forPorts_keeps State.resetLine _ (by intro p t; split <;> simp) _, forPorts_keeps State.pending _ (by intro p t; split <;> simp) _⟩

/-! ### The pass -/

@[simp] theorem State.clearSweeps_frame (s : State) :
    (s.clearSweeps).params = s.params ∧
    (s.clearSweeps).links = s.links ∧
    (s.clearSweeps).piq = s.piq ∧
    (s.clearSweeps).scu = s.scu ∧
    (s.clearSweeps).mfu = s.mfu ∧
    (s.clearSweeps).tst = s.tst ∧
    (s.clearSweeps).spe = s.spe ∧
    (s.clearSweeps).sru = s.sru ∧
    (s.clearSweeps).psc = s.psc ∧
    (s.clearSweeps).ulp = s.ulp ∧
    (s.clearSweeps).pam = s.pam ∧
    (s.clearSweeps).rhg = s.rhg ∧
    (s.clearSweeps).qhold = s.qhold ∧
    (s.clearSweeps).resetLine = s.resetLine ∧
    (s.clearSweeps).pending = s.pending := by
  unfold State.clearSweeps; simp

@[simp] theorem State.clearPassCounters_frame (s : State) :
    (s.clearPassCounters).params = s.params ∧
    (s.clearPassCounters).links = s.links ∧
    (s.clearPassCounters).swg = s.swg ∧
    (s.clearPassCounters).scu = s.scu ∧
    (s.clearPassCounters).tst = s.tst ∧
    (s.clearPassCounters).ulp = s.ulp ∧
    (s.clearPassCounters).pam = s.pam ∧
    (s.clearPassCounters).rhg = s.rhg ∧
    (s.clearPassCounters).qhold = s.qhold ∧
    (s.clearPassCounters).resetLine = s.resetLine ∧
    (s.clearPassCounters).pending = s.pending := by
  unfold State.clearPassCounters; simp

@[simp] theorem State.clearSpe_frame (s : State) :
    (s.clearSpe).params = s.params ∧
    (s.clearSpe).links = s.links ∧
    (s.clearSpe).swg = s.swg ∧
    (s.clearSpe).piq = s.piq ∧
    (s.clearSpe).scu = s.scu ∧
    (s.clearSpe).mfu = s.mfu ∧
    (s.clearSpe).tst = s.tst ∧
    (s.clearSpe).sru = s.sru ∧
    (s.clearSpe).psc = s.psc ∧
    (s.clearSpe).ulp = s.ulp ∧
    (s.clearSpe).pam = s.pam ∧
    (s.clearSpe).rhg = s.rhg ∧
    (s.clearSpe).qhold = s.qhold ∧
    (s.clearSpe).resetLine = s.resetLine ∧
    (s.clearSpe).pending = s.pending := by
  unfold State.clearSpe; simp

@[simp] theorem State.clearSru_frame (s : State) :
    (s.clearSru).params = s.params ∧
    (s.clearSru).links = s.links ∧
    (s.clearSru).swg = s.swg ∧
    (s.clearSru).piq = s.piq ∧
    (s.clearSru).scu = s.scu ∧
    (s.clearSru).mfu = s.mfu ∧
    (s.clearSru).tst = s.tst ∧
    (s.clearSru).spe = s.spe ∧
    (s.clearSru).psc = s.psc ∧
    (s.clearSru).ulp = s.ulp ∧
    (s.clearSru).pam = s.pam ∧
    (s.clearSru).rhg = s.rhg ∧
    (s.clearSru).qhold = s.qhold ∧
    (s.clearSru).resetLine = s.resetLine ∧
    (s.clearSru).pending = s.pending := by
  unfold State.clearSru; simp

@[simp] theorem State.clearFacings_frame (s : State) :
    (s.clearFacings).params = s.params ∧
    (s.clearFacings).links = s.links ∧
    (s.clearFacings).swg = s.swg ∧
    (s.clearFacings).piq = s.piq ∧
    (s.clearFacings).scu = s.scu ∧
    (s.clearFacings).tst = s.tst ∧
    (s.clearFacings).spe = s.spe ∧
    (s.clearFacings).sru = s.sru ∧
    (s.clearFacings).psc = s.psc ∧
    (s.clearFacings).ulp = s.ulp ∧
    (s.clearFacings).pam = s.pam ∧
    (s.clearFacings).rhg = s.rhg ∧
    (s.clearFacings).qhold = s.qhold ∧
    (s.clearFacings).resetLine = s.resetLine ∧
    (s.clearFacings).pending = s.pending := by
  unfold State.clearFacings; simp

@[simp] theorem State.clearStale_frame (s : State) :
    (s.clearStale).params = s.params ∧
    (s.clearStale).links = s.links ∧
    (s.clearStale).swg = s.swg ∧
    (s.clearStale).piq = s.piq ∧
    (s.clearStale).scu = s.scu ∧
    (s.clearStale).mfu = s.mfu ∧
    (s.clearStale).tst = s.tst ∧
    (s.clearStale).sru = s.sru ∧
    (s.clearStale).psc = s.psc ∧
    (s.clearStale).ulp = s.ulp ∧
    (s.clearStale).pam = s.pam ∧
    (s.clearStale).rhg = s.rhg ∧
    (s.clearStale).qhold = s.qhold ∧
    (s.clearStale).resetLine = s.resetLine ∧
    (s.clearStale).pending = s.pending := by
  unfold State.clearStale; simp

@[simp] theorem State.markStale_frame (s : State) :
    (s.markStale).params = s.params ∧
    (s.markStale).links = s.links ∧
    (s.markStale).swg = s.swg ∧
    (s.markStale).piq = s.piq ∧
    (s.markStale).scu = s.scu ∧
    (s.markStale).mfu = s.mfu ∧
    (s.markStale).tst = s.tst ∧
    (s.markStale).sru = s.sru ∧
    (s.markStale).psc = s.psc ∧
    (s.markStale).ulp = s.ulp ∧
    (s.markStale).pam = s.pam ∧
    (s.markStale).rhg = s.rhg ∧
    (s.markStale).qhold = s.qhold ∧
    (s.markStale).resetLine = s.resetLine ∧
    (s.markStale).pending = s.pending := by
  unfold State.markStale
  exact ⟨(forPorts_keeps State.params _ (by intros; simp) _).trans (by simp), (forPorts_keeps State.links _ (by intros; simp) _).trans (by simp), (forPorts_keeps State.swg _ (by intros; simp) _).trans (by simp), (forPorts_keeps State.piq _ (by intros; simp) _).trans (by simp), (forPorts_keeps State.scu _ (by intros; simp) _).trans (by simp), (forPorts_keeps State.mfu _ (by intros; simp) _).trans (by simp), (forPorts_keeps State.tst _ (by intros; simp) _).trans (by simp), (forPorts_keeps State.sru _ (by intros; simp) _).trans (by simp), (forPorts_keeps State.psc _ (by intros; simp) _).trans (by simp), (forPorts_keeps State.ulp _ (by intros; simp) _).trans (by simp), (forPorts_keeps State.pam _ (by intros; simp) _).trans (by simp), (forPorts_keeps State.rhg _ (by intros; simp) _).trans (by simp), (forPorts_keeps State.qhold _ (by intros; simp) _).trans (by simp), (forPorts_keeps State.resetLine _ (by intros; simp) _).trans (by simp), (forPorts_keeps State.pending _ (by intros; simp) _).trans (by simp)⟩

@[simp] theorem State.setUpPass_frame (s : State) (k : PassSource) (v : Bool) (i j : Option Nat) :
    (s.setUpPass k v i j).params = s.params ∧
    (s.setUpPass k v i j).links = s.links ∧
    (s.setUpPass k v i j).scu = s.scu ∧
    (s.setUpPass k v i j).tst = s.tst ∧
    (s.setUpPass k v i j).ulp = s.ulp ∧
    (s.setUpPass k v i j).qhold = s.qhold ∧
    (s.setUpPass k v i j).resetLine = s.resetLine ∧
    (s.setUpPass k v i j).pending = s.pending := by
  unfold State.setUpPass; dsimp only; simp

@[simp] theorem State.openBy_frame (s : State) (f : MgmtFrame) (k : PassSource) (v : Bool) (i j : Option Nat) :
    (s.openBy f k v i j).params = s.params ∧
    (s.openBy f k v i j).links = s.links ∧
    (s.openBy f k v i j).scu = s.scu ∧
    (s.openBy f k v i j).tst = s.tst ∧
    (s.openBy f k v i j).qhold = s.qhold ∧
    (s.openBy f k v i j).resetLine = s.resetLine ∧
    (s.openBy f k v i j).pending = s.pending := by
  unfold State.openBy; simp

@[simp] theorem State.countRecord_frame (s : State) (h : Holding) :
    (s.countRecord h).params = s.params ∧
    (s.countRecord h).links = s.links ∧
    (s.countRecord h).swg = s.swg ∧
    (s.countRecord h).piq = s.piq ∧
    (s.countRecord h).scu = s.scu ∧
    (s.countRecord h).mfu = s.mfu ∧
    (s.countRecord h).spe = s.spe ∧
    (s.countRecord h).sru = s.sru ∧
    (s.countRecord h).ulp = s.ulp ∧
    (s.countRecord h).pam = s.pam ∧
    (s.countRecord h).rhg = s.rhg ∧
    (s.countRecord h).qhold = s.qhold ∧
    (s.countRecord h).resetLine = s.resetLine ∧
    (s.countRecord h).pending = s.pending := by
  unfold State.countRecord; (repeat' split) <;> simp

@[simp] theorem State.markNext_frame (s : State) :
    (s.markNext).params = s.params ∧
    (s.markNext).links = s.links ∧
    (s.markNext).swg = s.swg ∧
    (s.markNext).piq = s.piq ∧
    (s.markNext).scu = s.scu ∧
    (s.markNext).mfu = s.mfu ∧
    (s.markNext).spe = s.spe ∧
    (s.markNext).sru = s.sru ∧
    (s.markNext).ulp = s.ulp ∧
    (s.markNext).pam = s.pam ∧
    (s.markNext).rhg = s.rhg ∧
    (s.markNext).qhold = s.qhold ∧
    (s.markNext).resetLine = s.resetLine ∧
    (s.markNext).pending = s.pending := by
  unfold State.markNext; simp

@[simp] theorem State.clearNext_frame (s : State) :
    (s.clearNext).params = s.params ∧
    (s.clearNext).links = s.links ∧
    (s.clearNext).swg = s.swg ∧
    (s.clearNext).piq = s.piq ∧
    (s.clearNext).scu = s.scu ∧
    (s.clearNext).mfu = s.mfu ∧
    (s.clearNext).spe = s.spe ∧
    (s.clearNext).sru = s.sru ∧
    (s.clearNext).ulp = s.ulp ∧
    (s.clearNext).pam = s.pam ∧
    (s.clearNext).rhg = s.rhg ∧
    (s.clearNext).qhold = s.qhold ∧
    (s.clearNext).resetLine = s.resetLine ∧
    (s.clearNext).pending = s.pending := by
  unfold State.clearNext; simp

@[simp] theorem State.countNext_frame (s : State) :
    (s.countNext).params = s.params ∧
    (s.countNext).links = s.links ∧
    (s.countNext).swg = s.swg ∧
    (s.countNext).piq = s.piq ∧
    (s.countNext).scu = s.scu ∧
    (s.countNext).mfu = s.mfu ∧
    (s.countNext).spe = s.spe ∧
    (s.countNext).sru = s.sru ∧
    (s.countNext).ulp = s.ulp ∧
    (s.countNext).pam = s.pam ∧
    (s.countNext).rhg = s.rhg ∧
    (s.countNext).qhold = s.qhold ∧
    (s.countNext).resetLine = s.resetLine ∧
    (s.countNext).pending = s.pending := by
  unfold State.countNext; split <;> simp

@[simp] theorem State.walkOne_frame (s : State) :
    (s.walkOne).params = s.params ∧
    (s.walkOne).links = s.links ∧
    (s.walkOne).swg = s.swg ∧
    (s.walkOne).piq = s.piq ∧
    (s.walkOne).scu = s.scu ∧
    (s.walkOne).mfu = s.mfu ∧
    (s.walkOne).spe = s.spe ∧
    (s.walkOne).sru = s.sru ∧
    (s.walkOne).ulp = s.ulp ∧
    (s.walkOne).pam = s.pam ∧
    (s.walkOne).rhg = s.rhg ∧
    (s.walkOne).qhold = s.qhold ∧
    (s.walkOne).resetLine = s.resetLine ∧
    (s.walkOne).pending = s.pending := by
  unfold State.walkOne; (repeat' split) <;> simp

@[simp] theorem State.startRhg_frame (s : State) :
    (s.startRhg).params = s.params ∧
    (s.startRhg).links = s.links ∧
    (s.startRhg).piq = s.piq ∧
    (s.startRhg).scu = s.scu ∧
    (s.startRhg).mfu = s.mfu ∧
    (s.startRhg).tst = s.tst ∧
    (s.startRhg).spe = s.spe ∧
    (s.startRhg).sru = s.sru ∧
    (s.startRhg).ulp = s.ulp ∧
    (s.startRhg).qhold = s.qhold ∧
    (s.startRhg).resetLine = s.resetLine ∧
    (s.startRhg).pending = s.pending := by
  unfold State.startRhg; (repeat' split) <;> simp

@[simp] theorem State.enterScanning_frame (s : State) :
    (s.enterScanning).params = s.params ∧
    (s.enterScanning).scu = s.scu ∧
    (s.enterScanning).tst = s.tst ∧
    (s.enterScanning).sru = s.sru ∧
    (s.enterScanning).qhold = s.qhold ∧
    (s.enterScanning).resetLine = s.resetLine ∧
    (s.enterScanning).pending = s.pending := by
  unfold State.enterScanning; dsimp only; split <;> simp

@[simp] theorem State.walkRest_frame (s : State) :
    (s.walkRest).params = s.params ∧
    (s.walkRest).links = s.links ∧
    (s.walkRest).swg = s.swg ∧
    (s.walkRest).piq = s.piq ∧
    (s.walkRest).scu = s.scu ∧
    (s.walkRest).mfu = s.mfu ∧
    (s.walkRest).spe = s.spe ∧
    (s.walkRest).sru = s.sru ∧
    (s.walkRest).ulp = s.ulp ∧
    (s.walkRest).pam = s.pam ∧
    (s.walkRest).rhg = s.rhg ∧
    (s.walkRest).qhold = s.qhold ∧
    (s.walkRest).resetLine = s.resetLine ∧
    (s.walkRest).pending = s.pending := by
  unfold State.walkRest
  exact ⟨repeated_keeps State.params _ (by simp) _ _, repeated_keeps State.links _ (by simp) _ _, repeated_keeps State.swg _ (by simp) _ _, repeated_keeps State.piq _ (by simp) _ _, repeated_keeps State.scu _ (by simp) _ _, repeated_keeps State.mfu _ (by simp) _ _, repeated_keeps State.spe _ (by simp) _ _, repeated_keeps State.sru _ (by simp) _ _, repeated_keeps State.ulp _ (by simp) _ _, repeated_keeps State.pam _ (by simp) _ _, repeated_keeps State.rhg _ (by simp) _ _, repeated_keeps State.qhold _ (by simp) _ _, repeated_keeps State.resetLine _ (by simp) _ _, repeated_keeps State.pending _ (by simp) _ _⟩

@[simp] theorem State.startScu_frame (s : State) (a b : TagCode) :
    (s.startScu a b).params = s.params ∧
    (s.startScu a b).links = s.links ∧
    (s.startScu a b).swg = s.swg ∧
    (s.startScu a b).piq = s.piq ∧
    (s.startScu a b).mfu = s.mfu ∧
    (s.startScu a b).tst = s.tst ∧
    (s.startScu a b).spe = s.spe ∧
    (s.startScu a b).sru = s.sru ∧
    (s.startScu a b).psc = s.psc ∧
    (s.startScu a b).ulp = s.ulp ∧
    (s.startScu a b).pam = s.pam ∧
    (s.startScu a b).rhg = s.rhg ∧
    (s.startScu a b).qhold = s.qhold ∧
    (s.startScu a b).resetLine = s.resetLine ∧
    (s.startScu a b).pending = s.pending := by
  unfold State.startScu; dsimp only
  exact ⟨(forPorts_keeps State.params _ (by intros; simp) _).trans (by simp), (forPorts_keeps State.links _ (by intros; simp) _).trans (by simp), (forPorts_keeps State.swg _ (by intros; simp) _).trans (by simp), (forPorts_keeps State.piq _ (by intros; simp) _).trans (by simp), (forPorts_keeps State.mfu _ (by intros; simp) _).trans (by simp), (forPorts_keeps State.tst _ (by intros; simp) _).trans (by simp), (forPorts_keeps State.spe _ (by intros; simp) _).trans (by simp), (forPorts_keeps State.sru _ (by intros; simp) _).trans (by simp), (forPorts_keeps State.psc _ (by intros; simp) _).trans (by simp), (forPorts_keeps State.ulp _ (by intros; simp) _).trans (by simp), (forPorts_keeps State.pam _ (by intros; simp) _).trans (by simp), (forPorts_keeps State.rhg _ (by intros; simp) _).trans (by simp), (forPorts_keeps State.qhold _ (by intros; simp) _).trans (by simp), (forPorts_keeps State.resetLine _ (by intros; simp) _).trans (by simp), (forPorts_keeps State.pending _ (by intros; simp) _).trans (by simp)⟩

/-! ### The end of a pass -/

@[simp] theorem State.judge_frame (s : State) (n : Nat) (o : TallyOutcome) :
    (s.judge n o).params = s.params ∧
    (s.judge n o).links = s.links ∧
    (s.judge n o).swg = s.swg ∧
    (s.judge n o).piq = s.piq ∧
    (s.judge n o).scu = s.scu ∧
    (s.judge n o).mfu = s.mfu ∧
    (s.judge n o).spe = s.spe ∧
    (s.judge n o).sru = s.sru ∧
    (s.judge n o).ulp = s.ulp ∧
    (s.judge n o).pam = s.pam ∧
    (s.judge n o).rhg = s.rhg ∧
    (s.judge n o).qhold = s.qhold ∧
    (s.judge n o).resetLine = s.resetLine ∧
    (s.judge n o).pending = s.pending := by
  unfold State.judge; split <;> simp

@[simp] theorem State.tallyNext_frame (s : State) :
    (s.tallyNext).params = s.params ∧
    (s.tallyNext).links = s.links ∧
    (s.tallyNext).swg = s.swg ∧
    (s.tallyNext).piq = s.piq ∧
    (s.tallyNext).scu = s.scu ∧
    (s.tallyNext).mfu = s.mfu ∧
    (s.tallyNext).tst = s.tst ∧
    (s.tallyNext).spe = s.spe ∧
    (s.tallyNext).sru = s.sru ∧
    (s.tallyNext).ulp = s.ulp ∧
    (s.tallyNext).pam = s.pam ∧
    (s.tallyNext).rhg = s.rhg ∧
    (s.tallyNext).qhold = s.qhold ∧
    (s.tallyNext).resetLine = s.resetLine ∧
    (s.tallyNext).pending = s.pending := by
  unfold State.tallyNext; simp

@[simp] theorem State.tallyOne_frame (s : State) :
    (s.tallyOne).params = s.params ∧
    (s.tallyOne).links = s.links ∧
    (s.tallyOne).piq = s.piq ∧
    (s.tallyOne).scu = s.scu ∧
    (s.tallyOne).mfu = s.mfu ∧
    (s.tallyOne).spe = s.spe ∧
    (s.tallyOne).sru = s.sru ∧
    (s.tallyOne).rhg = s.rhg ∧
    (s.tallyOne).qhold = s.qhold ∧
    (s.tallyOne).resetLine = s.resetLine ∧
    (s.tallyOne).pending = s.pending := by
  unfold State.tallyOne; dsimp only; (repeat' split) <;> simp

@[simp] theorem State.tallyRest_frame (s : State) :
    (s.tallyRest).params = s.params ∧
    (s.tallyRest).links = s.links ∧
    (s.tallyRest).piq = s.piq ∧
    (s.tallyRest).scu = s.scu ∧
    (s.tallyRest).mfu = s.mfu ∧
    (s.tallyRest).spe = s.spe ∧
    (s.tallyRest).sru = s.sru ∧
    (s.tallyRest).rhg = s.rhg ∧
    (s.tallyRest).qhold = s.qhold ∧
    (s.tallyRest).resetLine = s.resetLine ∧
    (s.tallyRest).pending = s.pending := by
  unfold State.tallyRest
  exact ⟨repeated_keeps State.params _ (by intro t; split <;> simp) _ _, repeated_keeps State.links _ (by intro t; split <;> simp) _ _, repeated_keeps State.piq _ (by intro t; split <;> simp) _ _, repeated_keeps State.scu _ (by intro t; split <;> simp) _ _, repeated_keeps State.mfu _ (by intro t; split <;> simp) _ _, repeated_keeps State.spe _ (by intro t; split <;> simp) _ _, repeated_keeps State.sru _ (by intro t; split <;> simp) _ _, repeated_keeps State.rhg _ (by intro t; split <;> simp) _ _, repeated_keeps State.qhold _ (by intro t; split <;> simp) _ _, repeated_keeps State.resetLine _ (by intro t; split <;> simp) _ _, repeated_keeps State.pending _ (by intro t; split <;> simp) _ _⟩

@[simp] theorem State.writePassEnd_frame (s : State) (r : PassEndReason) :
    (s.writePassEnd r).params = s.params ∧
    (s.writePassEnd r).links = s.links ∧
    (s.writePassEnd r).piq = s.piq ∧
    (s.writePassEnd r).scu = s.scu ∧
    (s.writePassEnd r).mfu = s.mfu ∧
    (s.writePassEnd r).tst = s.tst ∧
    (s.writePassEnd r).spe = s.spe ∧
    (s.writePassEnd r).sru = s.sru ∧
    (s.writePassEnd r).psc = s.psc ∧
    (s.writePassEnd r).rhg = s.rhg ∧
    (s.writePassEnd r).qhold = s.qhold ∧
    (s.writePassEnd r).resetLine = s.resetLine ∧
    (s.writePassEnd r).pending = s.pending := by
  unfold State.writePassEnd; simp

@[simp] theorem State.enterIdle_frame (s : State) :
    (s.enterIdle).params = s.params ∧
    (s.enterIdle).links = s.links ∧
    (s.enterIdle).swg = s.swg ∧
    (s.enterIdle).piq = s.piq ∧
    (s.enterIdle).scu = s.scu ∧
    (s.enterIdle).mfu = s.mfu ∧
    (s.enterIdle).tst = s.tst ∧
    (s.enterIdle).spe = s.spe ∧
    (s.enterIdle).sru = s.sru ∧
    (s.enterIdle).ulp = s.ulp ∧
    (s.enterIdle).pam = s.pam ∧
    (s.enterIdle).rhg = s.rhg ∧
    (s.enterIdle).qhold = s.qhold ∧
    (s.enterIdle).resetLine = s.resetLine ∧
    (s.enterIdle).pending = s.pending := by
  unfold State.enterIdle; simp

@[simp] theorem State.endRhg_frame (s : State) :
    (s.endRhg).params = s.params ∧
    (s.endRhg).links = s.links ∧
    (s.endRhg).swg = s.swg ∧
    (s.endRhg).piq = s.piq ∧
    (s.endRhg).scu = s.scu ∧
    (s.endRhg).mfu = s.mfu ∧
    (s.endRhg).tst = s.tst ∧
    (s.endRhg).spe = s.spe ∧
    (s.endRhg).sru = s.sru ∧
    (s.endRhg).psc = s.psc ∧
    (s.endRhg).ulp = s.ulp ∧
    (s.endRhg).pam = s.pam ∧
    (s.endRhg).qhold = s.qhold ∧
    (s.endRhg).resetLine = s.resetLine ∧
    (s.endRhg).pending = s.pending := by
  unfold State.endRhg; simp

@[simp] theorem State.abortWalk_frame (s : State) :
    (s.abortWalk).params = s.params ∧
    (s.abortWalk).links = s.links ∧
    (s.abortWalk).swg = s.swg ∧
    (s.abortWalk).piq = s.piq ∧
    (s.abortWalk).scu = s.scu ∧
    (s.abortWalk).mfu = s.mfu ∧
    (s.abortWalk).tst = s.tst ∧
    (s.abortWalk).spe = s.spe ∧
    (s.abortWalk).sru = s.sru ∧
    (s.abortWalk).psc = s.psc ∧
    (s.abortWalk).pam = s.pam ∧
    (s.abortWalk).rhg = s.rhg ∧
    (s.abortWalk).qhold = s.qhold ∧
    (s.abortWalk).resetLine = s.resetLine ∧
    (s.abortWalk).pending = s.pending := by
  unfold State.abortWalk; split <;> simp

@[simp] theorem State.dropMarks_frame (s : State) :
    (s.dropMarks).params = s.params ∧
    (s.dropMarks).links = s.links ∧
    (s.dropMarks).swg = s.swg ∧
    (s.dropMarks).piq = s.piq ∧
    (s.dropMarks).scu = s.scu ∧
    (s.dropMarks).mfu = s.mfu ∧
    (s.dropMarks).spe = s.spe ∧
    (s.dropMarks).sru = s.sru ∧
    (s.dropMarks).psc = s.psc ∧
    (s.dropMarks).ulp = s.ulp ∧
    (s.dropMarks).pam = s.pam ∧
    (s.dropMarks).rhg = s.rhg ∧
    (s.dropMarks).qhold = s.qhold ∧
    (s.dropMarks).resetLine = s.resetLine ∧
    (s.dropMarks).pending = s.pending := by
  unfold State.dropMarks; simp

@[simp] theorem State.abandonCalibration_frame (s : State) :
    (s.abandonCalibration).params = s.params ∧
    (s.abandonCalibration).links = s.links ∧
    (s.abandonCalibration).swg = s.swg ∧
    (s.abandonCalibration).piq = s.piq ∧
    (s.abandonCalibration).mfu = s.mfu ∧
    (s.abandonCalibration).tst = s.tst ∧
    (s.abandonCalibration).spe = s.spe ∧
    (s.abandonCalibration).sru = s.sru ∧
    (s.abandonCalibration).psc = s.psc ∧
    (s.abandonCalibration).ulp = s.ulp ∧
    (s.abandonCalibration).pam = s.pam ∧
    (s.abandonCalibration).rhg = s.rhg ∧
    (s.abandonCalibration).qhold = s.qhold ∧
    (s.abandonCalibration).resetLine = s.resetLine ∧
    (s.abandonCalibration).pending = s.pending := by
  unfold State.abandonCalibration; simp

@[simp] theorem State.abortScu_frame (s : State) :
    (s.abortScu).params = s.params ∧
    (s.abortScu).links = s.links ∧
    (s.abortScu).swg = s.swg ∧
    (s.abortScu).piq = s.piq ∧
    (s.abortScu).mfu = s.mfu ∧
    (s.abortScu).tst = s.tst ∧
    (s.abortScu).spe = s.spe ∧
    (s.abortScu).sru = s.sru ∧
    (s.abortScu).psc = s.psc ∧
    (s.abortScu).ulp = s.ulp ∧
    (s.abortScu).pam = s.pam ∧
    (s.abortScu).rhg = s.rhg ∧
    (s.abortScu).qhold = s.qhold ∧
    (s.abortScu).resetLine = s.resetLine ∧
    (s.abortScu).pending = s.pending := by
  unfold State.abortScu; split <;> simp

@[simp] theorem State.endWork_frame (s : State) :
    (s.endWork).params = s.params ∧
    (s.endWork).links = s.links ∧
    (s.endWork).piq = s.piq ∧
    (s.endWork).mfu = s.mfu ∧
    (s.endWork).qhold = s.qhold ∧
    (s.endWork).resetLine = s.resetLine ∧
    (s.endWork).pending = s.pending := by
  unfold State.endWork; simp

@[simp] theorem State.abort_frame (s : State) (g : Byte) :
    (s.abort g).params = s.params ∧
    (s.abort g).links = s.links ∧
    (s.abort g).piq = s.piq ∧
    (s.abort g).mfu = s.mfu ∧
    (s.abort g).qhold = s.qhold ∧
    (s.abort g).resetLine = s.resetLine ∧
    (s.abort g).pending = s.pending := by
  unfold State.abort; split <;> simp

@[simp] theorem State.restartWork_frame (s : State) :
    (s.restartWork).params = s.params ∧
    (s.restartWork).links = s.links ∧
    (s.restartWork).piq = s.piq ∧
    (s.restartWork).mfu = s.mfu ∧
    (s.restartWork).qhold = s.qhold ∧
    (s.restartWork).resetLine = s.resetLine ∧
    (s.restartWork).pending = s.pending := by
  unfold State.restartWork; split <;> simp

@[simp] theorem State.restartQueues_frame (s : State) :
    (s.restartQueues).params = s.params ∧
    (s.restartQueues).links = s.links ∧
    (s.restartQueues).swg = s.swg ∧
    (s.restartQueues).mfu = s.mfu ∧
    (s.restartQueues).tst = s.tst ∧
    (s.restartQueues).sru = s.sru ∧
    (s.restartQueues).psc = s.psc ∧
    (s.restartQueues).pam = s.pam ∧
    (s.restartQueues).rhg = s.rhg ∧
    (s.restartQueues).qhold = s.qhold ∧
    (s.restartQueues).resetLine = s.resetLine ∧
    (s.restartQueues).pending = s.pending := by
  unfold State.restartQueues; simp

@[simp] theorem State.restartUplink_frame (s : State) :
    (s.restartUplink).params = s.params ∧
    (s.restartUplink).links = s.links ∧
    (s.restartUplink).piq = s.piq ∧
    (s.restartUplink).scu = s.scu ∧
    (s.restartUplink).mfu = s.mfu ∧
    (s.restartUplink).tst = s.tst ∧
    (s.restartUplink).spe = s.spe ∧
    (s.restartUplink).sru = s.sru ∧
    (s.restartUplink).psc = s.psc ∧
    (s.restartUplink).pam = s.pam ∧
    (s.restartUplink).rhg = s.rhg ∧
    (s.restartUplink).qhold = s.qhold ∧
    (s.restartUplink).resetLine = s.resetLine ∧
    (s.restartUplink).pending = s.pending := by
  unfold State.restartUplink; simp

@[simp] theorem State.restartBlocks_frame (s : State) :
    (s.restartBlocks).params = s.params ∧
    (s.restartBlocks).links = s.links ∧
    (s.restartBlocks).swg = s.swg ∧
    (s.restartBlocks).piq = s.piq ∧
    (s.restartBlocks).scu = s.scu ∧
    (s.restartBlocks).tst = s.tst ∧
    (s.restartBlocks).ulp = s.ulp ∧
    (s.restartBlocks).qhold = s.qhold ∧
    (s.restartBlocks).resetLine = s.resetLine ∧
    (s.restartBlocks).pending = s.pending := by
  unfold State.restartBlocks; simp

@[simp] theorem State.restart_frame (s : State) (g : Byte) :
    (s.restart g).params = s.params ∧
    (s.restart g).links = s.links ∧
    (s.restart g).qhold = s.qhold ∧
    (s.restart g).resetLine = s.resetLine ∧
    (s.restart g).pending = s.pending := by
  unfold State.restart; simp

/-! ### The uplink -/

@[simp] theorem State.transmit_frame (s : State) (f : UpFrame) :
    (s.transmit f).params = s.params ∧
    (s.transmit f).links = s.links ∧
    (s.transmit f).swg = s.swg ∧
    (s.transmit f).piq = s.piq ∧
    (s.transmit f).scu = s.scu ∧
    (s.transmit f).mfu = s.mfu ∧
    (s.transmit f).tst = s.tst ∧
    (s.transmit f).spe = s.spe ∧
    (s.transmit f).sru = s.sru ∧
    (s.transmit f).psc = s.psc ∧
    (s.transmit f).pam = s.pam ∧
    (s.transmit f).rhg = s.rhg ∧
    (s.transmit f).qhold = s.qhold ∧
    (s.transmit f).resetLine = s.resetLine ∧
    (s.transmit f).pending = s.pending := by
  unfold State.transmit; simp

@[simp] theorem State.sendReply_frame (s : State) (r : Reply) :
    (s.sendReply r).params = s.params ∧
    (s.sendReply r).links = s.links ∧
    (s.sendReply r).swg = s.swg ∧
    (s.sendReply r).piq = s.piq ∧
    (s.sendReply r).scu = s.scu ∧
    (s.sendReply r).mfu = s.mfu ∧
    (s.sendReply r).tst = s.tst ∧
    (s.sendReply r).spe = s.spe ∧
    (s.sendReply r).sru = s.sru ∧
    (s.sendReply r).psc = s.psc ∧
    (s.sendReply r).pam = s.pam ∧
    (s.sendReply r).rhg = s.rhg ∧
    (s.sendReply r).qhold = s.qhold ∧
    (s.sendReply r).resetLine = s.resetLine ∧
    (s.sendReply r).pending = s.pending := by
  unfold State.sendReply; simp

@[simp] theorem State.sendAlert_frame (s : State) :
    (s.sendAlert).params = s.params ∧
    (s.sendAlert).links = s.links ∧
    (s.sendAlert).swg = s.swg ∧
    (s.sendAlert).piq = s.piq ∧
    (s.sendAlert).scu = s.scu ∧
    (s.sendAlert).mfu = s.mfu ∧
    (s.sendAlert).tst = s.tst ∧
    (s.sendAlert).spe = s.spe ∧
    (s.sendAlert).sru = s.sru ∧
    (s.sendAlert).psc = s.psc ∧
    (s.sendAlert).pam = s.pam ∧
    (s.sendAlert).rhg = s.rhg ∧
    (s.sendAlert).qhold = s.qhold ∧
    (s.sendAlert).resetLine = s.resetLine ∧
    (s.sendAlert).pending = s.pending := by
  unfold State.sendAlert; simp

@[simp] theorem State.sendReport_frame (s : State) :
    (s.sendReport).params = s.params ∧
    (s.sendReport).scu = s.scu ∧
    (s.sendReport).tst = s.tst ∧
    (s.sendReport).sru = s.sru ∧
    (s.sendReport).qhold = s.qhold ∧
    (s.sendReport).resetLine = s.resetLine ∧
    (s.sendReport).pending = s.pending := by
  unfold State.sendReport; simp

@[simp] theorem State.sendChoice_frame (s : State) (c : Choice) :
    (s.sendChoice c).params = s.params ∧
    (s.sendChoice c).scu = s.scu ∧
    (s.sendChoice c).tst = s.tst ∧
    (s.sendChoice c).sru = s.sru ∧
    (s.sendChoice c).qhold = s.qhold ∧
    (s.sendChoice c).resetLine = s.resetLine ∧
    (s.sendChoice c).pending = s.pending := by
  unfold State.sendChoice; split <;> simp

@[simp] theorem State.arbitrate_frame (s : State) :
    (s.arbitrate).params = s.params ∧
    (s.arbitrate).scu = s.scu ∧
    (s.arbitrate).tst = s.tst ∧
    (s.arbitrate).sru = s.sru ∧
    (s.arbitrate).qhold = s.qhold ∧
    (s.arbitrate).resetLine = s.resetLine ∧
    (s.arbitrate).pending = s.pending := by
  unfold State.arbitrate; split <;> simp

@[simp] theorem State.queueFrame_frame (s : State) (f : MgmtFrame) :
    (s.queueFrame f).params = s.params ∧
    (s.queueFrame f).links = s.links ∧
    (s.queueFrame f).swg = s.swg ∧
    (s.queueFrame f).piq = s.piq ∧
    (s.queueFrame f).scu = s.scu ∧
    (s.queueFrame f).mfu = s.mfu ∧
    (s.queueFrame f).tst = s.tst ∧
    (s.queueFrame f).spe = s.spe ∧
    (s.queueFrame f).sru = s.sru ∧
    (s.queueFrame f).psc = s.psc ∧
    (s.queueFrame f).pam = s.pam ∧
    (s.queueFrame f).rhg = s.rhg ∧
    (s.queueFrame f).qhold = s.qhold ∧
    (s.queueFrame f).resetLine = s.resetLine ∧
    (s.queueFrame f).pending = s.pending := by
  unfold State.queueFrame; split <;> simp

@[simp] theorem State.applyParam_frame (s : State) (i j v : Nat) :
    (s.applyParam i j v).tst = s.tst ∧
    (s.applyParam i j v).sru = s.sru ∧
    (s.applyParam i j v).qhold = s.qhold ∧
    (s.applyParam i j v).resetLine = s.resetLine ∧
    (s.applyParam i j v).pending = s.pending := by
  unfold State.applyParam; split
  · exact ⟨foldl_keeps State.tst _ (by simp) _ _, foldl_keeps State.sru _ (by simp) _ _, foldl_keeps State.qhold _ (by simp) _ _, foldl_keeps State.resetLine _ (by simp) _ _, foldl_keeps State.pending _ (by simp) _ _⟩
  · (repeat' split) <;> simp

/-! ### The reporter and the links -/

@[simp] theorem State.beginReport_frame (s : State) (x : SectionId) (l : List Nat) :
    (s.beginReport x l).params = s.params ∧
    (s.beginReport x l).links = s.links ∧
    (s.beginReport x l).swg = s.swg ∧
    (s.beginReport x l).piq = s.piq ∧
    (s.beginReport x l).scu = s.scu ∧
    (s.beginReport x l).mfu = s.mfu ∧
    (s.beginReport x l).tst = s.tst ∧
    (s.beginReport x l).spe = s.spe ∧
    (s.beginReport x l).psc = s.psc ∧
    (s.beginReport x l).ulp = s.ulp ∧
    (s.beginReport x l).pam = s.pam ∧
    (s.beginReport x l).rhg = s.rhg ∧
    (s.beginReport x l).qhold = s.qhold ∧
    (s.beginReport x l).resetLine = s.resetLine ∧
    (s.beginReport x l).pending = s.pending := by
  unfold State.beginReport; simp

@[simp] theorem State.takeSection_frame (s : State) (x : SectionId) (d : Direction) (l : List Item) :
    (s.takeSection x d l).params = s.params ∧
    (s.takeSection x d l).links = s.links ∧
    (s.takeSection x d l).swg = s.swg ∧
    (s.takeSection x d l).piq = s.piq ∧
    (s.takeSection x d l).scu = s.scu ∧
    (s.takeSection x d l).mfu = s.mfu ∧
    (s.takeSection x d l).spe = s.spe ∧
    (s.takeSection x d l).psc = s.psc ∧
    (s.takeSection x d l).ulp = s.ulp ∧
    (s.takeSection x d l).pam = s.pam ∧
    (s.takeSection x d l).rhg = s.rhg ∧
    (s.takeSection x d l).qhold = s.qhold ∧
    (s.takeSection x d l).resetLine = s.resetLine ∧
    (s.takeSection x d l).pending = s.pending := by
  unfold State.takeSection; split <;> simp

@[simp] theorem State.reportNext_frame (s : State) (x : SectionId) :
    (s.reportNext x).params = s.params ∧
    (s.reportNext x).links = s.links ∧
    (s.reportNext x).swg = s.swg ∧
    (s.reportNext x).piq = s.piq ∧
    (s.reportNext x).scu = s.scu ∧
    (s.reportNext x).mfu = s.mfu ∧
    (s.reportNext x).tst = s.tst ∧
    (s.reportNext x).spe = s.spe ∧
    (s.reportNext x).psc = s.psc ∧
    (s.reportNext x).ulp = s.ulp ∧
    (s.reportNext x).pam = s.pam ∧
    (s.reportNext x).rhg = s.rhg ∧
    (s.reportNext x).qhold = s.qhold ∧
    (s.reportNext x).resetLine = s.resetLine ∧
    (s.reportNext x).pending = s.pending := by
  unfold State.reportNext; simp

@[simp] theorem State.reportWait_frame (s : State) :
    (s.reportWait).params = s.params ∧
    (s.reportWait).links = s.links ∧
    (s.reportWait).swg = s.swg ∧
    (s.reportWait).piq = s.piq ∧
    (s.reportWait).scu = s.scu ∧
    (s.reportWait).mfu = s.mfu ∧
    (s.reportWait).tst = s.tst ∧
    (s.reportWait).spe = s.spe ∧
    (s.reportWait).psc = s.psc ∧
    (s.reportWait).ulp = s.ulp ∧
    (s.reportWait).pam = s.pam ∧
    (s.reportWait).rhg = s.rhg ∧
    (s.reportWait).qhold = s.qhold ∧
    (s.reportWait).resetLine = s.resetLine ∧
    (s.reportWait).pending = s.pending := by
  unfold State.reportWait; simp

@[simp] theorem State.reportItem_frame (s : State) (r : Reporter) (i : Item) (n : Nat) :
    (s.reportItem r i n).params = s.params ∧
    (s.reportItem r i n).links = s.links ∧
    (s.reportItem r i n).piq = s.piq ∧
    (s.reportItem r i n).scu = s.scu ∧
    (s.reportItem r i n).mfu = s.mfu ∧
    (s.reportItem r i n).tst = s.tst ∧
    (s.reportItem r i n).spe = s.spe ∧
    (s.reportItem r i n).psc = s.psc ∧
    (s.reportItem r i n).rhg = s.rhg ∧
    (s.reportItem r i n).qhold = s.qhold ∧
    (s.reportItem r i n).resetLine = s.resetLine ∧
    (s.reportItem r i n).pending = s.pending := by
  unfold State.reportItem; dsimp only; (repeat' split) <;> simp

@[simp] theorem State.closeSection_frame (s : State) (x : SectionId) :
    (s.closeSection x).params = s.params ∧
    (s.closeSection x).links = s.links ∧
    (s.closeSection x).swg = s.swg ∧
    (s.closeSection x).piq = s.piq ∧
    (s.closeSection x).scu = s.scu ∧
    (s.closeSection x).mfu = s.mfu ∧
    (s.closeSection x).spe = s.spe ∧
    (s.closeSection x).ulp = s.ulp ∧
    (s.closeSection x).pam = s.pam ∧
    (s.closeSection x).rhg = s.rhg ∧
    (s.closeSection x).qhold = s.qhold ∧
    (s.closeSection x).resetLine = s.resetLine ∧
    (s.closeSection x).pending = s.pending := by
  unfold State.closeSection; simp

@[simp] theorem State.judgeBad_frame (s : State) (l : Link) :
    (s.judgeBad l).params = s.params ∧
    (s.judgeBad l).swg = s.swg ∧
    (s.judgeBad l).piq = s.piq ∧
    (s.judgeBad l).scu = s.scu ∧
    (s.judgeBad l).mfu = s.mfu ∧
    (s.judgeBad l).tst = s.tst ∧
    (s.judgeBad l).spe = s.spe ∧
    (s.judgeBad l).sru = s.sru ∧
    (s.judgeBad l).psc = s.psc ∧
    (s.judgeBad l).pam = s.pam ∧
    (s.judgeBad l).rhg = s.rhg ∧
    (s.judgeBad l).qhold = s.qhold ∧
    (s.judgeBad l).resetLine = s.resetLine ∧
    (s.judgeBad l).pending = s.pending := by
  unfold State.judgeBad; split <;> simp

@[simp] theorem State.judgeGood_frame (s : State) (l : Link) (f : ReadFrame) :
    (s.judgeGood l f).params = s.params ∧
    (s.judgeGood l f).swg = s.swg ∧
    (s.judgeGood l f).scu = s.scu ∧
    (s.judgeGood l f).mfu = s.mfu ∧
    (s.judgeGood l f).tst = s.tst ∧
    (s.judgeGood l f).sru = s.sru ∧
    (s.judgeGood l f).psc = s.psc ∧
    (s.judgeGood l f).pam = s.pam ∧
    (s.judgeGood l f).rhg = s.rhg ∧
    (s.judgeGood l f).qhold = s.qhold ∧
    (s.judgeGood l f).resetLine = s.resetLine ∧
    (s.judgeGood l f).pending = s.pending := by
  unfold State.judgeGood; split <;> simp

@[simp] theorem State.judgeFrame_frame (s : State) (l : Link) (g : List Byte) :
    (s.judgeFrame l g).params = s.params ∧
    (s.judgeFrame l g).swg = s.swg ∧
    (s.judgeFrame l g).scu = s.scu ∧
    (s.judgeFrame l g).mfu = s.mfu ∧
    (s.judgeFrame l g).tst = s.tst ∧
    (s.judgeFrame l g).sru = s.sru ∧
    (s.judgeFrame l g).psc = s.psc ∧
    (s.judgeFrame l g).pam = s.pam ∧
    (s.judgeFrame l g).rhg = s.rhg ∧
    (s.judgeFrame l g).qhold = s.qhold ∧
    (s.judgeFrame l g).resetLine = s.resetLine ∧
    (s.judgeFrame l g).pending = s.pending := by
  unfold State.judgeFrame; split <;> simp

end Sys2Proof.Machine
end

