-- ==== Sys2Proof/WellFormed.lean ====
section
/-! DEFINITION. Which commands are well formed: the checks on the operands that the types leave open. -/

namespace Sys2Proof

/-- A frame is judged when bytes have arrived, and a section is named by an ID of 0 to 4095 (section 1.7). Every other
operand is bounded by its type. -/
def Instr.wf : Instr → Bool
  | .frontEndFrameJudged _ bytes => !bytes.isEmpty
  | .uplinkFrameJudged bytes => !bytes.isEmpty
  | .quietClose sec => decide (sec < 4096)
  | .powerOn => true
  | .resetLine => true
  | .resetLineRelease => true
  | .qholdAssert => true
  | .qholdRelease => true
  | .sweepFrameSent _ => true
  | .sweepStart _ => true
  | .aStart => true
  | .bStart => true
  | .readTake => true
  | .sectionOpenAfterWait => true
  | .overfullFindingWrite => true
  | .quietExpiry => true
  | .forcePlaceAndRetire => true
  | .reporterTakeSection => true
  | .findingWrite => true
  | .sectionSummaryWrite => true
  | .drainComplete => true
  | .settle => true
  | .tallyFindingWrite => true
  | .tallyWalkEnd => true
  | .clockLimit => true
  | .preparingWalkEnd => true
  | .calibrationComplete => true
  | .activityWindowEnd => true
  | .abortPass _ => true
  | .restart _ => true
  | .pause => true
  | .resume => true
  | .identify => true
  | .setParam => true
  | .getParam => true
  | .readStatusPass => true
  | .readStatusPorts => true
  | .readStatusCalibration => true
  | .readStatusCounters => true
  | .readStatusLinks => true
  | .resetPortQueues => true
  | .resetPortQueuesGlobal => true
  | .loadHoldings => true
  | .loadSections => true
  | .loadComplete => true
  | .clearTables => true
  | .calibrate => true
  | .openPass => true
  | .rehearse => true
  | .closePass => true
  | .badKind => true
  | .replyFrame => true
  | .alertFrame => true
  | .reportFrame => true
  | .flushTimeExpiry => true
  | .uplinkFrameEnd => true

end Sys2Proof
end

