-- ==== Sys2Proof/Laws/PerInstr.lean ====
section
/-! SUPPORT. Statements made per command: a family's Statement and one lemma per constructor of Instr. -/

/-- The family of the operands: a command is well formed, or it is a judgement of no bytes, or it names a section above 4095. -/
def Sys2Proof.Laws.Operands.Statement (i : Sys2Proof.Instr) : Prop :=
  i.wf = true ∨ (∃ link, i = .frontEndFrameJudged link []) ∨ i = .uplinkFrameJudged [] ∨ ∃ sec, 4095 < sec ∧ i = .quietClose sec

namespace Sys2Proof.Laws.Operands

theorem powerOn : Statement .powerOn := .inl rfl

theorem resetLine : Statement .resetLine := .inl rfl

theorem resetLineRelease : Statement .resetLineRelease := .inl rfl

theorem qholdAssert : Statement .qholdAssert := .inl rfl

theorem qholdRelease : Statement .qholdRelease := .inl rfl

theorem frontEndFrameJudged (link : Link) (bytes : List Byte) : Statement (.frontEndFrameJudged link bytes) := by
  cases bytes with
  | nil => exact .inr (.inl ⟨link, rfl⟩)
  | cons b rest => exact .inl rfl

theorem sweepFrameSent (link : Link) : Statement (.sweepFrameSent link) := .inl rfl

theorem sweepStart (g : Generator) : Statement (.sweepStart g) := .inl rfl

theorem aStart : Statement .aStart := .inl rfl

theorem bStart : Statement .bStart := .inl rfl

theorem readTake : Statement .readTake := .inl rfl

theorem sectionOpenAfterWait : Statement .sectionOpenAfterWait := .inl rfl

theorem overfullFindingWrite : Statement .overfullFindingWrite := .inl rfl

theorem quietExpiry : Statement .quietExpiry := .inl rfl

theorem quietClose (sec : SectionId) : Statement (.quietClose sec) := by
  by_cases h : sec < 4096
  · exact .inl (decide_eq_true h)
  · exact .inr (.inr (.inr ⟨sec, Nat.lt_of_succ_le (Nat.le_of_not_lt h), rfl⟩))

theorem forcePlaceAndRetire : Statement .forcePlaceAndRetire := .inl rfl

theorem reporterTakeSection : Statement .reporterTakeSection := .inl rfl

theorem findingWrite : Statement .findingWrite := .inl rfl

theorem sectionSummaryWrite : Statement .sectionSummaryWrite := .inl rfl

theorem drainComplete : Statement .drainComplete := .inl rfl

theorem settle : Statement .settle := .inl rfl

theorem tallyFindingWrite : Statement .tallyFindingWrite := .inl rfl

theorem tallyWalkEnd : Statement .tallyWalkEnd := .inl rfl

theorem clockLimit : Statement .clockLimit := .inl rfl

theorem preparingWalkEnd : Statement .preparingWalkEnd := .inl rfl

theorem calibrationComplete : Statement .calibrationComplete := .inl rfl

theorem activityWindowEnd : Statement .activityWindowEnd := .inl rfl

theorem uplinkFrameJudged (bytes : List Byte) : Statement (.uplinkFrameJudged bytes) := by
  cases bytes with
  | nil => exact .inr (.inr (.inl rfl))
  | cons b rest => exact .inl rfl

theorem abortPass (tag : Byte) : Statement (.abortPass tag) := .inl rfl

theorem restart (tag : Byte) : Statement (.restart tag) := .inl rfl

theorem pause : Statement .pause := .inl rfl

theorem resume : Statement .resume := .inl rfl

theorem identify : Statement .identify := .inl rfl

theorem setParam : Statement .setParam := .inl rfl

theorem getParam : Statement .getParam := .inl rfl

theorem readStatusPass : Statement .readStatusPass := .inl rfl

theorem readStatusPorts : Statement .readStatusPorts := .inl rfl

theorem readStatusCalibration : Statement .readStatusCalibration := .inl rfl

theorem readStatusCounters : Statement .readStatusCounters := .inl rfl

theorem readStatusLinks : Statement .readStatusLinks := .inl rfl

theorem resetPortQueues : Statement .resetPortQueues := .inl rfl

theorem resetPortQueuesGlobal : Statement .resetPortQueuesGlobal := .inl rfl

theorem loadHoldings : Statement .loadHoldings := .inl rfl

theorem loadSections : Statement .loadSections := .inl rfl

theorem loadComplete : Statement .loadComplete := .inl rfl

theorem clearTables : Statement .clearTables := .inl rfl

theorem calibrate : Statement .calibrate := .inl rfl

theorem openPass : Statement .openPass := .inl rfl

theorem rehearse : Statement .rehearse := .inl rfl

theorem closePass : Statement .closePass := .inl rfl

theorem badKind : Statement .badKind := .inl rfl

theorem replyFrame : Statement .replyFrame := .inl rfl

theorem alertFrame : Statement .alertFrame := .inl rfl

theorem reportFrame : Statement .reportFrame := .inl rfl

theorem flushTimeExpiry : Statement .flushTimeExpiry := .inl rfl

theorem uplinkFrameEnd : Statement .uplinkFrameEnd := .inl rfl

end Sys2Proof.Laws.Operands
end

