-- ==== Sys2Proof/Tests/Slice0.lean ====
section
/-! SUPPORT. Tests on small states: the well-formedness smoke test, the manual's worked examples, and for every statement with
hypotheses a state and operands that meet them, clause by clause. -/

open Sys2Proof Sys2Proof.Machine

namespace Sys2Proof.Tests

/-! ### Small states -/

/-- An item tag, class byte 0x30 (section 4.8). -/
def item (n : Nat) : TagCode := BitVec.ofNat 96 (0x30 * 2 ^ 88 + n)

/-- A marker tag under the default marker class. -/
def marker (x : SectionId) : TagCode := markerTag 0xE1 x

/-- A reference tag under the default reference class. -/
def reference (n : Nat) : TagCode := BitVec.ofNat 96 (0xE2 * 2 ^ 88 + n)

/-- A section record. -/
def sec (id : SectionId) (side : Side) (level : Nat) (st : SectionState) : Section :=
  ⟨id, side, level, 0, st, .unknown, false, false, false, false, none, []⟩

/-- A holdings record with key 10 times its number. -/
def holding (n : Nat) (home : SectionId) (status : ItemStatus) (mark : Mark) : Holding := ⟨item n, 10 * n, home, status, mark⟩

/-- A clean read entry of sweep 5. -/
def read (p : Port) (tag : TagCode) (raw : Nat) : ReadEntry := ⟨p, tag, raw, some 5, false, false, none⟩

/-- An OPEN sighting of item `n` with one candidate. -/
def sighting (slot n : Nat) (ref : Option Nat) (x : SectionId) (score : Nat) : Sighting :=
  ⟨slot, item n, ref, [⟨x, score, 150, 4⟩], 4, 480, none, 0, false⟩

/-- An open-section list entry. -/
def openSec (x : SectionId) (stage : CloseStage) : OpenSection := ⟨x, stage, ⟨0, 0, 0, 0, 0⟩, none⟩

/-- A running generator with the given count, its next start due. -/
def running (n : Nat) : GenState := ⟨n, .running, some 0⟩

/-- SCANNING at pass clock 500: port 2 faces the OPEN section 301, section 302 is OPEN and left at 50, 303 is UNVISITED. -/
def scan : State := { State.reset with
  tst :=
    ⟨[holding 1 301 .shelved .unseen, holding 2 301 .shelved .placed, holding 3 302 .reference .disposed, holding 4 303 .shelved .sighted],
      [sec 301 .left 3 .opened, { sec 302 .left 3 .opened with unfacedSince := some 50 }, sec 303 .left 3 .unvisited,
        sec 304 .left 3 .closed, sec 701 .right 3 .unvisited]⟩
  mfu := { Mfu.reset with ports := Mfu.reset.ports.set 2 ⟨some 301, 9, false, .reverse⟩ }
  sru := { Sru.reset with openList := [openSec 301 .faced, openSec 302 .quiet] }
  swg := { Swg.reset with genA := running 6, genB := running 6 }
  psc := { Psc.reset with state := .scanning, clock := 500 } }

/-- A state with one read waiting at its port. -/
def withRead (e : ReadEntry) (s : State) : State := { s with piq := s.piq.set e.port { s.piq[e.port] with queue := [e] } }

/-- A state with the given sighting table. -/
def withTable (table : List Sighting) (s : State) : State := { s with spe := { s.spe with table := table } }

/-- A state with one management frame waiting. -/
def withFrame (kind : Byte) (payload : List Byte) (s : State) : State := { s with ulp := { s.ulp with mgmt := [⟨kind, 7, payload⟩] } }

/-- A state in the given pass state. -/
def inState (x : PassState) (s : State) : State := { s with psc := { s.psc with state := x } }

/-- A state with `n` records in the report queue. -/
def withReports (n : Nat) (s : State) : State :=
  { s with ulp := { s.ulp with reports := List.replicate n ⟨.activity 3 5 2, 0⟩ } }

/-- A state with the given item of work in hand at SPE. -/
def working (w : Work) (s : State) : State := { s with spe := { s.spe with work := w } }

/-- A list of 96 items, the capacity of a placement list. -/
def fullList : List Item := List.replicate 96 ⟨none, item 9, none, 3, none, .firm⟩

/-- A state whose sections have the given placement list. -/
def withLists (list : List Item) (s : State) : State :=
  { s with tst := { s.tst with sections := s.tst.sections.map (fun y => { y with list := list }) } }


/-! ### Well-formed commands: one ill-formed term for each check -/

theorem test_frontEndFrame_without_bytes_is_refused : (Instr.frontEndFrameJudged 0 []).wf = false := by decide
theorem test_uplinkFrame_without_bytes_is_refused : (Instr.uplinkFrameJudged []).wf = false := by decide
theorem test_quietClose_of_no_section_id_is_refused :
    (Instr.quietClose 4096).wf = false ∧ (Instr.quietClose 4095).wf = true := by decide +kernel

/-! ### The manual's worked examples -/

/-- R192: over the nine bytes 0x31 to 0x39 the register ends at 0x29B1. -/
theorem test_crc_over_the_nine_digits : crc16 [0x31, 0x32, 0x33, 0x34, 0x35, 0x36, 0x37, 0x38, 0x39] = 0x29B1#16 := by decide +kernel

/-- Section 1.3, Stamp reconstruction, worked. -/
theorem test_stamp_reconstruction :
    rebuildSweep none 2 = none ∧ rebuildSweep (some 2) 2 = some 2 ∧ rebuildSweep (some 2) 254 = none ∧
    rebuildSweep (some 257) 255 = some 255 ∧ rebuildSweep (some 257) 1 = some 257 ∧ rebuildSweep (some 257) 253 = none ∧
    rebuildSweep (some 259) 0 = some 256 := by decide +kernel

/-- Section 1.4, Queue behaviour, worked: the last row for port 6, and for port 7 without the read SPE takes. -/
theorem test_queue_behaviour :
    let reads (n : Nat) (p : Port) (s : State) : State := (List.replicate n (read p (item 1) 200)).foldl State.arrive s
    let follows (b : Bool) (s : State) : State := { s with piq := s.piq.set 6 { s.piq[6] with follows := b } }
    let t := { follows true State.reset with spe := { Spe.reset with work := .waitPlace ⟨1, .unknown⟩ } }
    let u := qholdAssertStep (reads 1 6 (reads 3 7 (reads 34 6 t)))
    let v := reads 2 6 (follows false (reads 5 6 u))
    v.piq[6].queue.length = 2 ∧ v.piq[6].counters = ⟨34, 3, 5, 32⟩ ∧ v.piq[6].episode = false ∧
    v.piq[7].queue.length = 3 ∧ v.piq[7].counters = ⟨3, 0, 0, 0⟩ ∧ v.ulp.alerts = [.portOverflow 6] := by decide +kernel

/-- Section 1.2, Sweep timeline, INTERLEAVED: the A start of sweep 3 at 83 ms, A's period 25 ms. -/
theorem test_interleaved_start_with_period_25 :
    let s : State := { State.reset with
      params := { Params.default with periodA := 25, sweepMode := .interleaved }
      swg := { Swg.reset with runMode := .interleaved, genA := ⟨3, .running, some 83⟩, lastB := some 2 }
      ulp := { Ulp.reset with now := 83 } }
    let t := s.attemptStart .a
    t.swg.genA = ⟨4, .running, some 108⟩ ∧ t.swg.bStarts = [⟨95, 3, 12⟩] ∧
    t.links[(0 : Link)].sending = some ⟨3, 11⟩ ∧ t.links[(2 : Link)].sending = none := by decide +kernel

/-- Section 2.1, Conversion examples. -/
theorem test_conversion_examples :
    convert 0 1024 137 = 137 ∧ convert 45 1638 45 = 0 ∧ convert 45 1638 46 = 2 ∧ convert 127 4095 100 = 0 ∧
    convert 127 4095 128 = 4 ∧ convert 127 4095 200 = 255 ∧ convert (-128) 512 255 = 192 := by decide +kernel

/-- Section 2.5, Worked calibration: ports 0, 3, 4, 5, 6 and 7 of the table (their means given by sums of 16, 16, 15, 16 reads). -/
theorem test_worked_calibration :
    let port (ns nc fs fc : Nat) : Int × Nat × CalStatus :=
      let c := { ScuPort.reset with nearSum := ns, nearCount := nc, farSum := fs, farCount := fc }.outcome 16 200 80
      (c.offset, c.gain, c.status)
    port (140 * 16) 16 (20 * 16) 16 = (-60, 1024, .ok) ∧ port 2722 16 1421 15 = (45, 1638, .ok) ∧
    port (185 * 15) 15 (70 * 16) 16 = (-7, 1069, .ok) ∧ port (230 * 16) 16 (225 * 16) 16 = (127, 4095, .clamped) ∧
    port (146 * 7) 7 (61 * 14) 14 = (0, 1024, .failed) ∧ port (250 * 16) 16 (10 * 16) 16 = (-128, 512, .clamped) := by
  decide +kernel

/-- Section 4.8, Load 1: DUPLICATE, 3 stored, table count 3. -/
theorem test_load_sections_reports_the_duplicate :
    let r := storeBlock testSection [] [⟨210, 0, 4⟩, ⟨211, 0, 4⟩, ⟨630, 1, 4⟩, ⟨211, 0, 3⟩] 0
    (r.2.2, r.2.1, r.1.length) = (.duplicate, 3, 3) := by decide +kernel

/-- Section 4.8, Load 3: BAD-CLASS, 5 stored, table count 5. -/
theorem test_load_holdings_reports_the_class :
    let r := storeBlock (testHolding Params.default) []
      [⟨item 1, 100, 210, 1⟩, ⟨item 2, 105, 210, 3⟩, ⟨item 3, 200, 211, 2⟩, ⟨item 4, 300, 212, 1⟩, ⟨item 5, 400, 999, 1⟩,
        ⟨marker 6, 410, 212, 1⟩] 0
    (r.2.2, r.2.1, r.1.length) = (.badClass, 5, 5) := by decide +kernel

/-- Section 5.9, Worked scoring: the strengths of the four reads. -/
theorem test_worked_scoring_strengths :
    convert 45 1638 150 = 168 ∧ convert 30 1100 120 = 97 ∧ convert 45 1638 158 = 181 ∧ convert 45 1638 141 = 154 := by
  decide +kernel

/-- Section 5.9, Candidate replacement: the three reads, and the last two of them with Z PLACED in 211. -/
theorem test_candidate_replacement :
    let z (list : List Candidate) (p : Option (SectionId × Confidence)) : Sighting := ⟨0, item 1, none, list, 5, 0, p, 0, false⟩
    let c (x n : Nat) : Candidate := ⟨x, n, 0, 0⟩
    let r (x w : Nat) : ItemRead := ⟨item 1, x, w, 0, 0⟩
    (z [c 210 90, c 211 40, c 212 40] none).scored (r 213 35) = none ∧
    (z [c 210 90, c 211 40, c 212 40] none).scored (r 213 60) = some [c 210 90, c 211 40, c 213 60] ∧
    (z [c 210 90, c 211 40, c 213 60] none).scored (r 212 45) = some [c 210 90, c 213 60, c 212 45] ∧
    marginOf [c 210 90, c 213 60, c 212 45] = 30 ∧
    (z [c 210 90, c 211 40, c 212 40] (some (211, .firm))).scored (r 213 60) = some [c 210 90, c 211 40, c 213 60] ∧
    (z [c 210 90, c 211 40, c 213 60] (some (211, .firm))).scored (r 212 45) = none := by decide +kernel

/-- Section 5.9, A rocking cart: the first turn moves the item to 213, FIRM; the third freezes it in 212, AMBIGUOUS. -/
theorem test_rocking_cart :
    let y (a b : Nat) (x : SectionId) (n : Nat) : Sighting :=
      ⟨0, item 1, none, [⟨212, a, 0, 0⟩, ⟨630, 50, 0, 0⟩, ⟨213, b, 0, 0⟩], 9, 0, some (x, .firm), n, false⟩
    let s (e : Sighting) : State := withTable [e] { scan with
      tst := ⟨[], [sec 212 .left 4 .opened, sec 213 .left 4 .opened]⟩ }
    let t (e : Sighting) : List (Option (SectionId × Confidence) × Nat × Bool) :=
      ((s e).moveTest 0).spe.table.map (fun e => (e.placement, e.moves, e.frozen))
    t (y 700 800 212 0) = [(some (212, .firm), 0, false)] ∧ t (y 700 1000 212 0) = [(some (213, .firm), 1, false)] ∧
    t (y 1300 1600 212 2) = [(some (212, .ambiguous), 2, true)] := by decide +kernel

/-- Section 5.9, Eviction: the oldest OPEN entry in the lower slot. -/
theorem test_eviction_takes_the_oldest_open_entry :
    let e (slot t : Nat) (p : Option (SectionId × Confidence)) : Sighting := ⟨slot, item slot, none, [], 2, t, p, 0, false⟩
    (victimOf [e 3 2900 (some (1, .firm)), e 90 3020 none, e 95 3010 none, e 412 3010 none]).map Sighting.slot = some 95 := by
  decide +kernel

/-- Section 6.8, Worked order check, and the same items in a REVERSE section: f, d and a in the order of the list. -/
theorem test_worked_order_check :
    let list : List Item := [(100, 10), (102, 30), (105, 20), (109, 40), (110, 15), (116, 50)].map (fun x : Nat × Nat =>
      ⟨none, item x.1, some 0, x.1, some x.2, .firm⟩)
    orderCheck .forward 3 list = [5] ∧ (orderCheck .reverse 3 list) = [6, 4, 1] := by decide +kernel

/-- Section 7.9, Worked pass: the walk counts twelve expected records, one of them UNMAPPED. -/
theorem test_worked_pass_opening :
    let h (n : Nat) (home : SectionId) (st : ItemStatus) : Holding := ⟨item n, n, home, st, .unseen⟩
    let s : State := { State.reset with
      psc := { Psc.reset with state := .preparing }
      ulp := { Ulp.reset with inHand := some (.walk 0x29 24), paused := true }
      tst := ⟨[h 0 301 .shelved, h 1 301 .shelved, h 2 302 .shelved, h 3 302 .onLoan, h 4 302 .shelved, h 5 303 .reference,
          h 6 303 .shelved, h 7 304 .shelved, h 8 304 .shelved, h 9 701 .shelved, h 10 701 .shelved, h 11 702 .shelved,
          h 12 888 .shelved, h 13 702 .withdrawn],
        [sec 301 .left 3 .unvisited, sec 302 .left 3 .unvisited, sec 303 .left 3 .unvisited, sec 304 .left 3 .unvisited,
          sec 701 .right 3 .unvisited, sec 702 .right 3 .unvisited]⟩ }
    let t := preparingWalkEndStep s
    t.tst.sections.map Section.expected = [2, 2, 2, 2, 2, 1] ∧ t.psc.counters = ⟨12, 1, 0, 0, 0⟩ ∧
    t.ulp.replies = [⟨24, 0x29, .done, [0, 0, 0, 12, 0, 0, 0, 1]⟩] ∧ t.psc.state = .scanning := by decide +kernel

/-- Section 8.10, step 13: the REPORT frame that takes 323 records to 315 releases HOLD, and the generator starts at once. -/
theorem test_report_frame_releases_hold :
    let s := withReports 323 { scan with swg := { scan.swg with genA := ⟨6, .held, some 900⟩, genB := ⟨6, .stopped, none⟩ } }
    let t := reportFrameStep { s with ulp := { s.ulp with hold := true, now := 700 } }
    t.ulp.reports.length = 315 ∧ t.ulp.hold = false ∧ t.swg.genA = ⟨7, .running, some 720⟩ := by decide +kernel

/-- Section 9.7, Worked exchange sequence, tags 21 to 23. -/
theorem test_worked_exchange_sequence :
    let ask (p : List Byte) (s : State) : State := setParamStep (withFrame 0x21 p { s with ulp := { s.ulp with replies := [] } })
    let s1 := ask [21, 0, 0, 0, 1, 44] State.reset
    let s2 := ask [22, 0, 0, 0, 1, 144] s1
    let s3 := ask [8, 0, 0, 0, 0, 0xE2] s2
    s1.ulp.replies = [⟨7, 0x21, .done, [21, 0, 0, 0, 1, 44, 0, 0, 1, 28]⟩] ∧
    s2.ulp.replies = [⟨7, 0x21, .clamped, [22, 0, 0, 0, 1, 28]⟩] ∧ s3.ulp.replies = [⟨7, 0x21, .badParam, []⟩] ∧
    s3.params.lowMark = 284 ∧ s3.params.markerClass = 0xE1 := by decide +kernel

/-- Section 10.1, Activity, worked: the fourth empty window at 7,000 makes the port SILENT and takes its facing. -/
theorem test_fourth_empty_window_is_silence :
    let s : State := { scan with
      psc := { scan.psc with clock := 7000 }
      pam := { window := some ⟨6000, 7000⟩, ports := Pam.reset.ports.set 2 ⟨0, 0, false, 3, false⟩ } }
    let t := activityWindowEndStep s
    t.pam.ports[(2 : Port)] = ⟨0, 0, false, 4, true⟩ ∧ t.mfu.ports[(2 : Port)].facing = none ∧
    t.ulp.alerts = [.portSilent 2] ∧ t.pam.window = some ⟨7000, 8000⟩ ∧
    (findSection t.tst.sections 301).map Section.unfacedSince = some (some 7000) := by decide +kernel

/-- Section 10.3, Rehearsal, worked: the presentation lists of 301, 302 and 701. -/
theorem test_rehearsal_presentation_lists :
    let h (n : Nat) (home : SectionId) (st : ItemStatus) : Holding := ⟨item n, n, home, st, .unseen⟩
    let tst : Tst :=
      ⟨[h 10 301 .shelved, h 20 301 .shelved, h 30 301 .shelved, h 40 302 .shelved, h 45 302 .onLoan, h 50 302 .shelved,
          h 60 701 .shelved, h 70 701 .shelved],
        [sec 301 .left 3 .unvisited, sec 302 .left 3 .unvisited, sec 701 .right 3 .unvisited]⟩
    presentationList tst 3 301 = [0, 1] ∧ presentationList tst 3 302 = [2, 3, 5] ∧ presentationList tst 3 701 = [7] := by
  decide +kernel

/-- Section 11.5, Packing, worked: seven records in 997 bytes; with a third PASS-END the frame ends with six. -/
theorem test_packing :
    let q (r : Record) : QueuedRecord := ⟨r, 0⟩
    let f := q (.finding ⟨.found, item 1, none, none, none⟩)
    let e := q (.passEnd (State.reset.passEnd .aborted))
    let y := q (.summary ⟨301, 0, Tallies.zero, false, false, false, false, .unknown⟩)
    (([y, f, f, f, e, e, f].map (fun r => r.record.size)).sum + 1 = 997 ∧ reportCount [y, f, f, f, e, e, f] = 7) ∧
    reportCount [y, f, f, f, e, e, e] = 6 := by decide +kernel

/-! ### Witnesses: states and operands that meet the hypotheses of the statements, one line for each clause -/

/-- `AssertedResetLineHoldsTheDevice`. -/
theorem witness_AssertedResetLineHoldsTheDevice :
    let s := { scan with resetLine := true }
    s.resetLine = true ∧ s.pending = [] ∧
    Instr.readTake ∉ [Instr.powerOn, .resetLine, .resetLineRelease, .qholdAssert, .qholdRelease] := by decide +kernel

/-- `QuietStepIsOneMillisecond`: IDLE, SETTLING with the pass clock at its end, and TALLYING with a finding that waits. -/
theorem witness_QuietStepIsOneMillisecond (s : State)
    (h : s ∈ [State.reset,
        { State.reset with psc := { Psc.reset with state := .settling, clock := 4294967295 } },
        { State.reset with psc := { Psc.reset with state := .tallying, tallyWait := some ⟨.missing, item 1, 301⟩ } }]) :
    s.resetLine = false ∧ s.pending = [] ∧ s.NothingDue ∧ s.psc.state ≠ .preparing ∧
    (s.psc.state = .tallying → s.psc.tallyWait ≠ none) := by
  simp only [List.mem_cons, List.not_mem_nil, or_false] at h
  obtain rfl | rfl | rfl := h <;>
    exact ⟨rfl, rfl, ⟨fun g => by cases g <;> exact .inl rfl, by decide +kernel⟩, by decide +kernel⟩

/-- `QholdLineEmptiesTheFollowingPorts`: a following port with a full queue and a running window; the line already asserted. -/
theorem witness_QholdLineEmptiesTheFollowingPorts :
    let s : State := { scan with
      piq := scan.piq.set 2 { PortQueue.reset with follows := true, queue := List.replicate 32 (read 2 (item 1) 200) }
      pam := { Pam.reset with window := some ⟨0, 1000⟩ } }
    s.resetLine = false ∧ s.qhold = false ∧ s.piq[(2 : Port)].follows = true ∧ s.pam.window ≠ none ∧
    { s with qhold := true }.qhold = true := by decide +kernel

/-- `ArrivalFollowsTheFourCases`: MUTED, held, a queue of 32 and a queue of 31. -/
theorem witness_ArrivalFollowsTheFourCases :
    let q (mode : PortMode) (qhold follows : Bool) (n : Nat) : PortQueue × Bool :=
      let s : State := { scan with
        qhold := qhold
        piq := scan.piq.set 2 ⟨List.replicate n (read 2 (item 1) 200), mode, follows, false, ⟨0, 0, 0, 0⟩⟩ }
      (s.piq[(2 : Port)], s.qhold)
    (q .muted true true 0).1.mode = .muted ∧
    ((q .active true true 0).1.mode = .active ∧ (q .active true true 0).2 = true ∧ (q .active true true 0).1.follows = true) ∧
    ((q .active true false 32).1.mode = .active ∧
      ¬((q .active true false 32).2 = true ∧ (q .active true false 32).1.follows = true) ∧
      32 ≤ (q .active true false 32).1.queue.length) ∧
    (q .active false true 31).1.mode = .active ∧
      ¬((q .active false true 31).2 = true ∧ (q .active false true 31).1.follows = true) ∧
      (q .active false true 31).1.queue.length < 32 := by decide +kernel

/-- A READ frame of link 0 and port 2, in full, and the bytes after its sync byte. -/
def readFrame : List Byte := wireBytes 0x10 0 (2 :: (tagBytes (item 1) ++ [200, 5]))

/-- `FrontEndFramesAreJudged`: bytes without a sync byte, lengths 18 and 20, a frame with a bad CRC, a good one. -/
theorem witness_FrontEndFramesAreJudged :
    let good (got : List Byte) : Prop := got.getD 2 0 = 0x10#8 ∧ natOf (got.drop 19) = (crc16 (got.take 19)).toNat
    let got := readFrame.drop 1
    let spoilt := got.take 20 ++ [(got.getD 20 0) ^^^ 1]
    scan.resetLine = false ∧ scan.links[(0 : Link)].rx = .hunting ∧ 0xA5#8 ∉ [0x10#8, 0x00#8] ∧
    (0x00#8).toNat * 256 + (0x12#8).toNat ≠ 19 ∧ (0x00#8).toNat * 256 + (0x14#8).toNat ≠ 19 ∧
    (spoilt.length = 21 ∧ natOf (spoilt.take 2) = 19 ∧ ¬good spoilt) ∧
    (got.length = 21 ∧ natOf (got.take 2) = 19 ∧ good got) ∧ scan.psc.source = .frontEnds ∧
    { scan with psc := { scan.psc with source := .rehearsal } }.psc.source = .rehearsal := by decide +kernel

/-- `FrontEndLinksAreIndependent`. -/
theorem witness_FrontEndLinksAreIndependent : ∃ t, exec (.frontEndFrameJudged 0 readFrame) scan = .next t := ⟨_, rfl⟩

/-- `DrivingGeneratorsAndLatestSweeps`: each mode, assignment and driver. -/
theorem witness_DrivingGeneratorsAndLatestSweeps :
    let w (mode : SweepMode) (left : Assign) : Swg := { Swg.reset with runMode := mode, runLeft := left }
    ((w .free .a).runMode = .free ∧ (w .free .a).assign .left = .a ∧ (w .free .a).driver .left = some .a) ∧
    ((w .free .b).assign .left = .b ∧ (w .free .b).driver .left = some .b) ∧
    ((w .interleaved .b).runMode = .interleaved ∧ (w .interleaved .b).assign .left ≠ .off) ∧
    ((w .interleaved .b).driver .left ≠ none ∧ (w .interleaved .b).driver .right ≠ none) ∧
    ((w .interleaved .off).assign .left = .off ∧ (w .interleaved .off).driver .left = none) := by decide +kernel

/-- `SweepStampsAreRebuilt`: the greatest echo byte, and the table's read 7. -/
theorem witness_SweepStampsAreRebuilt : 255 < 256 ∧ (0 < 256 ∧ rebuildSweep (some 259) 0 = some 256) := by decide +kernel

/-- `LinkTransmittersTakeSweepFrames`: an idle link, a busy one, and one with a frame waiting. -/
theorem witness_LinkTransmittersTakeSweepFrames :
    let k : LinkState := { LinkState.reset with sending := some ⟨1, 19⟩ }
    let s := { scan with links := scan.links.set 0 { k with waiting := some ⟨2, 19⟩ } }
    LinkState.reset.sending = none ∧ (k.sending ≠ none ∧ k.waiting = none) ∧
    (s.links[(0 : Link)].sending ≠ none ∧ s.links[(0 : Link)].waiting ≠ none) ∧ s.resetLine = false ∧
    s.links[(1 : Link)].sending = none := by decide +kernel

/-- `FreeSweepStart`: the last sweep number a generator gives, 16,777,214, in SCANNING and in the window of a calibration. -/
theorem witness_FreeSweepStart :
    let s : State := { scan with swg := { scan.swg with genA := running 16777214 } }
    let c : State := { State.reset with
      psc := { Psc.reset with state := .calibrating }, swg := { Swg.reset with genA := running 15 } }
    (s.swg.runMode = .free ∧ (s.swg.gen .a).run = .running ∧ (s.swg.gen .a).count < 16777215 ∧ ¬s.WindowEnded .a ∧
      s.StartFallsDue .a) ∧
    (c.swg.runMode = .free ∧ (c.swg.gen .a).run = .running ∧ (c.swg.gen .a).count < 16777215 ∧ ¬c.WindowEnded .a ∧
      c.StartFallsDue .a) := by decide +kernel

/-- An INTERLEAVED run with the B start of sweep 5 due, which falls before that of sweep 4. -/
def interleaved : State := { scan with
  swg := { scan.swg with runMode := .interleaved, genB := ⟨0, .stopped, none⟩, bStarts := [⟨10, 4, 99⟩, ⟨0, 5, 9⟩] } }

/-- `InterleavedStarts`: an A start, and a B start that is not the one scheduled first. -/
theorem witness_InterleavedStarts :
    let s := interleaved
    (s.swg.runMode = .interleaved ∧ s.swg.genA.run = .running ∧ s.swg.genA.count < 16777215 ∧ ¬s.WindowEnded .a ∧
      s.StartFallsDue .a) ∧
    s.resetLine = false ∧ s.swg.bStarts = [⟨10, 4, 99⟩] ++ ⟨0, 5, 9⟩ :: [] ∧ (∀ c ∈ [(⟨10, 4, 99⟩ : BStart)], 0 < c.due) ∧
    (∀ c ∈ ([] : List BStart), (0 : Nat) ≤ c.due) ∧ 0 ≤ s.ulp.now := by
  decide +kernel

/-- `WithheldStartsAndLimits`: a window ended in each mode, with no B start, with that of the last sweep and with that of an older
sweep alone; the sweep limit; HELD; the clock limit. -/
theorem witness_WithheldStartsAndLimits :
    let cal (mode : SweepMode) (n : Nat) (b : List BStart) : State := { State.reset with
      psc := { Psc.reset with state := .calibrating }
      swg := { Swg.reset with runMode := mode, genA := running n, bStarts := b } }
    let held : State := { scan with swg := { scan.swg with genA := ⟨6, .held, some 0⟩ } }
    let limit : State := { scan with swg := { scan.swg with genA := running 16777215 } }
    let clock : State := { scan with psc := { scan.psc with clock := 4294967295 } }
    ((cal .free 16 []).WindowEnded .a ∧ (cal .free 16 []).swg.runMode = .free ∧ (cal .free 16 []).StartFallsDue .a) ∧
    (∀ b ∈ [[], [⟨10, 16, 9⟩]], (cal .interleaved 18 b).WindowEnded .a ∧
      ¬∃ x ∈ (cal .interleaved 18 b).swg.bStarts, x.sweep + 1 = (cal .interleaved 18 b).swg.genA.count) ∧
    ((cal .interleaved 18 [⟨10, 17, 9⟩]).WindowEnded .a ∧ (cal .interleaved 18 [⟨10, 17, 9⟩]).swg.runMode = .interleaved ∧
      (∃ x ∈ (cal .interleaved 18 [⟨10, 17, 9⟩]).swg.bStarts, x.sweep + 1 = (cal .interleaved 18 [⟨10, 17, 9⟩]).swg.genA.count) ∧
      (cal .interleaved 18 [⟨10, 17, 9⟩]).StartFallsDue .a) ∧
    (¬limit.WindowEnded .a ∧ 16777215 ≤ (limit.swg.gen .a).count) ∧
    (¬held.WindowEnded .a ∧ (held.swg.gen .a).count < 16777215 ∧ (held.swg.gen .a).run = .held) ∧
    ((cal .free 0 []).swg.drives .a = true ∧ (cal .interleaved 0 []).swg.drives .b = false) ∧
    (clock.resetLine = false ∧ clock.psc.state = .scanning ∧ clock.psc.clock = 4294967295) := by decide +kernel

/-- A rehearsal that presents section 301, with two records in its list and a pace of 4, so a span of 4. -/
def presenting (k : Nat) : State := { scan with
  psc := { scan.psc with source := .rehearsal }, rhg := ⟨.presenting, some 4, some 0, 0, some 0, [0, 1], k⟩ }

/-- `RehearsalPresents`: IDLE, WAITING, the marker, both reads, a sweep above n, the end of the span, another side; the next
section found, and none left. -/
theorem witness_RehearsalPresents :
    let s := presenting
    let y := sec 301 .left 3 .opened
    scan.rhg.run = .idle ∧ { scan with rhg := { scan.rhg with run := .waiting } }.rhg.run = .waiting ∧
    (∀ k ∈ [0, 1, 2, 3], (s k).rhg.run = .presenting ∧ (s k).rhg.current = some 0 ∧ (s k).tst.sections[0]? = some y) ∧
    (y.side ∉ [Side.right] ∧ y.side ∈ [Side.left]) ∧
    (∀ k ∈ [0, 1, 2], k + 1 < max 4 (2 + 2)) ∧ (s 1).rhg.list[0]? = some 0 ∧ (s 2).rhg.list[1]? = some 1 ∧
    ((s 1).tst.holdings[0]?).isSome ∧ ((s 2).tst.holdings[1]?).isSome ∧ 3 + 1 = max 4 (2 + 2) ∧
    ((s 3).rhgTake 1).rhg.current = some 1 ∧ (((s 3).rhgTake 1).tst.sections[1]?).isSome ∧ ((s 3).rhgTake 5).rhg.current = none ∧
    (∀ x ∈ (s 3).tst.sections.drop 5, (s 3).swg.driver x.side = none) ∧
    ((s 3).tst.sections[1]?.map (fun x => (s 3).swg.driver x.side)) = some (some .a) := by decide +kernel

/-- R188: with a displacement of 0 nothing is numbered; with one of 2 the numbering reaches every expected record. -/
theorem test_only_a_displacement_numbers_the_records :
    let s (d : Nat) : State := { presenting 3 with rhg := { (presenting 3).rhg with displacement := some d } }
    ((s 0).rhgTake 1).rhg.ordinal = 0 ∧
    ((s 2).rhgTake 1).rhg.ordinal = (s 2).tst.holdings.countP (fun h => h.status.isExpected) ∧
    0 < ((s 2).rhgTake 1).rhg.ordinal := by decide +kernel

/-- `PresentationLists`: a displacement to the next section of the run, one that finds none, an absent home, no displacement; two
tables that differ in a mark and a state alone. -/
theorem witness_PresentationLists :
    let l := [sec 301 .left 3 .unvisited, sec 701 .right 3 .unvisited, sec 302 .left 3 .unvisited]
    findSection l 999 = none ∧ (findSection l 301 ≠ none ∧ ¬3 ∣ 2) ∧
    (findSection l 301 = some (sec 301 .left 3 .unvisited) ∧ sectionIndex l 301 = some 0 ∧ 3 ∣ 3 ∧
      l[2]? = some (sec 302 .left 3 .unvisited)) ∧
    (sectionIndex l 302 = some 2 ∧ l.length = 3) ∧
    ([holding 1 301 .shelved .unseen].map Holding.loaded = [holding 1 301 .shelved .placed].map Holding.loaded ∧
      [sec 301 .left 3 .unvisited].map Section.loaded = [sec 301 .left 3 .opened].map Section.loaded) := by decide +kernel

/-- `StrengthConversion`: a raw strength at the offset and one above it, the ends of the ranges, and steps on an empty queue, of a
command and of a CALIBRATION_COMPLETE outside CALIBRATING. -/
theorem witness_StrengthConversion :
    (((45 : Nat) : Int) ≤ 45 ∧ (45 : Int) < (46 : Nat) ∧ (255 : Nat) ≤ 255 ∧ (-128 : Int) ≤ -128 ∧ (4095 : Nat) ≤ 4095 ∧
      (256 : Nat) ≤ 256) ∧
    ∀ l ∈ [[], [.restart 7], [Instr.calibrationComplete]],
      let s : State := { scan with pending := l }
      (∃ t, step s = .next t) ∧ s.pending.head? ≠ some .powerOn ∧ s.pending.head? ≠ some .resetLine ∧
      (s.pending.head? = some .calibrationComplete → s.psc.state ≠ .calibrating) := by
  refine ⟨by decide, fun l hl => ⟨?_, ?_⟩⟩
  · simp only [List.mem_cons, List.not_mem_nil, or_false] at hl
    obtain rfl | rfl | rfl := hl <;> exact ⟨_, rfl⟩
  · simp only [List.mem_cons, List.not_mem_nil, or_false] at hl
    obtain rfl | rfl | rfl := hl <;> decide

/-- `CalibrationOutcome`: a count one below half the window; counts at half, with FAR below NEAR; the means of port 3. -/
theorem witness_CalibrationOutcome :
    (2 : Nat) ≤ 16 ∧ (7 : Nat) < 16 / 2 ∧ 16 / 2 ≤ (8 : Nat) ∧
    (16 / 2 ≤ (16 : Nat) ∧ 16 / 2 ≤ (15 : Nat) ∧ (1421 + 15 / 2) / 15 < (2722 + 16 / 2) / 16) ∧
    max 256 (min 4095 (((200 - 80) * 1024 + 75 / 2) / 75)) = ((200 - 80) * 1024 + 75 / 2) / 75 ∧
    max (-128) (min 127 ((95 : Int) - (((80 * 1024 + 1638 / 2) / 1638 : Nat)))) = (95 : Int) - ((80 * 1024 + 1638 / 2) / 1638 : Nat) ∧
    80 ≤ 255 := by decide +kernel

/-- `CalibrationCompletes`: a run ready to end, and one with a read left. -/
theorem witness_CalibrationCompletes :
    let ready (s : State) : Prop := s.psc.state = .calibrating ∧ s.swg.genA.run = .stopped ∧ s.swg.genB.run = .stopped ∧
      s.spe.work = .idle ∧ ∀ p : Port, s.piq[p].queue = []
    let s := inState .calibrating State.reset
    let t := withRead (read 15 (item 1) 200) s
    (s.resetLine = false ∧ ready s) ∧ t.resetLine = false ∧ ¬ready t := by decide +kernel

/-- The payload of a CALIBRATE frame. -/
def calTags (near far : TagCode) : List Byte := tagBytes near ++ tagBytes far

/-- `CalibrateIsTested`: a wrong shape, a wrong state, the same code twice, a run that begins, a full report queue. -/
theorem witness_CalibrateIsTested :
    let s (near far : TagCode) : State := withFrame 0x28 (calTags near far) State.reset
    let f (near far : TagCode) : MgmtFrame := ⟨0x28, 7, calTags near far⟩
    let class_ (f : MgmtFrame) : Bool := tagClass (tagOf (f.payload.take 12)) == 0xE2 && tagClass (tagOf (f.payload.drop 12)) == 0xE2
    let a := reference 1
    let b := reference 2
    ((s a b).AtHead (f a b) [] ∧ (f a b).kind = 0x28#8 ∧ (s a b).ulp.reports.length < 512 ∧ (f a b).payload.length = 24 ∧
      (s a b).psc.state = .idle ∧ class_ (f a b) = true ∧ a ≠ b ∧ tagOf ((f a b).payload.take 12) = a ∧
      tagOf ((f a b).payload.drop 12) = b ∧ (s a b).params.tFar + 16 ≤ (s a b).params.tNear) ∧
    ((s a a).AtHead (f a a) [] ∧ tagOf ((f a a).payload.take 12) = tagOf ((f a a).payload.drop 12)) ∧
    ((withFrame 0x28 [1] State.reset).AtHead ⟨0x28, 7, [1]⟩ [] ∧ [(1 : Byte)].length ≠ 24) ∧
    ((withFrame 0x28 (calTags a b) scan).AtHead (f a b) [] ∧ scan.psc.state ≠ .idle) ∧
    ((withReports 512 (s a b)).AtHead (f a b) [] ∧ 512 ≤ (withReports 512 (s a b)).ulp.reports.length) := by decide +kernel

/-- A calibration run with NEAR and FAR stored, the port at `c`, and the read waiting. -/
def calibrating (c : ScuPort) (e : ReadEntry) : State × ReadEntry :=
  (withRead e { State.reset with
    psc := { Psc.reset with state := .calibrating }
    swg := { Swg.reset with genA := running 6 }
    scu := { Scu.reset with nearTag := some (reference 1), farTag := some (reference 2), ports := Scu.reset.ports.set e.port c } }, e)

/-- The read carries no tag that drops it, and its side is driven. -/
abbrev Usable (s : State) (e : ReadEntry) : Prop :=
  e.crcFail = false ∧ e.collision = false ∧ e.stamp = none ∧ s.swg.driver (portSide e.port) ≠ none

/-- SPE takes the read while CALIBRATING, and it is not stale. -/
abbrev TakenInRun (s : State) (e : ReadEntry) : Prop :=
  s.NextRead e [] ∧ s.psc.state = .calibrating ∧ s.spe.stale[e.port] = 0

/-- `CalibrationReads`: an unusable read, a carried one, the other classes and codes, NEAR and FAR below and at 65,535. -/
theorem witness_CalibrationReads :
    let last : ScuPort := { ScuPort.reset with nearCount := 65534, farCount := 65534 }
    let full : ScuPort := { ScuPort.reset with nearCount := 65535, farCount := 65535 }
    (∀ x ∈ [calibrating last { read 2 (item 1) 200 with crcFail := true }], TakenInRun x.1 x.2 ∧ ¬Usable x.1 x.2) ∧
    (∀ x ∈ [calibrating { last with carryOver := 1 } (read 2 (item 1) 200)],
      TakenInRun x.1 x.2 ∧ Usable x.1 x.2 ∧ 0 < x.1.scu.ports[x.2.port].carryOver) ∧
    (∀ x ∈ [calibrating last (read 2 (item 1) 200)], TakenInRun x.1 x.2 ∧ Usable x.1 x.2 ∧
      x.1.scu.ports[x.2.port].carryOver = 0 ∧ tagClass x.2.tag ≠ x.1.params.referenceClass) ∧
    (∀ x ∈ [calibrating last (read 2 (reference 1) 200), calibrating full (read 2 (reference 1) 200)],
      TakenInRun x.1 x.2 ∧ Usable x.1 x.2 ∧ x.1.scu.ports[x.2.port].carryOver = 0 ∧
      tagClass x.2.tag = x.1.params.referenceClass ∧ x.1.scu.nearTag = some x.2.tag) ∧
    (∀ x ∈ [calibrating last (read 2 (reference 2) 200), calibrating full (read 2 (reference 2) 200)],
      TakenInRun x.1 x.2 ∧ Usable x.1 x.2 ∧ x.1.scu.ports[x.2.port].carryOver = 0 ∧
      tagClass x.2.tag = x.1.params.referenceClass ∧ x.1.scu.nearTag ≠ some x.2.tag ∧ x.1.scu.farTag = some x.2.tag) ∧
    (∀ x ∈ [calibrating last (read 2 (reference 3) 200)], TakenInRun x.1 x.2 ∧ Usable x.1 x.2 ∧
      x.1.scu.ports[x.2.port].carryOver = 0 ∧ tagClass x.2.tag = x.1.params.referenceClass ∧
      x.1.scu.nearTag ≠ some x.2.tag ∧ x.1.scu.farTag ≠ some x.2.tag) := by
  intro last full
  refine ⟨?_, ?_, ?_, ?_, ?_, ?_⟩ <;> decide +kernel

/-- A state with a read waiting, and the read. -/
def takes (s : State) (e : ReadEntry) : State × ReadEntry := (withRead e s, e)

/-- `scan` with port 2 facing `x`. -/
def facing (x : Option SectionId) (transit : Nat) : State :=
  { scan with mfu := { scan.mfu with ports := scan.mfu.ports.set 2 ⟨x, transit, false, .reverse⟩ } }

/-- `DroppedReadsAreCounted`: by the pass state, stale, error tag, LATE, SETTLE, an undriven side, REFERENCE, FAINT at the read
floor, NO-FACING and REVISIT one above it, RESIGHT. -/
theorem witness_DroppedReadsAreCounted :
    let e := read 2 (item 1) 200
    let stale : State := { scan with spe := { scan.spe with stale := scan.spe.stale.set 2 1 } }
    let off : State := { scan with swg := { scan.swg with runLeft := .off } }
    (∀ x ∈ [takes (inState .idle scan) e, takes (inState .preparing scan) e, takes (inState .tallying scan) e,
        takes stale e, takes (inState .settling stale) e], x.1.NextRead x.2 []) ∧
    (∀ x ∈ [takes scan { e with crcFail := true }, takes scan { e with collision := true }],
      x.1.NextRead x.2 [] ∧ (x.1.psc.state = .scanning ∧ x.1.spe.stale[x.2.port] = 0) ∧
      (x.2.crcFail = true ∨ x.2.collision = true)) ∧
    (∀ x ∈ [takes scan { e with stamp := some .late }, takes scan { e with stamp := some .settle }],
      x.1.NextRead x.2 [] ∧ x.2.crcFail = false ∧ x.2.collision = false ∧ x.2.stamp ≠ none) ∧
    (∀ x ∈ [takes off e], x.1.NextRead x.2 [] ∧ x.2.stamp = none ∧ x.1.swg.driver (portSide x.2.port) = none) ∧
    (∀ x ∈ [takes scan (read 2 (reference 1) 200)], x.1.NextRead x.2 [] ∧ x.1.Admits x.2 ∧
      tagClass x.2.tag ≠ x.1.params.markerClass ∧ tagClass x.2.tag = x.1.params.referenceClass) ∧
    (∀ x ∈ [takes scan (read 2 (item 1) 40)], x.1.NextRead x.2 [] ∧ x.1.Admits x.2 ∧ x.1.strength x.2 ≤ x.1.params.readFloor) ∧
    (∀ x ∈ [takes (facing none 0) (read 2 (item 1) 41)], x.1.NextRead x.2 [] ∧ x.1.Admits x.2 ∧
      x.1.params.readFloor < x.1.strength x.2 ∧ x.1.mfu.ports[x.2.port].facing = none) ∧
    (∀ x ∈ [takes (facing (some 304) 0) (read 2 (item 1) 41)], x.1.NextRead x.2 [] ∧ x.1.Admits x.2 ∧
      x.1.params.readFloor < x.1.strength x.2 ∧ x.1.mfu.ports[x.2.port].facing = some 304 ∧ x.1.sectionOpen 304 = false) ∧
    (∀ x ∈ [takes scan (read 2 (item 3) 200)], x.1.NextRead x.2 [] ∧ x.1.Weighs x.2 301 ∧
      findHolding x.1.tst.holdings x.2.tag = some 2 ∧ x.1.tst.holdings[2]?.map Holding.mark = some .disposed) := by
  intro e stale off
  refine ⟨?_, ?_, ?_, ?_, ?_, ?_, ?_, ?_, ?_⟩ <;> decide +kernel

/-- `MarkersMoveFacings`: one below the threshold, an unknown section, another side; the section faced, a first facing, and a
change from a stay of 9 sweeps past an UNVISITED section. -/
theorem witness_MarkersMoveFacings :
    let s : State := { facing (some 301) 9 with tst := { scan.tst with sections :=
      [sec 301 .left 3 .opened, sec 305 .left 3 .unvisited, sec 303 .left 3 .unvisited, sec 701 .right 3 .unvisited] } }
    (∀ x ∈ [takes s (read 2 (marker 303) 119), takes s (read 2 (marker 999) 120), takes s (read 2 (marker 701) 120)],
      x.1.NextRead x.2 [] ∧ x.1.Admits x.2 ∧ tagClass x.2.tag = x.1.params.markerClass) ∧
    (∀ x ∈ [takes s (read 2 (marker 303) 119)], x.1.strength x.2 < x.1.params.markerThreshold) ∧
    (∀ x ∈ [takes s (read 2 (marker 999) 120)], x.1.params.markerThreshold ≤ x.1.strength x.2 ∧
      findSection x.1.tst.sections (tagSection x.2.tag) = none) ∧
    (∀ x ∈ [takes s (read 2 (marker 701) 120)], findSection x.1.tst.sections (tagSection x.2.tag) = some (sec 701 .right 3 .unvisited) ∧
      Side.right ≠ portSide x.2.port) ∧
    (∀ x ∈ [takes s (read 2 (marker 301) 120)], x.1.NextRead x.2 [] ∧ x.1.Accepts x.2 (sec 301 .left 3 .opened) ∧
      x.1.mfu.ports[x.2.port].facing = some 301) ∧
    (∀ x ∈ [takes (facing none 0) (read 2 (marker 303) 120)], x.1.NextRead x.2 [] ∧ x.1.Accepts x.2 (sec 303 .left 3 .unvisited) ∧
      x.1.mfu.ports[x.2.port].facing = none) ∧
    (∀ x ∈ [takes s (read 2 (marker 303) 120)], x.1.NextRead x.2 [] ∧ x.1.Accepts x.2 (sec 303 .left 3 .unvisited) ∧
      x.1.mfu.ports[x.2.port].facing = some 301 ∧ 301 ≠ 303 ∧ sectionIndex x.1.tst.sections 301 = some 0 ∧
      sectionIndex x.1.tst.sections 303 = some 2) := by
  intro s
  refine ⟨?_, ?_, ?_, ?_, ?_, ?_, ?_⟩ <;> decide +kernel

/-- A state whose open-section list has `n` entries of the given stage. -/
def openList (n : Nat) (stage : CloseStage) : State :=
  { scan with sru := { scan.sru with openList := (List.range n).map (fun k => openSec (1000 + k) stage) } }

/-- `SectionsLeftAndEntered`: OPEN, CLOSED and UNVISITED sections, an open-section list of 31 and of 32, all CLOSING or not. -/
theorem witness_SectionsLeftAndEntered :
    findSection scan.tst.sections 301 = some (sec 301 .left 3 .opened) ∧
    findSection scan.tst.sections 304 = some (sec 304 .left 3 .closed) ∧
    findSection scan.tst.sections 303 = some (sec 303 .left 3 .unvisited) ∧
    (openList 31 .faced).sru.openList.length < 32 ∧
    (32 ≤ (openList 32 .closing).sru.openList.length ∧ ∀ o ∈ (openList 32 .closing).sru.openList, o.stage = .closing) ∧
    (32 ≤ (openList 32 .faced).sru.openList.length ∧
      (openList 32 .faced).sru.openList = [] ++ openSec 1000 .faced :: (openList 32 .faced).sru.openList.drop 1) := by
  refine ⟨?_, ?_, ?_, ?_, ?_, ?_⟩ <;> decide +kernel

/-- `NewSightings`: an item read that makes an entry, and a table with slot 1 free. -/
theorem witness_NewSightings :
    (∀ x ∈ [takes (withTable [sighting 0 2 (some 1) 301 128] scan) (read 2 (item 1) 200)],
      x.1.NextRead x.2 [] ∧ x.1.Weighs x.2 301 ∧ x.1.disposed (findHolding x.1.tst.holdings x.2.tag) = false ∧
      ∀ i ∈ x.1.spe.table, i.tag ≠ x.2.tag) ∧
    List.map Sighting.slot [sighting 0 1 none 301 128] = List.range 1 ∧ 1 < (sighting 2 2 none 301 128).slot ∧
    (withTable ([sighting 0 1 none 301 128] ++ [sighting 2 2 none 301 128]) scan).spe.table.length < 2048 := by
  refine ⟨?_, ?_, ?_, ?_⟩ <;> decide +kernel

theorem withTable_table (table : List Sighting) (s : State) : (withTable table s).spe.table = table := rfl
theorem withTable_work (table : List Sighting) (s : State) : (withTable table s).spe.work = s.spe.work := rfl

/-- `NewSightings`: a full table whose oldest entry stands in slot 0, all OPEN or all PLACED. -/
theorem witness_NewSightings_full_table (p : Option (SectionId × Confidence)) :
    let entry (n : Nat) : Sighting := ⟨n, BitVec.ofNat 96 n, none, [⟨301, 50, 90, 4⟩], 1, n, p, 0, false⟩
    let s := withTable ((List.range 2048).map entry) scan
    s.spe.work = .idle ∧ s.spe.table.length = 2048 ∧ s.spe.table.Pairwise (fun a b => a.slot < b.slot) ∧
    entry 0 ∈ s.spe.table ∧
    ∀ w ∈ s.spe.table, w.placement = p ∧ ((entry 0).lastRead < w.lastRead ∨ (entry 0).lastRead = w.lastRead ∧ (entry 0).slot ≤ w.slot) := by
  intro entry s
  simp only [s, withTable_table, withTable_work]
  refine ⟨rfl, by simp, ?_, List.mem_map_of_mem (by simp), ?_⟩
  · simp only [List.pairwise_map, entry]
    exact List.pairwise_lt_range
  · intro w hw
    obtain ⟨n, -, rfl⟩ := List.mem_map.mp hw
    exact ⟨rfl, by simp only [entry]; omega⟩

/-- `CandidatesAreScored`: a listed section, a new one, a full list with its lowest candidate; a lead with a tie behind it. -/
theorem witness_CandidatesAreScored :
    let c (x n : Nat) : Candidate := ⟨x, n, 100, 4⟩
    let e (list : List Candidate) : Sighting := { sighting 0 1 none 301 128 with candidates := list }
    let full := e [c 210 90, c 211 40, c 212 40]
    ((full.candidates.map Candidate.sec).Nodup ∧ full.candidates = [c 210 90] ++ c 211 40 :: [c 212 40]) ∧
    ((∀ k ∈ (e [c 210 90, c 211 40]).candidates, k.sec ≠ 213) ∧ (e [c 210 90, c 211 40]).candidates.length < 3) ∧
    ((∀ k ∈ full.candidates, k.sec ≠ 213) ∧ 3 ≤ full.candidates.length ∧ full.placement = none ∧
      full.candidates = [c 210 90, c 211 40] ++ c 212 40 :: [] ∧ ∀ k ∈ [c 210 90, c 211 40], 40 ≤ k.score) ∧
    ((∀ d ∈ ([] : List Candidate), d.score < 90) ∧ (∀ d ∈ [c 211 90, c 212 40], d.score ≤ 90) ∧
      ∀ d ∈ [c 211 90, c 212 40], d.sec ≠ 210) := by
  intro c e full
  refine ⟨?_, ?_, ?_, ?_⟩ <;> decide +kernel

/-- `ScoredReads`: an existing entry that is OPEN, one that is PLACED, and one whose three candidates shed the read. -/
theorem witness_ScoredReads :
    let v := sighting 0 1 (some 0) 301 128
    let placed : Sighting := { v with placement := some (301, .firm) }
    let shed : Sighting := { v with candidates := [⟨302, 400, 150, 4⟩, ⟨303, 400, 150, 4⟩, ⟨304, 400, 150, 4⟩] }
    (∀ x ∈ [(takes (withTable [v] scan) (read 2 (item 1) 200), v), (takes (withTable [placed] scan) (read 2 (item 1) 200), placed),
        (takes (withTable [shed] scan) (read 2 (item 1) 200), shed)],
      x.1.1.NextRead x.1.2 [] ∧ x.1.1.Weighs x.1.2 301 ∧ x.1.1.disposed (findHolding x.1.1.tst.holdings x.1.2.tag) = false ∧
      x.2 ∈ x.1.1.spe.table ∧ x.2.tag = x.1.2.tag ∧ (x.1.1.spe.table.map Sighting.tag).Nodup ∧
      (x.1.1.spe.table.map Sighting.slot).Nodup) ∧
    (∀ x ∈ [takes (withTable [v] scan) (read 2 (item 1) 200)],
      shed.scored (x.1.evidence x.2 301) = none ∧ v.scored (x.1.evidence x.2 301) = some [⟨301, 288, 200, 5⟩] ∧
      placed.scored (x.1.evidence x.2 301) = some [⟨301, 288, 200, 5⟩]) ∧ placed.placement = some (301, .firm) := by
  intro v placed shed
  refine ⟨?_, ?_, ?_⟩ <;> decide +kernel

/-- `ScoredReads`, the tests: a confirm test; a move test of a frozen entry, one not met by 1, one met exactly after fewer than
two moves with room and without, and one met after two. -/
theorem witness_ScoredReads_tests :
    let v (b n : Nat) (frozen : Bool) : Sighting :=
      ⟨0, item 1, none, [⟨301, 700, 150, 4⟩, ⟨302, b, 150, 4⟩], 9, 480, some (301, .firm), n, frozen⟩
    let others (b n : Nat) : List Candidate :=
      (v b n false).candidates.filter (fun c => c.sec != 301 && scan.sectionOpen c.sec)
    (∀ e ∈ [sighting 0 1 none 301 128], entryAt (withTable [e] scan).spe.table e.slot = some e ∧ leadOf e.candidates ≠ none) ∧
    (∀ e ∈ [v 1000 0 true, v 999 0 false, v 1000 1 false, v 1000 2 false],
      entryAt (withTable [e] scan).spe.table e.slot = some e ∧ e.placement = some (301, .firm) ∧
      e.candidate 301 = some ⟨301, 700, 150, 4⟩) ∧
    (∀ c ∈ others 999 0, c.score < 700 + 300) ∧
    (∀ n ∈ [1, 2], leadOf (others 1000 n) = some ⟨302, 1000, 150, 4⟩) ∧ scan.params.margin = 300 ∧
    (scan.listOf 302).length < 96 ∧ 96 ≤ ((withLists fullList scan).listOf 302).length := by
  intro v others
  refine ⟨?_, ?_, ?_, ?_, ?_, ?_, ?_⟩ <;> decide +kernel

/-- `EntriesArePlaced`: a list of 95 and of 96 items; a quiet expiry at its very time, one that runs for nothing, none due. -/
theorem witness_EntriesArePlaced :
    let v := sighting 0 1 (some 0) 301 128
    let due (s : State) (w : Sighting) : Prop := w.placement = none ∧ w.lastRead + s.params.quietTime ≤ s.psc.clock
    let s (t : Nat) : State := withTable [v] { scan with psc := { scan.psc with clock := t } }
    (entryAt (s 500).spe.table v.slot = some v ∧ leadOf v.candidates = some ⟨301, 128, 150, 4⟩) ∧
    ((withLists (fullList.drop 1) (s 500)).listOf 301).length < 96 ∧ 96 ≤ ((withLists fullList (s 500)).listOf 301).length ∧
    ((s 880).resetLine = false ∧ (s 880).spe.work = .idle ∧ (s 880).spe.requests = [] ∧ (s 880).spe.settleRequest = false ∧
      (s 880).psc.state = .scanning ∧ (s 880).spe.table = [] ++ v :: [] ∧ due (s 880) v) ∧
    (inState .idle (s 880)).psc.state ≠ .scanning ∧ ∀ w ∈ (s 879).spe.table, ¬due (s 879) w := by
  intro v due s
  refine ⟨?_, ?_, ?_, ?_, ?_, ?_⟩ <;> decide +kernel

/-- A disposition that waits, with the given rest. -/
def waits (rest : Continuation) : State :=
  working (.waitRoom ⟨301, 0, .foreign, item 1, none, .firm, rest⟩) (withTable [sighting 0 1 none 301 128] scan)

/-- `FullListsDispose`: a FOUND item of a quiet pass, a FOREIGN one with 510 and 511 records, and every rest of a waiting one. -/
theorem witness_FullListsDispose :
    entryAt (withTable [sighting 0 1 (some 0) 301 128] scan).spe.table 0 = some (sighting 0 1 (some 0) 301 128) ∧
    ((findingOf scan.tst.holdings (some 0) 301 false).1 = .found ∧ scan.psc.verbose = false) ∧
    (findingOf scan.tst.holdings none 301 false).1 ≠ .found ∧
    (withReports 510 scan).ulp.reports.length < 511 ∧ 511 ≤ (withReports 511 scan).ulp.reports.length ∧
    (∀ rest ∈ [Continuation.done, .forcePlace 301 none, .settle, .newEntry ⟨item 7, 301, 100, 140, 5⟩ none],
      (waits rest).resetLine = false ∧ (waits rest).spe.work = .waitRoom ⟨301, 0, .foreign, item 1, none, .firm, rest⟩ ∧
      (waits rest).ulp.reports.length < 511 ∧ 511 ≤ (withReports 511 (waits rest)).ulp.reports.length) := by
  refine ⟨?_, ?_, ?_, ?_, ?_, ?_⟩ <;> decide +kernel

/-- `ClosesForcePlaceAndRetire`: a request in hand; a walk that ends, and one that waits for room; an early retire. -/
theorem witness_ClosesForcePlaceAndRetire :
    let v := sighting 0 1 none 301 128
    let placed : Sighting := { v with placement := some (301, .firm) }
    let s := { withTable [v] scan with spe := { (withTable [v] scan).spe with requests := [301, 302] } }
    let run (s : State) : State := s.place 0 .close (.forcePlace 301 none)
    (s.resetLine = false ∧ s.spe.work = .idle ∧ s.spe.requests = 301 :: [302]) ∧ (run s).spe.work = .idle ∧
    (run (withReports 511 (withLists fullList s))).spe.work ≠ .idle ∧
    (entryAt (withTable [placed] scan).spe.table placed.slot = some placed ∧ placed.placement = some (301, .firm)) := by
  intro v placed s run
  refine ⟨?_, ?_, ?_, ?_⟩ <;> decide +kernel

/-- `SettlingDrainsAndPlaces`: drained and not drained; a settle request that ends, with the list empty and not, and one that
must wait. -/
theorem witness_SettlingDrainsAndPlaces :
    let drained (s : State) : Prop := s.psc.state = .settling ∧ s.psc.stage = .draining ∧ s.spe.work = .idle ∧
      ∀ p : Port, s.piq[p].queue = []
    let asked (s : State) : State := { inState .settling s with spe := { s.spe with settleRequest := true } }
    let bare : State := { scan with sru := Sru.reset }
    let full := withReports 511 (withLists fullList (withTable [sighting 0 1 none 301 128] scan))
    drained (inState .settling scan) ∧ ¬drained scan ∧
    (∀ s ∈ [asked scan, asked bare, asked full], s.resetLine = false ∧ s.spe.work = .idle ∧ s.spe.requests = [] ∧
      s.spe.settleRequest = true ∧ (s.sru.openList.map OpenSection.sec).Nodup ∧ s.psc.state = .settling) ∧
    ((asked bare).sru.openList = [] ∧ (asked scan).sru.openList ≠ []) ∧
    ((asked full).place 0 .settle .settle).spe.work ≠ .idle := by
  intro drained asked bare full
  refine ⟨?_, ?_, ?_, ?_, ?_⟩ <;> decide +kernel

/-- `QuietClosesAndWaitingOpenings`: a quiet close at its very time and 1 ms before it; an opening that waits, at 31 entries with
and without close-all, and at 32. -/
theorem witness_QuietClosesAndWaitingOpenings :
    let s (t : Nat) : State := { scan with psc := { scan.psc with clock := t } }
    let y : Section := { sec 302 .left 3 .opened with unfacedSince := some 50 }
    let w (n : Nat) : State := working (.waitPlace ⟨303, .forward⟩) (openList n .closing)
    (findOpen scan.sru.openList 302 = some (openSec 302 .quiet) ∧ findSection scan.tst.sections 302 = some y ∧
      scan.resetLine = false ∧ y.unfacedSince = some 50) ∧
    (50 + scan.params.quietTime ≤ (s 450).psc.clock ∧ ¬50 + scan.params.quietTime ≤ (s 449).psc.clock) ∧
    ((w 31).resetLine = false ∧ (w 31).spe.work = .waitPlace ⟨303, .forward⟩ ∧ (w 31).sru.openList.length < 32) ∧
    32 ≤ (w 32).sru.openList.length := by
  intro s y w
  refine ⟨?_, ?_, ?_, ?_⟩ <;> decide +kernel

/-- `OrderCheckFlagsTheWorstFirst`: the order check of a list that is inverted once: its flags split at the one flag. -/
theorem witness_OrderCheckFlagsTheWorstFirst :
    let list : List Item := [⟨none, item 1, some 0, 100, some 30, .firm⟩, ⟨none, item 2, some 1, 104, some 20, .firm⟩]
    let flags := flagging .forward 3 list.length (entrants list)
    entrants list ≠ [] ∧ flags = [] ++ ⟨2, 104, 20⟩ :: [] ∧
    (∃ n i, list[n]? = some i ∧ i.key = some 20 ∧ 2 = n + 1 ∧ 104 = i.peak) := by
  intro list flags
  exact ⟨by decide +kernel, by decide +kernel, 1, ⟨none, item 2, some 1, 104, some 20, .firm⟩, rfl, rfl, rfl, rfl⟩

/-- The reporter at the first item of section 301, which has the given record. -/
def reporting (ref : Option Nat) (waiting : Bool) : State := { scan with
  tst := { scan.tst with sections := [{ sec 301 .left 3 .closing with list := [⟨some 0, item 1, ref, 5, none, .firm⟩] }] }
  sru := { Sru.reset with
    reporter := some ⟨301, [], waiting⟩, openList := [{ openSec 301 .closing with reportPosition := some 1 }] } }

/-- `ReporterWritesFindings`: the four kinds by the record; a section with and without a direction to take, a busy reporter;
an item that is found, one that is foreign, one that already waits, and the end of the list. -/
theorem witness_ReporterWritesFindings :
    let idle (d : Direction) : State := { scan with
      tst := { scan.tst with sections := [{ sec 301 .left 3 .closing with direction := d }] }
      sru := { Sru.reset with openList := [openSec 301 .closing], closing := [301] } }
    let expected (h : Holding) : Prop := h.status = .shelved ∨ h.status = .reference
    (¬expected (holding 1 301 .withdrawn .sighted) ∧ expected (holding 1 301 .shelved .sighted) ∧ expected (holding 1 302 .reference .sighted)) ∧
    (∀ d ∈ [Direction.unknown, .forward], (idle d).resetLine = false ∧ (idle d).sru.reporter = none ∧
      (idle d).sru.closing = 301 :: [] ∧ findSection (idle d).tst.sections 301 = some { sec 301 .left 3 .closing with direction := d }) ∧
    ((reporting none false).sru.reporter ≠ none ∧ scan.sru.closing = []) ∧
    (∀ x ∈ [(none, false), (none, true), (some 0, false)], (reporting x.1 x.2).resetLine = false ∧
      (reporting x.1 x.2).sru.reporter = some ⟨301, [], x.2⟩ ∧
      findOpen (reporting x.1 x.2).sru.openList 301 = some { openSec 301 .closing with reportPosition := some (0 + 1) } ∧
      (reporting x.1 x.2).listOf 301 = [⟨some 0, item 1, x.1, 5, none, .firm⟩]) ∧
    (findingOf scan.tst.holdings (some 0) 301 false).1 = .found ∧ (findingOf scan.tst.holdings none 301 false).1 ≠ .found ∧
    (withReports 510 (reporting none false)).ulp.reports.length < 511 ∧
    511 ≤ (withReports 511 (reporting none false)).ulp.reports.length := by
  intro idle expected
  refine ⟨?_, ?_, ?_, ?_, ?_, ?_, ?_, ?_⟩ <;> decide +kernel

/-- `SectionSummaryClosesTheSection`: the position one past the list, and at it; the last section of close-all, one with another
left, and an opening that waits; 510 and 511 records. -/
theorem witness_SectionSummaryClosesTheSection :
    let s (p : Nat) (rest : List OpenSection) : State := { inState .settling (reporting none false) with
      sru := { (reporting none false).sru with
        closeAll := true, openList := { openSec 301 .closing with reportPosition := some p } :: rest } }
    let left (s : State) : List OpenSection := s.sru.openList.filter (fun b => b.sec != 301)
    (∀ x ∈ [s 1 [], s 2 [], s 2 [openSec 302 .closing]], x.resetLine = false ∧ x.sru.reporter = some ⟨301, [], false⟩ ∧
      (findSection x.tst.sections 301).map (fun y => y.list.length) = some 1 ∧ x.psc.state = .settling ∧ x.sru.closeAll = true ∧
      x.spe.work = .idle) ∧
    findOpen (s 2 []).sru.openList 301 = some { openSec 301 .closing with reportPosition := some 2 } ∧
    (left (s 2 []) = [] ∧ left (s 2 [openSec 302 .closing]) ≠ []) ∧
    (working (.waitPlace ⟨303, .forward⟩) (s 2 [])).spe.work = .waitPlace ⟨303, .forward⟩ ∧
    (withReports 510 (s 2 [])).ulp.reports.length < 511 ∧ 511 ≤ (withReports 511 (s 2 [])).ulp.reports.length := by
  intro s left
  refine ⟨?_, ?_, ?_, ?_, ?_, ?_⟩ <;> decide +kernel

/-- `scan` in TALLYING at the given position. -/
def tallying (n : Nat) : State := { scan with
  psc := { scan.psc with state := .tallying, tallyPosition := n }
  tst := { scan.tst with sections := [sec 301 .left 3 .unvisited, { sec 302 .left 3 .closed with rushed := true }, sec 303 .left 3 .closed] } }

/-- `TallyWalkJudgesAndEnds`: records passed over, without a home section, in an UNVISITED, a RUSHED and a CLOSED one; a finding
that waits with 510 and 511 records; a walk that ends and one that must wait. -/
theorem witness_TallyWalkJudgesAndEnds :
    let walked (h : Holding) : Prop := (h.status = .shelved ∨ h.status = .reference) ∧ h.mark ≠ .disposed
    let wait (n : Nat) : State := withReports n { tallying 3 with
      psc := { (tallying 3).psc with tallyWait := some ⟨.missing, item 4, 303⟩ } }
    let walk (s : State) (n : Nat) : State := (fun t : State => if t.psc.tallyWait = none then t.tallyOne else t)^[n] s
    ((tallying 2).tst.holdings[2]? = some (holding 3 302 .reference .disposed) ∧ ¬walked (holding 3 302 .reference .disposed)) ∧
    ((tallying 0).tst.holdings[0]? = some (holding 1 301 .shelved .unseen) ∧ walked (holding 1 301 .shelved .unseen) ∧
      findSection (tallying 0).tst.sections 301 = some (sec 301 .left 3 .unvisited) ∧ findSection (tallying 0).tst.sections 999 = none ∧
      findSection (tallying 0).tst.sections 302 = some { sec 302 .left 3 .closed with rushed := true } ∧
      findSection (tallying 3).tst.sections 303 = some (sec 303 .left 3 .closed)) ∧
    ((wait 510).resetLine = false ∧ (wait 510).psc.state = .tallying ∧ (wait 510).psc.tallyWait = some ⟨.missing, item 4, 303⟩ ∧
      (wait 510).ulp.reports.length < 511 ∧ 511 ≤ (wait 511).ulp.reports.length) ∧
    ((tallying 0).resetLine = false ∧ (tallying 0).psc.state = .tallying ∧ (tallying 0).psc.tallyWait = none) ∧
    (walk (tallying 0) 4).psc.tallyWait = none ∧ (walk (withReports 511 (tallying 0)) 4).psc.tallyWait ≠ none := by
  intro walked wait walk
  refine ⟨?_, ?_, ?_, ?_, ?_, ?_⟩ <;> decide +kernel

/-- A state with one management frame waiting, and the frame. -/
def asks (kind : Byte) (payload : List Byte) (s : State) : State × MgmtFrame := (withFrame kind payload s, ⟨kind, 7, payload⟩)

/-- IDLE with both tables loaded. -/
def loaded : State := { State.reset with tst := scan.tst }

/-- `PassesOpenAndClose`: each request held back, of a wrong shape, in a wrong state, with empty tables, and taken. -/
theorem witness_PassesOpenAndClose :
    (∀ x ∈ [asks 0x29 [1] (inState .settling loaded), asks 0x2A [4, 0, 1] (inState .tallying loaded),
        asks 0x29 [0] (withReports 512 loaded)],
      x.1.AtHead x.2 [] ∧ (x.1.psc.state = .settling ∨ x.1.psc.state = .tallying ∨ 512 ≤ x.1.ulp.reports.length)) ∧
    (∀ x ∈ [asks 0x29 [2] loaded, asks 0x29 [1] scan, asks 0x29 [1] State.reset, asks 0x29 [1] (withReports 511 loaded),
        asks 0x2A [4, 0, 2] loaded, asks 0x2A [4, 0, 1] scan, asks 0x2A [3, 0, 0] loaded, asks 0x2A [4, 0, 0] State.reset,
        asks 0x2A [4, 255, 1] loaded],
      x.1.AtHead x.2 [] ∧ ¬(x.1.psc.state = .settling ∨ x.1.psc.state = .tallying ∨ 512 ≤ x.1.ulp.reports.length)) ∧
    (∀ x ∈ [asks 0x2B [0] scan, asks 0x2B [] scan, asks 0x2B [] loaded], x.1.AtHead x.2 [] ∧ x.2.kind = 0x2B#8) ∧
    (loaded.psc.state = .idle ∧ loaded.tst.holdings ≠ [] ∧ loaded.tst.sections ≠ [] ∧ State.reset.tst.holdings = [] ∧
      scan.psc.state = .scanning) := by
  refine ⟨?_, ?_, ?_, ?_⟩ <;> decide +kernel

/-- PREPARING with its walk in hand. -/
def preparing (source : PassSource) (left right : Assign) : State := { scan with
  params := { scan.params with assignLeft := left, assignRight := right }
  psc := { Psc.reset with state := .preparing, source := source, preparation := 1 }
  ulp := { scan.ulp with inHand := some (.walk 0x29 7) } }

/-- `PreparingWalkEnds`: a walk at its beginning and the boundaries of its parts; a pass, a rehearsal, and a rehearsal that drives no side. -/
theorem witness_PreparingWalkEnds :
    (scan.psc.marked = 0 ∧ scan.psc.cleared = 0 ∧ scan.psc.preparation = 0 ∧ scan.psc.counters.unmapped = 0 ∧
      (scan.tst.sections.map Section.id).Nodup ∧ scan.tst.holdings.length ≤ 16384) ∧
    (∀ x ∈ [(0, 0, 0), (4, 0, 0), (4, 5, 0), (4, 5, 4)],
      x.1 ≤ scan.tst.holdings.length ∧ x.2.1 ≤ scan.tst.sections.length ∧ x.2.2 ≤ scan.tst.holdings.length ∧
      (x.2.1 = 0 ∨ x.1 = scan.tst.holdings.length) ∧
      (x.2.2 = 0 ∨ x.1 = scan.tst.holdings.length ∧ x.2.1 = scan.tst.sections.length)) ∧
    (∀ s ∈ [preparing .frontEnds .a .b, preparing .rehearsal .a .b, preparing .rehearsal .off .off],
      s.resetLine = false ∧ s.psc.state = .preparing ∧ s.ulp.inHand = some (.walk 0x29 7)) ∧
    ((preparing .rehearsal .a .b).params.assignLeft ≠ .off ∧ (preparing .rehearsal .off .off).params.assignLeft = .off ∧
      (preparing .rehearsal .off .off).params.assignRight = .off) := by
  refine ⟨?_, ?_, ?_, ?_⟩ <;> decide +kernel

/-- R129: with no section record the walk still marks every holdings record before it counts the first. -/
theorem test_the_walk_marks_before_it_counts :
    let bare : State := { scan with tst := ⟨scan.tst.holdings, []⟩ }
    bare.walkOne.psc.marked = 1 ∧ bare.walkOne.psc.preparation = 0 ∧
    (State.walkOne^[5] bare).psc.marked = 4 ∧ (State.walkOne^[5] bare).psc.preparation = 1 := by decide +kernel

/-- `AbortPassEndsTheWork` and `RestartReturnsToAnEmptyIdle`: in IDLE and outside it. -/
theorem witness_AbortPass_and_Restart :
    (State.reset.resetLine = false ∧ State.reset.psc.state = .idle) ∧ scan.resetLine = false ∧ scan.psc.state ≠ .idle := by
  decide +kernel

/-- `ActivityWindowEnds`: no window, 1 ms before its end, and its end. -/
theorem witness_ActivityWindowEnds :
    let s (t : Nat) : State := { scan with psc := { scan.psc with clock := t }, pam := { Pam.reset with window := some ⟨0, 1000⟩ } }
    scan.pam.window = none ∧ (s 0).resetLine = false ∧ (s 0).pam.window = some ⟨0, 1000⟩ ∧ (s 999).psc.clock < 1000 ∧
    1000 ≤ (s 1000).psc.clock := by decide +kernel

/-- `UplinkFramesAreJudged`: lengths 3 and 1,201; frames of length 4 and 5 with a bad and a good CRC, of a bypass kind and of
another; a queue of 3 and of 4. -/
theorem witness_UplinkFramesAreJudged :
    let meets (n : Nat) (got : List Byte) : Prop := 4 ≤ n ∧ n ≤ 1200 ∧ natOf (got.take 2) = n ∧ got.length = n + 2
    let sound (n : Nat) (got : List Byte) : Prop := natOf (got.drop n) = (crc16 (got.take n)).toNat
    (scan.resetLine = false ∧ scan.ulp.rx = .hunting ∧ 0xA5#8 ∉ [0x10#8, 0x00#8]) ∧
    ((0x00#8).toNat * 256 + (0x03#8).toNat < 4 ∧ 1200 < (0x04#8).toNat * 256 + (0xB1#8).toNat) ∧
    (meets 4 [0, 4, 0x30, 7, 0, 0] ∧ ¬sound 4 [0, 4, 0x30, 7, 0, 0]) ∧
    (∀ k ∈ [0x30#8, 0x31#8, 0x32#8, 0x33#8, 0x20#8], meets 4 ((wireBytes k 7 []).drop 1) ∧ sound 4 ((wireBytes k 7 []).drop 1) ∧
      ((wireBytes k 7 []).drop 1).getD 2 0 = k) ∧
    (meets 5 ((wireBytes 0x23 7 [1]).drop 1) ∧ sound 5 ((wireBytes 0x23 7 [1]).drop 1)) ∧
    0x23#8 ∉ [0x30#8, 0x31#8, 0x32#8, 0x33#8] ∧ (List.replicate 3 (⟨0x20, 1, []⟩ : MgmtFrame)).length < 4 ∧
    ¬(List.replicate 4 (⟨0x20, 1, []⟩ : MgmtFrame)).length < 4 := by
  intro meets sound
  refine ⟨?_, ?_, ?_, ?_, ?_, ?_, ?_, ?_⟩ <;> decide +kernel

/-- An uplink with the given replies, alerts and number of records, at 50 ms of its time base. -/
def uplink (replies : List Reply) (alerts : List Alert) (n now : Nat) : State :=
  let s := withReports n scan
  { s with ulp := { s.ulp with replies := replies, alerts := alerts, now := now } }

/-- `TheArbiterDecides` and `UpstreamFramesCarryTheOldest`: a reply, an alert, 8 records, one record at the flush time and 1 ms
before it; PAUSE set; a frame in transmission. -/
theorem witness_TheArbiterDecides :
    let r : Reply := ⟨7, 0x20, .done, []⟩
    let s := uplink
    let due (s : State) : Prop := ∀ r ∈ s.ulp.reports.head?, s.params.flushTime ≤ s.ulp.now - r.entry
    (∀ x ∈ [s [r] [.sweepHold] 8 0, s [] [.sweepHold] 8 0, s [] [] 8 0, s [] [] 1 50, s [] [] 1 49],
      x.resetLine = false ∧ x.ulp.sending = none ∧ x.ulp.paused = false) ∧
    ((s [r] [.sweepHold] 8 0).ulp.replies = r :: [] ∧ (s [] [.sweepHold] 8 0).ulp.replies = [] ∧
      (s [] [.sweepHold] 8 0).ulp.alerts ≠ [] ∧ (s [] [] 8 0).ulp.alerts = [] ∧ 8 ≤ (s [] [] 8 0).ulp.reports.length) ∧
    (due (s [] [] 1 50) ∧ (s [] [] 1 50).ulp.reports ≠ [] ∧ (s [] [] 1 50).sendTest = true) ∧
    ((s [] [] 1 49).ulp.reports.length < 8 ∧ ¬due (s [] [] 1 49)) ∧
    ({ scan with ulp := { scan.ulp with paused := true } }.ulp.paused = true ∧
      { scan with ulp := { scan.ulp with sending := some ⟨0x41, 0, []⟩ } }.ulp.sending ≠ none) ∧
    [Alert.portOverflow 3, .sweepHold].Pairwise (fun a b => a.rank < b.rank) := by
  intro r s due
  refine ⟨?_, ?_, ?_, ?_, ?_, ?_⟩ <;> decide +kernel

/-- `FramesReadBackAsTheyWereBuilt`: an empty payload and the longest one, on the uplink, and a READ frame on a front-end link. -/
theorem witness_FramesReadBackAsTheyWereBuilt :
    (([] : List Byte).length ≤ 1196 ∧ uplinkLengthOk (([] : List Byte).length + 4) = true) ∧
    ((List.replicate 1196 (0 : Byte)).length ≤ 1196 ∧ uplinkLengthOk ((List.replicate 1196 (0 : Byte)).length + 4) = true) ∧
    (List.replicate 15 (0 : Byte)).length ≤ 1196 ∧ readLengthOk ((List.replicate 15 (0 : Byte)).length + 4) = true := by
  refine ⟨?_, ?_, ?_, ?_⟩ <;> decide +kernel

/-- `ParametersAreSet`: a wrong shape, IDs 0 and 27, a selector of 16, an enumeration value out of range; a wrong state; a class
clash; values at, below and above the range; a high mark below the low mark; a per-port parameter with one port and ALL. -/
theorem witness_ParametersAreSet :
    (∀ x ∈ [asks 0x21 [1] loaded, asks 0x21 [0, 0, 0, 0, 0, 0] loaded, asks 0x21 [27, 0, 0, 0, 0, 0] loaded,
        asks 0x21 [6, 16, 0, 0, 0, 0] loaded, asks 0x21 [3, 0, 0, 0, 0, 3] loaded, asks 0x21 [15, 0, 0, 0, 1, 44] scan,
        asks 0x21 [8, 0, 0, 0, 0, 0xE2] loaded, asks 0x21 [9, 0, 0, 0, 0, 0xE1] loaded, asks 0x21 [1, 0, 0, 0, 0, 2] loaded,
        asks 0x21 [1, 0, 0, 0, 0, 1] loaded, asks 0x21 [1, 0, 0, 0, 0, 251] scan, asks 0x21 [21, 0, 0, 0, 1, 44] loaded,
        asks 0x21 [22, 0, 0, 0, 0, 0] loaded, asks 0x21 [23, 0, 0, 0, 0, 50] scan, asks 0x21 [23, 0, 0, 0, 0, 5] scan,
        asks 0x21 [6, 15, 0, 0, 0, 1] loaded, asks 0x21 [7, 255, 0, 0, 0, 1] scan],
      x.1.AtHead x.2 [] ∧ x.2.kind = 0x21#8) ∧
    (natOf [0, 0, 0, 50] = scan.params.flushTime ∧ natOf [0, 0, 0, 5] ≠ scan.params.flushTime) ∧
    (natOf [0, 0, 0, 0xE2] = loaded.params.referenceClass ∧ natOf [0, 0, 0, 0xE1] = loaded.params.markerClass ∧
      scan.psc.state ≠ .idle) ∧
    ((paramRange loaded.params 1).1 ≤ 2 ∧ 2 ≤ (paramRange loaded.params 1).2 ∧ ¬(paramRange loaded.params 1).1 ≤ 1 ∧
      ¬251 ≤ (paramRange loaded.params 1).2) ∧
    ({ loaded with qhold := true }.piq[(2 : Port)].follows = false ∧ { loaded with qhold := true }.qhold = true) := by
  refine ⟨?_, ?_, ?_, ?_⟩ <;> decide +kernel

/-- `SnapshotsAreAnswered`: each request well formed and not; the kinds just outside 0x20 to 0x2B. -/
theorem witness_SnapshotsAreAnswered :
    (∀ x ∈ [asks 0x20 [] scan, asks 0x20 [1] scan, asks 0x22 [10, 9] scan, asks 0x22 [6, 255] scan, asks 0x22 [7, 15] scan,
        asks 0x22 [7, 16] scan, asks 0x22 [27, 0] scan, asks 0x22 [6] scan, asks 0x23 [1] scan, asks 0x23 [2] scan,
        asks 0x23 [3] scan, asks 0x23 [4] scan, asks 0x23 [5] scan, asks 0x23 [0] scan, asks 0x23 [6] scan, asks 0x23 [] scan,
        asks 0x1F [] scan, asks 0x2C [] scan], x.1.AtHead x.2 []) ∧
    (0x1F#8).toNat < 0x20 ∧ 0x2B < (0x2C#8).toNat := by
  refine ⟨?_, ?_, ?_⟩ <;> decide +kernel

/-- `PortQueuesAreReset`: ports 0 and 15, none, GLOBAL, a mode that is neither, a wrong shape. -/
theorem witness_PortQueuesAreReset :
    (∀ x ∈ [asks 0x24 [0, 0x80, 0x01] scan, asks 0x24 [0, 0, 0] scan, asks 0x24 [1, 0, 0] scan, asks 0x24 [2, 0, 1] scan,
        asks 0x24 [0, 1] scan], x.1.AtHead x.2 [] ∧ x.2.kind = 0x24#8) ∧
    natOf ([0, 0x80, 0x01].drop 1) ≠ 0 ∧ (natOf [0x80, 0x01]).testBit 15 = true := by
  refine ⟨?_, ?_, ?_⟩ <;> decide +kernel

/-- `TablesAreLoadedAndCleared`: each request at its tests, blocks of 0, 1, 32 and 33 records, a load in hand, and records that
pass and fail the tests of a load. -/
theorem witness_TablesAreLoadedAndCleared :
    let block (n : Byte) (size : Nat) : List Byte := n :: List.replicate (n.toNat * size) 0
    (∀ x ∈ [asks 0x25 (block 0 23) loaded, asks 0x25 (block 1 23) loaded, asks 0x25 (block 32 23) loaded,
        asks 0x25 (block 33 23) loaded, asks 0x25 (block 1 23) scan, asks 0x25 [1] loaded, asks 0x25 [] loaded,
        asks 0x26 (block 0 4) loaded, asks 0x26 (block 1 4) loaded, asks 0x26 (block 32 4) loaded, asks 0x26 (block 33 4) loaded,
        asks 0x26 (block 1 4) scan, asks 0x26 [1] loaded, asks 0x27 [1] loaded, asks 0x27 [3] loaded, asks 0x27 [4] loaded,
        asks 0x27 [3] scan], x.1.AtHead x.2 []) ∧
    (({ loaded with ulp := { loaded.ulp with inHand := some (.loadSections 7 [⟨305, 1, 8⟩, ⟨305, 1, 8⟩]) } } : State).ulp.inHand =
      some (.loadSections 7 [⟨305, 1, 8⟩, ⟨305, 1, 8⟩])) ∧
    (tagClass (item 9) ≠ 0xE1 ∧ tagClass (item 9) ≠ 0xE2 ∧ statusOf 5 = some .withdrawn ∧ statusOf 6 = none ∧
      tagClass (marker 1) = 0xE1 ∧ ∃ h ∈ scan.tst.holdings, h.tag = item 1) ∧
    (storeBlock testSection loaded.tst.sections [⟨305, 1, 8⟩, ⟨305, 1, 8⟩] 0).2 = (1, .duplicate) ∧
    ((2 ^ 64 - 1 < 2 ^ 64) ∧ 65535 < 65536 ∧ 255 < 256 ∧ rawSection [0x01, 0x2F, 0x01, 0x03] = ⟨303, 1, 3⟩ ∧
      rawHolding (List.replicate 11 0 ++ [9] ++ List.replicate 7 0 ++ [40, 0x01, 0x2D, 4]) = ⟨9, 40, 301, 4⟩) := by
  intro block
  refine ⟨?_, ?_, ?_, ?_, ?_⟩ <;> decide +kernel

/-- A state of an open pass with two OPEN sightings and one PLACED in section 301, a reply, two alerts and a report waiting. -/
def midPass : State :=
  let s := uplink [⟨7, 0x20, .done, []⟩] [.portOverflow 3, .sweepHold] 1 0
  { s with
    tst :=
      ⟨[holding 1 301 .shelved .sighted, holding 2 301 .shelved .placed, holding 3 302 .reference .disposed,
          holding 4 303 .shelved .sighted],
        s.tst.sections.map (fun y => if y.id = 301 then { y with list := [⟨some 1, item 2, some 1, 4, some 20, .firm⟩] } else y)⟩
    spe := { s.spe with table := [sighting 0 1 (some 0) 301 128,
      { sighting 1 2 (some 1) 301 700 with placement := some (301, .firm) }, sighting 2 4 (some 3) 302 65535] } }

/-- What holds of the three entries of `midPass` holds of every entry of its table. -/
theorem midPass_entries {P : Sighting → Prop} (h0 : P (sighting 0 1 (some 0) 301 128))
    (h1 : P { sighting 1 2 (some 1) 301 700 with placement := some (301, .firm) }) (h2 : P (sighting 2 4 (some 3) 302 65535)) :
    ∀ e ∈ midPass.spe.table, P e := by
  intro e he
  simp only [midPass, List.mem_cons, List.not_mem_nil, or_false] at he
  obtain rfl | rfl | rfl := he <;> assumption

/-- The invariants that every step keeps hold together in a state of an open pass, and a step runs from there. -/
theorem witness_StepsKeepTheInvariants :
    midPass.QueuesInv ∧ midPass.SightingsInv ∧ midPass.TablesInv ∧ midPass.RunningInv ∧ midPass.ValuesInv ∧
    ∃ t, step midPass = .next t := by
  refine ⟨by unfold State.QueuesInv; decide +kernel, ⟨by decide +kernel, by decide +kernel, ?_, ?_⟩,
    by unfold State.TablesInv; decide +kernel, ⟨by decide, by decide, by decide, ?_, ?_⟩,
    ⟨?_, by decide, by decide +kernel, by decide, by decide, by decide, by decide +kernel⟩, ⟨_, rfl⟩⟩
  · apply midPass_entries <;> (unfold Sighting.Sound; decide +kernel)
  · intro d r ref h
    cases h
  · constructor
    · intro h
      cases h
    · rintro ⟨_, _, h⟩
      cases h
  · rintro tag (⟨_, h⟩ | ⟨_, h⟩) <;> cases h
  · intro id h1 h2
    interval_cases id <;> decide +kernel

/-- The open-section list, the marks and the sightings of `midPass` agree. -/
theorem witness_StepsKeepTheSightingTable : midPass.SectionsInv ∧ midPass.MarksInv := by
  refine ⟨⟨fun _ => ⟨by decide +kernel, by decide +kernel, by decide +kernel, by decide +kernel, by decide +kernel,
    by decide +kernel, ?_, by decide +kernel⟩, fun h => absurd (.inl rfl) h, by decide, by decide, ?_, ?_⟩,
    ⟨by decide, ?_, ?_, ?_, ?_⟩⟩
  · have h : ∀ o ∈ midPass.sru.openList, o.stage ≠ .closing := by decide +kernel
    exact fun x => ⟨fun hx => (List.not_mem_nil hx).elim, fun ⟨o, ho, _, hc⟩ => (h o ho hc).elim⟩
  · rintro r (h | ⟨_, _, h, _⟩) <;> cases h
  · intro d h
    cases h
  · apply midPass_entries
    · exact ⟨by decide +kernel, 301, by decide +kernel⟩
    · exact ⟨by decide +kernel, 301, by decide +kernel⟩
    · exact ⟨by decide +kernel, 302, by decide +kernel⟩
  · have h : ∀ n < 4, ∀ h ∈ midPass.tst.holdings[n]?,
        (h.mark = .sighted ↔ ∃ e ∈ midPass.spe.table, e.ref = some n ∧ e.placement = none) ∧
        (h.mark = .placed ↔ ∃ e ∈ midPass.spe.table, e.ref = some n ∧ e.placement ≠ none) := by decide +kernel
    exact fun n r hr => h n (List.getElem?_eq_some_iff.mp hr).1 r hr
  · intro _ y hy ho slot
    simp only [midPass, uplink, withReports, scan, List.map_cons, List.map_nil, List.mem_cons, List.not_mem_nil, or_false] at hy
    by_cases h : slot = 1
    · subst h
      obtain rfl | rfl | rfl | rfl | rfl := hy <;> revert ho <;> decide +kernel
    · have h' : ¬1 = slot := fun e => h e.symm
      obtain rfl | rfl | rfl | rfl | rfl := hy <;> simp [midPass, sec, sighting, h']
  · intro d r ref h
    cases h

/-- `ThePassStateFollowsItsEdges`, `LoadedRecordsStand` and `NoFrameBeginsWhilePaused`: steps of commands and on an empty queue that
answer a next state; a load in hand; PAUSE set. -/
theorem witness_WholeDeviceLaws :
    (∀ s ∈ [{ (asks 0x2B [] scan).1 with pending := [.closePass] }, { scan with pending := [.clearTables] }, scan,
        { loaded with
          pending := [.loadComplete]
          ulp := { loaded.ulp with inHand := some (.loadSections 7 [⟨305, 1, 8⟩]) } },
        { uplink [⟨7, 0x20, .done, []⟩] [] 0 0 with
          pending := [.replyFrame], ulp := { (uplink [⟨7, 0x20, .done, []⟩] [] 0 0).ulp with paused := true } }],
      (∃ t, step s = .next t) ∧ s.pending.head? ≠ some .powerOn ∧ s.pending.head? ≠ some .resetLine) ∧
    (scan.psc.state.isOpen = true ∧ (inState .settling scan).psc.state.isOpen = true ∧ scan.psc.state ≠ .idle) ∧
    { scan.ulp with paused := true }.paused = true := by
  refine ⟨fun s hs => ?_, by decide +kernel, rfl⟩
  simp only [List.mem_cons, List.not_mem_nil, or_false] at hs
  obtain rfl | rfl | rfl | rfl | rfl := hs <;> exact ⟨⟨_, rfl⟩, by decide⟩

/-! ### Cases of the rules that no worked example shows -/

/-- R31: the B start of generator A's last sweep has been made and an older one is still scheduled: A enters STOPPED at once. -/
theorem test_window_end_with_an_older_b_start :
    let s : State := { State.reset with
      psc := { Psc.reset with state := .calibrating }
      swg := { Swg.reset with runMode := .interleaved, genA := running 18, bStarts := [⟨10, 16, 9⟩] } }
    (s.attemptStart .a).swg.genA = ⟨18, .stopped, none⟩ ∧ (s.attemptStart .a).swg.endsAtB = false := by decide +kernel

/-- R44, R58: a marker read whose opening waits has been counted in MARKER-READS, and an abort of the wait keeps the count. -/
theorem test_a_waiting_marker_read_is_counted :
    let s := (takes { facing none 0 with sru := (openList 32 .closing).sru } (read 2 (marker 303) 120)).1
    let t := readTakeStep s
    t.spe.work = .waitPlace ⟨303, .unknown⟩ ∧ t.mfu.counters.markerReads = 1 ∧
    (t.abort 9).spe.work = .idle ∧ (t.abort 9).mfu.counters.markerReads = 1 := by decide +kernel

/-- R131: an ABORT-PASS behind two records of the walk finds their marks UNSEEN, the third as the last pass left it, and every
section as it stood. -/
theorem test_an_aborted_walk_stands_where_it_was :
    let s : State := { preparing .frontEnds .a .b with
      tst := ⟨[holding 1 301 .shelved .disposed, holding 2 301 .shelved .disposed, holding 3 302 .shelved .disposed],
        [sec 301 .left 3 .closed]⟩ }
    let t := State.abort s.walkOne.walkOne 9
    t.tst.holdings.map Holding.mark = [.unseen, .unseen, .disposed] ∧ t.tst.sections.map Section.state = [.closed] ∧
    t.psc.state = .idle := by decide +kernel

/-- R160: with a record waiting, a flush time set below its age makes an idle transmitter send it, and the reply waits. -/
theorem test_a_shorter_flush_time_sends_at_once :
    let t := setParamStep (withFrame 0x21 [23, 0, 0, 0, 0, 5] (uplink [] [] 1 20))
    (t.ulp.sending.map UpFrame.kind) = some 0x42#8 ∧ t.ulp.reports = [] ∧ t.ulp.replies.length = 1 := by decide +kernel

end Sys2Proof.Tests
end

section
/-! SUPPORT. The offsets and gains of SCU (R27): which operations leave them as they stand. -/

namespace Sys2Proof.Machine

/-! ### Offsets and gains -/

/-- The values R27 converts with: the offset and the gain of each port. -/
def calibrationOf (ports : Vector ScuPort 16) (p : Port) : Int × Nat := (ports[p].offset, ports[p].gain)

theorem calibrationOf_eq_iff (u v : Vector ScuPort 16) :
    calibrationOf u = calibrationOf v ↔ ∀ p : Port, u[p].offset = v[p].offset ∧ u[p].gain = v[p].gain := by
  simp [funext_iff, calibrationOf]

theorem calibrationOf_mapAll (u : Vector ScuPort 16) (f : ScuPort → ScuPort)
    (hf : ∀ c, (f c).offset = c.offset ∧ (f c).gain = c.gain) : calibrationOf (mapAll f u) = calibrationOf u := by
  rw [calibrationOf_eq_iff]
  intro p
  have hp : (mapAll f u)[p] = f u[p] := by simp [mapAll]
  rw [hp]
  exact hf _

theorem calibrationOf_modifyAt (u : Vector ScuPort 16) (q : Port) (f : ScuPort → ScuPort)
    (hf : ∀ c, (f c).offset = c.offset ∧ (f c).gain = c.gain) : calibrationOf (modifyAt u q f) = calibrationOf u := by
  rw [calibrationOf_eq_iff]
  intro p
  by_cases hpq : q = p
  · subst hpq
    have hq : (modifyAt u q f)[q] = f u[q] := by simp [modifyAt]
    rw [hq]
    exact hf _
  · have hp : (modifyAt u q f)[p] = u[p] := by
      have hne : q.val ≠ p.val := fun h => hpq (Fin.ext h)
      simp [modifyAt, hne]
    rw [hp]
    exact ⟨rfl, rfl⟩

@[simp] theorem calibrationOf_mapAll_clearRun (u : Vector ScuPort 16) :
    calibrationOf (mapAll ScuPort.clearRun u) = calibrationOf u :=
  calibrationOf_mapAll u _ (fun _ => ⟨rfl, rfl⟩)

/-- Setting a carry-over count touches neither value (R32). -/
@[simp] theorem State.modScu_carryOver_calibration (s : State) (p : Port) (n : ScuPort → Nat) :
    calibrationOf (s.modScu p (fun c => { c with carryOver := n c })).scu.ports = calibrationOf s.scu.ports :=
  calibrationOf_modifyAt _ _ _ (fun _ => ⟨rfl, rfl⟩)

/-! ### The reads of a calibration run and its beginning -/

@[simp] theorem Scu.addNear_calibration (u : Scu) (p : Port) (raw : Nat) :
    calibrationOf (u.addNear p raw).ports = calibrationOf u.ports := by
  unfold Scu.addNear
  split
  · rfl
  · exact calibrationOf_modifyAt _ _ _ (fun _ => ⟨rfl, rfl⟩)

@[simp] theorem Scu.addFar_calibration (u : Scu) (p : Port) (raw : Nat) :
    calibrationOf (u.addFar p raw).ports = calibrationOf u.ports := by
  unfold Scu.addFar
  split
  · rfl
  · exact calibrationOf_modifyAt _ _ _ (fun _ => ⟨rfl, rfl⟩)

@[simp] theorem Scu.accumulate_calibration (u : Scu) (k : Nat) (e : ReadEntry) :
    calibrationOf (u.accumulate k e).ports = calibrationOf u.ports := by
  unfold Scu.accumulate
  (repeat' split) <;> simp

@[simp] theorem State.scuRead_calibration (s : State) (carried : Bool) (e : ReadEntry) :
    calibrationOf (s.scuRead carried e).scu.ports = calibrationOf s.scu.ports := by
  unfold State.scuRead
  split <;> simp

@[simp] theorem State.startScu_calibration (s : State) (near far : TagCode) :
    calibrationOf (s.startScu near far).scu.ports = calibrationOf s.scu.ports := by
  unfold State.startScu
  exact (forPorts_keeps (fun t : State => calibrationOf t.scu.ports) _ (by simp) _).trans (by simp)

/-! ### Queues emptied and taken from -/

@[simp] theorem State.emptyPort_calibration (s : State) (p : Port) :
    calibrationOf (s.emptyPort p).scu.ports = calibrationOf s.scu.ports := by
  unfold State.emptyPort
  dsimp only
  split <;> simp

@[simp] theorem State.becomeHeld_calibration (s : State) (p : Port) :
    calibrationOf (s.becomeHeld p).scu.ports = calibrationOf s.scu.ports := by
  unfold State.becomeHeld
  simp

@[simp] theorem State.resetPorts_calibration (s : State) (f : MgmtFrame) (q : Port → Bool) :
    calibrationOf (s.resetPorts f q).scu.ports = calibrationOf s.scu.ports := by
  unfold State.resetPorts
  simp only [State.reply_frame]
  exact forPorts_keeps (fun t : State => calibrationOf t.scu.ports) _ (by intro p t; split <;> simp) s

@[simp] theorem State.dequeue_calibration (s : State) (p : Port) :
    calibrationOf (s.dequeue p).scu.ports = calibrationOf s.scu.ports := by
  unfold State.dequeue
  dsimp only
  split <;> simp

@[simp] theorem State.takeIn_calibration (s : State) (e : ReadEntry) (carried : Bool) (i : Intake) :
    calibrationOf (s.takeIn e carried i).scu.ports = calibrationOf s.scu.ports := by
  cases i <;> simp [State.takeIn]

@[simp] theorem State.takeEntry_calibration (s : State) (e : ReadEntry) :
    calibrationOf (s.takeEntry e).scu.ports = calibrationOf s.scu.ports := by
  unfold State.takeEntry
  simp

/-! ### Parameters -/

@[simp] theorem State.setFollows_calibration (s : State) (v : Bool) (p : Port) :
    calibrationOf (s.setFollows v p).scu.ports = calibrationOf s.scu.ports := by
  unfold State.setFollows
  dsimp only
  split <;> simp

@[simp] theorem State.setPortParam_calibration (s : State) (i v : Nat) (p : Port) :
    calibrationOf (s.setPortParam i v p).scu.ports = calibrationOf s.scu.ports := by
  unfold State.setPortParam
  split <;> simp

@[simp] theorem State.applyParam_calibration (s : State) (i j v : Nat) :
    calibrationOf (s.applyParam i j v).scu.ports = calibrationOf s.scu.ports := by
  unfold State.applyParam
  split
  · exact foldl_keeps (fun t : State => calibrationOf t.scu.ports) _ (by simp) _ _
  · (repeat' split) <;> simp

/-! ### ABORT-PASS and RESTART (R28, R40) -/

@[simp] theorem State.abandonCalibration_calibration (s : State) :
    calibrationOf s.abandonCalibration.scu.ports = calibrationOf s.scu.ports := by
  unfold State.abandonCalibration
  simp

@[simp] theorem State.abortScu_calibration (s : State) :
    calibrationOf s.abortScu.scu.ports = calibrationOf s.scu.ports := by
  unfold State.abortScu
  split <;> simp

@[simp] theorem State.endWork_calibration (s : State) :
    calibrationOf s.endWork.scu.ports = calibrationOf s.scu.ports := by
  unfold State.endWork
  simp

@[simp] theorem State.abort_calibration (s : State) (tag : Byte) :
    calibrationOf (s.abort tag).scu.ports = calibrationOf s.scu.ports := by
  unfold State.abort
  split <;> simp

@[simp] theorem State.restartWork_calibration (s : State) :
    calibrationOf s.restartWork.scu.ports = calibrationOf s.scu.ports := by
  unfold State.restartWork
  split <;> simp

@[simp] theorem State.restartQueues_calibration (s : State) :
    calibrationOf s.restartQueues.scu.ports = calibrationOf s.scu.ports := by
  unfold State.restartQueues
  simp

@[simp] theorem State.restart_calibration (s : State) (tag : Byte) :
    calibrationOf (s.restart tag).scu.ports = calibrationOf s.scu.ports := by
  unfold State.restart
  simp

/-! ### Bytes received on the uplink -/

@[simp] theorem resumeStep_scu (s : State) : (resumeStep s).scu = s.scu := by
  unfold resumeStep
  split <;> simp

@[simp] theorem State.sortFrame_calibration (s : State) (f : MgmtFrame) :
    calibrationOf (s.sortFrame f).scu.ports = calibrationOf s.scu.ports := by
  unfold State.sortFrame
  (repeat' split) <;> simp [pauseStep]

@[simp] theorem State.uplinkByte_calibration (s : State) (b : Byte) :
    calibrationOf (s.uplinkByte b).scu.ports = calibrationOf s.scu.ports := by
  unfold State.uplinkByte State.judgeUplink
  dsimp only
  (repeat' split) <;> simp

/-! ### Dispatched exchanges -/

/-- A dispatched exchange keeps the values when its action does. -/
theorem State.dispatch_calibration (s : State) (mine : MgmtFrame → Bool) (act : MgmtFrame → State → State)
    (hact : ∀ f t, calibrationOf (act f t).scu.ports = calibrationOf t.scu.ports) :
    calibrationOf (s.dispatch mine act).scu.ports = calibrationOf s.scu.ports := by
  unfold State.dispatch
  (repeat' split) <;> simp [hact]

theorem resetPortQueuesAct_calibration (f : MgmtFrame) (s : State) :
    calibrationOf (resetPortQueuesAct f s).scu.ports = calibrationOf s.scu.ports := by
  unfold resetPortQueuesAct
  split <;> simp

theorem setParamAct_calibration (f : MgmtFrame) (s : State) :
    calibrationOf (setParamAct f s).scu.ports = calibrationOf s.scu.ports := by
  unfold setParamAct
  (repeat' split) <;> simp

theorem calibrateAct_calibration (f : MgmtFrame) (s : State) :
    calibrationOf (calibrateAct f s).scu.ports = calibrationOf s.scu.ports := by
  unfold calibrateAct
  (repeat' split) <;> simp

theorem identifyAct_scu (f : MgmtFrame) (s : State) : (identifyAct f s).scu = s.scu := by
  unfold identifyAct
  split <;> simp

theorem getParamAct_scu (f : MgmtFrame) (s : State) : (getParamAct f s).scu = s.scu := by
  unfold getParamAct
  (repeat' split) <;> simp

theorem readStatusAct_scu (f : MgmtFrame) (s : State) : (readStatusAct f s).scu = s.scu := by
  unfold readStatusAct
  split <;> simp

theorem State.beginLoad_scu (s : State) (f : MgmtFrame) (size : Nat) (hold : List (List Byte) → Exchange) :
    (s.beginLoad f size hold).scu = s.scu := by
  unfold State.beginLoad
  (repeat' split) <;> simp

theorem clearTablesAct_scu (f : MgmtFrame) (s : State) : (clearTablesAct f s).scu = s.scu := by
  unfold clearTablesAct
  (repeat' split) <;> simp

theorem openPassAct_scu (f : MgmtFrame) (s : State) : (openPassAct f s).scu = s.scu := by
  unfold openPassAct
  (repeat' split) <;> simp

theorem rehearseAct_scu (f : MgmtFrame) (s : State) : (rehearseAct f s).scu = s.scu := by
  unfold rehearseAct
  (repeat' split) <;> simp

theorem closePassAct_scu (f : MgmtFrame) (s : State) : (closePassAct f s).scu = s.scu := by
  unfold closePassAct
  (repeat' split) <;> simp

/-! ### The rows that leave SCU alone -/

theorem State.frontEndByte_scu (l : Link) (s : State) (b : Byte) : (s.frontEndByte l b).scu = s.scu := by
  unfold State.frontEndByte
  dsimp only
  split <;> simp

theorem frontEndFrameJudgedStep_scu (l : Link) (bytes : List Byte) (s : State) :
    (frontEndFrameJudgedStep l bytes s).scu = s.scu :=
  foldl_keeps State.scu _ (State.frontEndByte_scu l) bytes s

theorem sweepFrameSentStep_scu (l : Link) (s : State) : (sweepFrameSentStep l s).scu = s.scu := by
  unfold sweepFrameSentStep
  split <;> simp

theorem sweepStartStep_scu (g : Generator) (s : State) : (sweepStartStep g s).scu = s.scu := by
  unfold sweepStartStep
  split <;> simp

theorem aStartStep_scu (s : State) : (aStartStep s).scu = s.scu := by
  unfold aStartStep
  split <;> simp

theorem bStartStep_scu (s : State) : (bStartStep s).scu = s.scu := by
  unfold bStartStep
  (repeat' split) <;> simp

theorem sectionOpenAfterWaitStep_scu (s : State) : (sectionOpenAfterWaitStep s).scu = s.scu := by
  unfold sectionOpenAfterWaitStep
  (repeat' split) <;> simp

theorem overfullFindingWriteStep_scu (s : State) : (overfullFindingWriteStep s).scu = s.scu := by
  unfold overfullFindingWriteStep
  (repeat' split) <;> simp

theorem quietExpiryStep_scu (s : State) : (quietExpiryStep s).scu = s.scu := by
  unfold quietExpiryStep
  (repeat' split) <;> simp

theorem quietCloseStep_scu (x : SectionId) (s : State) : (quietCloseStep x s).scu = s.scu := by
  unfold quietCloseStep
  (repeat' split) <;> simp

theorem forcePlaceAndRetireStep_scu (s : State) : (forcePlaceAndRetireStep s).scu = s.scu := by
  unfold forcePlaceAndRetireStep
  split <;> simp

theorem reporterTakeSectionStep_scu (s : State) : (reporterTakeSectionStep s).scu = s.scu := by
  unfold reporterTakeSectionStep
  (repeat' split) <;> simp

theorem findingWriteStep_scu (s : State) : (findingWriteStep s).scu = s.scu := by
  unfold findingWriteStep
  dsimp only
  (repeat' split) <;> simp

theorem sectionSummaryWriteStep_scu (s : State) : (sectionSummaryWriteStep s).scu = s.scu := by
  unfold sectionSummaryWriteStep
  (repeat' split) <;> simp

theorem drainCompleteStep_scu (s : State) : (drainCompleteStep s).scu = s.scu := by
  unfold drainCompleteStep
  split <;> simp

theorem settleStep_scu (s : State) : (settleStep s).scu = s.scu := by
  unfold settleStep
  split <;> simp

theorem tallyFindingWriteStep_scu (s : State) : (tallyFindingWriteStep s).scu = s.scu := by
  unfold tallyFindingWriteStep
  (repeat' split) <;> simp

theorem tallyWalkEndStep_scu (s : State) : (tallyWalkEndStep s).scu = s.scu := by
  unfold tallyWalkEndStep
  dsimp only
  (repeat' split) <;> simp

theorem clockLimitStep_scu (s : State) : (clockLimitStep s).scu = s.scu := by
  unfold clockLimitStep
  split <;> simp

theorem preparingWalkEndStep_scu (s : State) : (preparingWalkEndStep s).scu = s.scu := by
  unfold preparingWalkEndStep
  split <;> simp

theorem activityWindowEndStep_scu (s : State) : (activityWindowEndStep s).scu = s.scu := by
  unfold activityWindowEndStep
  (repeat' split)
  · rfl
  · simp only [State.startWindow_frame]
    exact (forPorts_keeps State.scu _ (by simp) _).trans (by simp)
  · rfl

theorem loadCompleteStep_scu (s : State) : (loadCompleteStep s).scu = s.scu := by
  unfold loadCompleteStep State.endLoad
  split <;> simp

theorem replyFrameStep_scu (s : State) : (replyFrameStep s).scu = s.scu := by
  unfold replyFrameStep
  (repeat' split) <;> simp

theorem alertFrameStep_scu (s : State) : (alertFrameStep s).scu = s.scu := by
  unfold alertFrameStep
  (repeat' split) <;> simp

theorem reportFrameStep_scu (s : State) : (reportFrameStep s).scu = s.scu := by
  unfold reportFrameStep
  (repeat' split) <;> simp

theorem flushTimeExpiryStep_scu (s : State) : (flushTimeExpiryStep s).scu = s.scu := by
  unfold flushTimeExpiryStep
  split <;> simp

theorem uplinkFrameEndStep_scu (s : State) : (uplinkFrameEndStep s).scu = s.scu := by
  unfold uplinkFrameEndStep
  split <;> simp

/-! ### Time passing -/

/-- The rows that can fall due while no command waits. -/
theorem State.dueEvent_cases (s : State) (f : State → State) (hf : s.dueEvent = some f) :
    (∃ g, f = sweepStartStep g) ∨ f = bStartStep ∨ f = aStartStep ∨ f = activityWindowEndStep ∨ f = clockLimitStep ∨
      (∃ x, f = quietCloseStep x) ∨ f = quietExpiryStep ∨ f = flushTimeExpiryStep := by
  unfold State.dueEvent at hf
  (repeat' split at hf) <;> cases hf <;> simp

theorem State.dueEvent_scu (s : State) (f : State → State) (hf : s.dueEvent = some f) (t : State) :
    (f t).scu = t.scu := by
  obtain ⟨g, rfl⟩ | rfl | rfl | rfl | rfl | ⟨x, rfl⟩ | rfl | rfl := s.dueEvent_cases f hf
  · exact sweepStartStep_scu g t
  · exact bStartStep_scu t
  · exact aStartStep_scu t
  · exact activityWindowEndStep_scu t
  · exact clockLimitStep_scu t
  · exact quietCloseStep_scu x t
  · exact quietExpiryStep_scu t
  · exact flushTimeExpiryStep_scu t

theorem State.tick_scu (s : State) : s.tick.scu = s.scu := by
  unfold State.tick State.walkStep State.advanceClocks
  dsimp only
  (repeat' split) <;> simp

theorem idle_scu (s : State) : (idle s).scu = s.scu := by
  unfold idle
  split
  · rfl
  · split
    case h_1 f hf => exact s.dueEvent_scu f hf s
    case h_2 => exact s.tick_scu

/-! ### Every step but power-on, RESET and a completion -/

theorem readTakeStep_calibration (s : State) :
    calibrationOf (readTakeStep s).scu.ports = calibrationOf s.scu.ports := by
  unfold readTakeStep
  (repeat' split) <;> simp

theorem qholdAssertStep_calibration (s : State) :
    calibrationOf (qholdAssertStep s).scu.ports = calibrationOf s.scu.ports := by
  unfold qholdAssertStep
  split
  · rfl
  · exact (forPorts_keeps (fun t : State => calibrationOf t.scu.ports) _ (by intro p t; split <;> simp) _).trans (by simp)

/-- Outside CALIBRATING no run can be complete (R34). -/
theorem calibrationCompleteStep_of_not_calibrating (s : State) (hs : s.psc.state ≠ .calibrating) :
    calibrationCompleteStep s = s := by
  simp [calibrationCompleteStep, State.calibrationDone, hs]

theorem uplinkFrameJudgedStep_calibration (bytes : List Byte) (s : State) :
    calibrationOf (uplinkFrameJudgedStep bytes s).scu.ports = calibrationOf s.scu.ports :=
  foldl_keeps (fun t : State => calibrationOf t.scu.ports) _ State.uplinkByte_calibration bytes s

section Live

variable {s t : State} {f : State → State}

/-- A row that RESET holds back keeps the values when its step does. -/
theorem live_calibration (h : live s f = .next t) (hf : calibrationOf (f s).scu.ports = calibrationOf s.scu.ports) :
    calibrationOf t.scu.ports = calibrationOf s.scu.ports := by
  unfold live at h
  cases h
  split
  · rfl
  · exact hf

theorem live_calibration_of_scu (h : live s f = .next t) (hf : (f s).scu = s.scu) :
    calibrationOf t.scu.ports = calibrationOf s.scu.ports :=
  live_calibration h (by rw [hf])

/-- A dispatched row keeps the values when the exchange's action does. -/
theorem live_calibration_of_dispatch {mine : MgmtFrame → Bool} {act : MgmtFrame → State → State}
    (h : live s (State.dispatch · mine act) = .next t)
    (hact : ∀ f u, calibrationOf (act f u).scu.ports = calibrationOf u.scu.ports) :
    calibrationOf t.scu.ports = calibrationOf s.scu.ports :=
  live_calibration h (s.dispatch_calibration mine act hact)

theorem live_calibration_of_dispatch_scu {mine : MgmtFrame → Bool} {act : MgmtFrame → State → State}
    (h : live s (State.dispatch · mine act) = .next t) (hact : ∀ f u, (act f u).scu = u.scu) :
    calibrationOf t.scu.ports = calibrationOf s.scu.ports :=
  live_calibration_of_dispatch h (fun f u => by rw [hact])

end Live

/-- The offsets and gains change at power-on, at the RESET line and at the completion of a run alone (R27, R38, R145). -/
theorem exec_calibration (c : Instr) (s t : State) (h : exec c s = .next t) (hon : c ≠ .powerOn) (hreset : c ≠ .resetLine)
    (hrun : c = .calibrationComplete → s.psc.state ≠ .calibrating) :
    calibrationOf t.scu.ports = calibrationOf s.scu.ports := by
  cases c with
  | powerOn => exact absurd rfl hon
  | resetLine => exact absurd rfl hreset
  | calibrationComplete =>
    exact live_calibration_of_scu h (by rw [calibrationCompleteStep_of_not_calibrating s (hrun rfl)])
  | resetLineRelease => cases h; rfl
  | qholdAssert =>
    cases h
    split
    · rfl
    · exact qholdAssertStep_calibration s
  | qholdRelease => cases h; rfl
  | readTake => exact live_calibration h (readTakeStep_calibration s)
  | uplinkFrameJudged bytes => exact live_calibration h (uplinkFrameJudgedStep_calibration bytes s)
  | abortPass tag => exact live_calibration (f := (State.abort · tag)) h (s.abort_calibration tag)
  | restart tag => exact live_calibration (f := (State.restart · tag)) h (s.restart_calibration tag)
  | setParam => exact live_calibration_of_dispatch h setParamAct_calibration
  | resetPortQueues => exact live_calibration_of_dispatch h resetPortQueuesAct_calibration
  | resetPortQueuesGlobal => exact live_calibration_of_dispatch h resetPortQueuesAct_calibration
  | calibrate => exact live_calibration_of_dispatch h calibrateAct_calibration
  | identify => exact live_calibration_of_dispatch_scu h identifyAct_scu
  | getParam => exact live_calibration_of_dispatch_scu h getParamAct_scu
  | readStatusPass => exact live_calibration_of_dispatch_scu h readStatusAct_scu
  | readStatusPorts => exact live_calibration_of_dispatch_scu h readStatusAct_scu
  | readStatusCalibration => exact live_calibration_of_dispatch_scu h readStatusAct_scu
  | readStatusCounters => exact live_calibration_of_dispatch_scu h readStatusAct_scu
  | readStatusLinks => exact live_calibration_of_dispatch_scu h readStatusAct_scu
  | loadHoldings => exact live_calibration_of_dispatch_scu h (fun f u => u.beginLoad_scu f _ _)
  | loadSections => exact live_calibration_of_dispatch_scu h (fun f u => u.beginLoad_scu f _ _)
  | clearTables => exact live_calibration_of_dispatch_scu h clearTablesAct_scu
  | openPass => exact live_calibration_of_dispatch_scu h openPassAct_scu
  | rehearse => exact live_calibration_of_dispatch_scu h rehearseAct_scu
  | closePass => exact live_calibration_of_dispatch_scu h closePassAct_scu
  | badKind => exact live_calibration_of_dispatch_scu h (fun f u => by simp [badKindAct])
  | frontEndFrameJudged link bytes => exact live_calibration_of_scu h (frontEndFrameJudgedStep_scu link bytes s)
  | sweepFrameSent link => exact live_calibration_of_scu h (sweepFrameSentStep_scu link s)
  | sweepStart g => exact live_calibration_of_scu h (sweepStartStep_scu g s)
  | aStart => exact live_calibration_of_scu h (aStartStep_scu s)
  | bStart => exact live_calibration_of_scu h (bStartStep_scu s)
  | sectionOpenAfterWait => exact live_calibration_of_scu h (sectionOpenAfterWaitStep_scu s)
  | overfullFindingWrite => exact live_calibration_of_scu h (overfullFindingWriteStep_scu s)
  | quietExpiry => exact live_calibration_of_scu h (quietExpiryStep_scu s)
  | quietClose sec => exact live_calibration_of_scu h (quietCloseStep_scu sec s)
  | forcePlaceAndRetire => exact live_calibration_of_scu h (forcePlaceAndRetireStep_scu s)
  | reporterTakeSection => exact live_calibration_of_scu h (reporterTakeSectionStep_scu s)
  | findingWrite => exact live_calibration_of_scu h (findingWriteStep_scu s)
  | sectionSummaryWrite => exact live_calibration_of_scu h (sectionSummaryWriteStep_scu s)
  | drainComplete => exact live_calibration_of_scu h (drainCompleteStep_scu s)
  | settle => exact live_calibration_of_scu h (settleStep_scu s)
  | tallyFindingWrite => exact live_calibration_of_scu h (tallyFindingWriteStep_scu s)
  | tallyWalkEnd => exact live_calibration_of_scu h (tallyWalkEndStep_scu s)
  | clockLimit => exact live_calibration_of_scu h (clockLimitStep_scu s)
  | preparingWalkEnd => exact live_calibration_of_scu h (preparingWalkEndStep_scu s)
  | activityWindowEnd => exact live_calibration_of_scu h (activityWindowEndStep_scu s)
  | pause => exact live_calibration_of_scu h rfl
  | resume => exact live_calibration_of_scu h (resumeStep_scu s)
  | loadComplete => exact live_calibration_of_scu h (loadCompleteStep_scu s)
  | replyFrame => exact live_calibration_of_scu h (replyFrameStep_scu s)
  | alertFrame => exact live_calibration_of_scu h (alertFrameStep_scu s)
  | reportFrame => exact live_calibration_of_scu h (reportFrameStep_scu s)
  | flushTimeExpiry => exact live_calibration_of_scu h (flushTimeExpiryStep_scu s)
  | uplinkFrameEnd => exact live_calibration_of_scu h (uplinkFrameEndStep_scu s)

theorem step_calibration (s t : State) (h : step s = .next t) (hon : s.pending.head? ≠ some .powerOn)
    (hreset : s.pending.head? ≠ some .resetLine)
    (hrun : s.pending.head? = some .calibrationComplete → s.psc.state ≠ .calibrating) :
    calibrationOf t.scu.ports = calibrationOf s.scu.ports := by
  cases hp : s.pending with
  | nil =>
    rw [step, hp] at h
    cases h
    rw [idle_scu]
  | cons c rest =>
    rw [step, hp] at h
    simp only [hp, List.head?_cons, ne_eq, Option.some.injEq] at hon hreset hrun
    exact exec_calibration c (s.setPending rest) t h hon hreset hrun

/-! ### The conversion (R27) -/

theorem convert_of_le (o : Int) (g r : Nat) (h : (r : Int) ≤ o) : convert o g r = 0 := by
  rw [convert, if_pos (by omega)]

/-- The conversion above the offset, in the integers, where the difference is not cut off. -/
theorem convert_of_lt (o : Int) (g r : Nat) (h : o < r) :
    (convert o g r : Int) = min 255 ((((r : Int) - o) * g + 512) / 1024) := by
  rw [convert, if_neg (by omega)]
  push_cast
  rw [Int.toNat_of_nonneg (by omega)]

/-- Half the divisor added before a division by 1,024 rounds the quotient half up. -/
theorem add_half_div_eq_floor (n : Int) : (n + 512) / 1024 = ⌊(n : ℚ) / 1024 + 1 / 2⌋ := by
  have hsum : (n : ℚ) / 1024 + 1 / 2 = ((n + 512 : Int) : ℚ) / (1024 : Nat) := by
    push_cast
    ring
  rw [hsum, Rat.floor_intCast_div_natCast]
  rfl

/-- The largest product of R27, at the ends of the ranges of the raw strength, the offset and the gain. -/
theorem product_le (o : Int) (g r : Nat) (hr : r ≤ 255) (ho : -128 ≤ o) (hg : g ≤ 4095) :
    ((r : Int) - o) * g + 512 ≤ 1568897 := by
  have hdiff : ((r : Int) - o) * g ≤ 383 * g := Int.mul_le_mul_of_nonneg_right (by omega) (by omega)
  omega

theorem convert_eq_zero_iff (o : Int) (g r : Nat) (h : o < r) (hg : 256 ≤ g) :
    convert o g r = 0 ↔ (r : Int) - o = 1 ∧ g < 512 := by
  have hc := convert_of_lt o g r h
  obtain hone | htwo : (r : Int) - o = 1 ∨ 2 ≤ (r : Int) - o := by omega
  · rw [hone] at hc
    omega
  · have hprod : 2 * (g : Int) ≤ ((r : Int) - o) * g := Int.mul_le_mul_of_nonneg_right htwo (by omega)
    omega

/-- The power-on values, offset 0 and gain 1,024, convert a raw strength to itself. -/
theorem convert_powerOn (r : Nat) (hr : r ≤ 255) : convert 0 1024 r = r := by
  unfold convert
  split <;> omega

/-- Settles O19: the arithmetic of `convert`, and the frame of every step on the offsets and gains. -/
theorem strengthConversion : Obligations.StrengthConversion := by
  refine ⟨fun o g r => ⟨convert_of_le o g r, fun h => ⟨convert_of_lt o g r h, add_half_div_eq_floor _⟩, product_le o g r,
    convert_eq_zero_iff o g r⟩, by norm_num, convert_powerOn, fun _ _ => rfl, ?_⟩
  intro s t h hon hreset hrun
  exact (calibrationOf_eq_iff _ _).mp (step_calibration s t h hon hreset hrun)

end Sys2Proof.Machine
end

section
/-! SUPPORT. PAUSE and the frame in transmission (R162): what every operation and every row does to them. -/

namespace Sys2Proof.Machine

/-! ### The frame in transmission while PAUSE is set -/

/-- While PAUSE is set, what the uplink transmitter sends, if anything; `none` while PAUSE is clear. -/
def Ulp.heldFrame (u : Ulp) : Option (Option UpFrame) := if u.paused then some u.sending else none

theorem Ulp.heldFrame_of_paused {u : Ulp} (h : u.paused = true) : u.heldFrame = some u.sending := if_pos h

@[simp] theorem Ulp.heldFrame_eq_none_iff (u : Ulp) : u.heldFrame = none ↔ u.paused = false := by
  simp [Ulp.heldFrame]

/-- An update of the fields other than `paused` and `sending`. -/
@[simp] theorem Ulp.heldFrame_update (u : Ulp) (rx : Rx) (mgmt : List MgmtFrame) (inHand : Option Exchange)
    (replies : List Reply) (reports : List QueuedRecord) (alerts : List Alert) (hold : Bool) (number now : Nat)
    (counters : UlpCounters) :
    Ulp.heldFrame ⟨rx, mgmt, inHand, replies, reports, alerts, u.paused, hold, u.sending, number, now, counters⟩ =
      u.heldFrame := rfl

/-! ### Alerts, replies, records and HOLD -/

@[simp] theorem State.countUlp_heldFrame (s : State) (f : UlpCounters → UlpCounters) :
    (s.countUlp f).ulp.heldFrame = s.ulp.heldFrame := by
  unfold State.countUlp
  simp

@[simp] theorem State.postAlert_heldFrame (s : State) (x : Alert) : (s.postAlert x).ulp.heldFrame = s.ulp.heldFrame := by
  unfold State.postAlert
  simp

@[simp] theorem State.queueReply_heldFrame (s : State) (r : Reply) : (s.queueReply r).ulp.heldFrame = s.ulp.heldFrame := by
  unfold State.queueReply
  split <;> simp

@[simp] theorem State.requestHold_heldFrame (s : State) : s.requestHold.ulp.heldFrame = s.ulp.heldFrame := by
  unfold State.requestHold
  simp

@[simp] theorem State.appendRecord_heldFrame (s : State) (r : Record) :
    (s.appendRecord r).ulp.heldFrame = s.ulp.heldFrame := by
  unfold State.appendRecord
  simp

@[simp] theorem State.writeRecord_heldFrame (s : State) (r : Record) :
    (s.writeRecord r).ulp.heldFrame = s.ulp.heldFrame := by
  unfold State.writeRecord
  split <;> simp

@[simp] theorem State.writeActivity_heldFrame (s : State) (r : Record) :
    (s.writeActivity r).ulp.heldFrame = s.ulp.heldFrame := by
  unfold State.writeActivity
  split <;> simp

/-! ### Read entries and sweeps -/

@[simp] theorem State.overflowDrop_heldFrame (s : State) (p : Port) :
    (s.overflowDrop p).ulp.heldFrame = s.ulp.heldFrame := by
  unfold State.overflowDrop
  split <;> simp

@[simp] theorem State.arrive_heldFrame (s : State) (e : ReadEntry) : (s.arrive e).ulp.heldFrame = s.ulp.heldFrame := by
  unfold State.arrive
  (repeat' split) <;> simp

@[simp] theorem State.rhgPresent_heldFrame (s : State) (y : Section) (n : Nat) :
    (s.rhgPresent y n).ulp.heldFrame = s.ulp.heldFrame := by
  unfold State.rhgPresent
  split <;> simp

@[simp] theorem State.rhgAdvance_heldFrame (s : State) (l : List Side) (n : Nat) :
    (s.rhgAdvance l n).ulp.heldFrame = s.ulp.heldFrame := by
  unfold State.rhgAdvance
  dsimp only
  (repeat' split) <;> simp

@[simp] theorem State.rhgStart_heldFrame (s : State) (l : List Side) (n : Nat) (b : Bool) :
    (s.rhgStart l n b).ulp.heldFrame = s.ulp.heldFrame := by
  unfold State.rhgStart
  (repeat' split) <;> simp

@[simp] theorem State.countTransit_heldFrame (s : State) (p : Port) :
    (s.countTransit p).ulp.heldFrame = s.ulp.heldFrame := by
  unfold State.countTransit
  dsimp only
  (repeat' split) <;> simp

@[simp] theorem State.sweepStarted_heldFrame (s : State) (l : List Side) (n : Nat) (b : Bool) :
    (s.sweepStarted l n b).ulp.heldFrame = s.ulp.heldFrame := by
  unfold State.sweepStarted
  simp only [State.rhgStart_heldFrame]
  exact forPorts_keeps (fun t : State => t.ulp.heldFrame) _ (by intro p t; split <;> simp) _

@[simp] theorem State.withholdStart_heldFrame (s : State) (g : Generator) :
    (s.withholdStart g).ulp.heldFrame = s.ulp.heldFrame := by
  unfold State.withholdStart
  dsimp only
  split <;> simp

@[simp] theorem State.freeStart_heldFrame (s : State) (g : Generator) : (s.freeStart g).ulp.heldFrame = s.ulp.heldFrame := by
  unfold State.freeStart
  simp only [State.sweepStarted_heldFrame, State.modGen_frame]
  exact foldl_keeps (fun t : State => t.ulp.heldFrame) _ (by simp) _ _

@[simp] theorem State.interleavedStart_heldFrame (s : State) : s.interleavedStart.ulp.heldFrame = s.ulp.heldFrame := by
  unfold State.interleavedStart
  simp only [State.sweepStarted_heldFrame, State.setSwg_ulp]
  exact foldl_keeps (fun t : State => t.ulp.heldFrame) _ (by simp) _ _

@[simp] theorem State.attemptStart_heldFrame (s : State) (g : Generator) :
    (s.attemptStart g).ulp.heldFrame = s.ulp.heldFrame := by
  unfold State.attemptStart
  (repeat' split) <;> simp

@[simp] theorem State.startIfActive_heldFrame (s : State) (g : Generator) :
    (s.startIfActive g).ulp.heldFrame = s.ulp.heldFrame := by
  unfold State.startIfActive
  split <;> simp

@[simp] theorem State.startGenerators_heldFrame (s : State) : s.startGenerators.ulp.heldFrame = s.ulp.heldFrame := by
  unfold State.startGenerators
  simp

@[simp] theorem State.releaseStart_heldFrame (s : State) (h : Bool) (g : Generator) :
    (s.releaseStart h g).ulp.heldFrame = s.ulp.heldFrame := by
  unfold State.releaseStart
  split <;> simp

@[simp] theorem State.releaseHold_heldFrame (s : State) : s.releaseHold.ulp.heldFrame = s.ulp.heldFrame := by
  unfold State.releaseHold
  simp

@[simp] theorem State.releaseIfLow_heldFrame (s : State) : s.releaseIfLow.ulp.heldFrame = s.ulp.heldFrame := by
  unfold State.releaseIfLow
  split <;> simp

@[simp] theorem State.retestHold_heldFrame (s : State) : s.retestHold.ulp.heldFrame = s.ulp.heldFrame := by
  unfold State.retestHold
  split <;> simp

@[simp] theorem State.makeB_heldFrame (s : State) (b : BStart) : (s.makeB b).ulp.heldFrame = s.ulp.heldFrame := by
  unfold State.makeB
  split <;> simp

/-! ### The arbiter (R159) -/

theorem State.transmit_heldFrame (s : State) (f : UpFrame) (h : s.ulp.paused = false) :
    (s.transmit f).ulp.heldFrame = none := by
  simpa [State.transmit] using h

/-- With PAUSE clear a chosen frame begins and PAUSE stays clear. -/
theorem State.sendChoice_heldFrame (s : State) (c : Choice) (h : s.ulp.paused = false) :
    (s.sendChoice c).ulp.heldFrame = none := by
  cases c with
  | reply r => exact State.transmit_heldFrame _ _ h
  | alert => exact State.transmit_heldFrame _ _ h
  | report =>
    simp only [State.sendChoice, State.sendReport, State.releaseIfLow_heldFrame, State.countUlp_heldFrame]
    exact State.transmit_heldFrame _ _ h
  | nothing => simpa [State.sendChoice] using h

theorem State.paused_of_mayBegin {s : State} (h : s.mayBegin = true) : s.ulp.paused = false := by
  simp only [State.mayBegin, Bool.and_eq_true, Bool.not_eq_true'] at h
  exact h.2

/-- While PAUSE is set no decision is made (R162). -/
theorem State.arbitrate_of_paused (s : State) (h : s.ulp.paused = true) : s.arbitrate = s := by
  simp [State.arbitrate, State.mayBegin, h]

@[simp] theorem State.arbitrate_heldFrame (s : State) : s.arbitrate.ulp.heldFrame = s.ulp.heldFrame := by
  unfold State.arbitrate
  split
  case isTrue h =>
    have hclear := State.paused_of_mayBegin h
    rw [s.sendChoice_heldFrame _ hclear, (Ulp.heldFrame_eq_none_iff _).mpr hclear]
  case isFalse => rfl

/-! ### Placing, sections and facings -/

@[simp] theorem State.disposeFull_heldFrame (s : State) (x : SectionId) (e : Sighting) (k : Confidence) (r : Continuation) :
    (s.disposeFull x e k r).ulp.heldFrame = s.ulp.heldFrame := by
  unfold State.disposeFull
  dsimp only
  (repeat' split) <;> simp

@[simp] theorem State.place_heldFrame (s : State) (n : Nat) (r : Route) (c : Continuation) :
    (s.place n r c).ulp.heldFrame = s.ulp.heldFrame := by
  unfold State.place
  (repeat' split) <;> simp

@[simp] theorem State.placeMany_heldFrame (s : State) (l : List Nat) (r : Route) (c : Continuation) :
    (s.placeMany l r c).ulp.heldFrame = s.ulp.heldFrame := by
  unfold State.placeMany
  exact foldl_keeps (fun t : State => t.ulp.heldFrame) _ (by intro t n; split <;> simp) _ _

@[simp] theorem State.forcePlaceRun_heldFrame (s : State) (x : SectionId) (r : Option OpenRequest) :
    (s.forcePlaceRun x r).ulp.heldFrame = s.ulp.heldFrame := by
  unfold State.forcePlaceRun
  dsimp only
  split <;> simp

@[simp] theorem State.settleRun_heldFrame (s : State) : s.settleRun.ulp.heldFrame = s.ulp.heldFrame := by
  unfold State.settleRun
  dsimp only
  split <;> simp

@[simp] theorem State.makeRoom_heldFrame (s : State) (r : OpenRequest) : (s.makeRoom r).ulp.heldFrame = s.ulp.heldFrame := by
  unfold State.makeRoom
  split <;> simp

@[simp] theorem State.enterSection_heldFrame (s : State) (x : SectionId) (d : Direction) :
    (s.enterSection x d).ulp.heldFrame = s.ulp.heldFrame := by
  unfold State.enterSection
  (repeat' split) <;> simp

@[simp] theorem State.changeFacing_heldFrame (s : State) (p : Port) (x : SectionId) (y : Section) :
    (s.changeFacing p x y).ulp.heldFrame = s.ulp.heldFrame := by
  unfold State.changeFacing
  simp

@[simp] theorem State.firstFacing_heldFrame (s : State) (p : Port) (y : Section) :
    (s.firstFacing p y).ulp.heldFrame = s.ulp.heldFrame := by
  unfold State.firstFacing
  simp

@[simp] theorem State.acceptMarker_heldFrame (s : State) (p : Port) (y : Section) :
    (s.acceptMarker p y).ulp.heldFrame = s.ulp.heldFrame := by
  unfold State.acceptMarker
  (repeat' split) <;> simp

@[simp] theorem State.testMarker_heldFrame (s : State) (p : Port) (g : TagCode) (c : Nat) :
    (s.testMarker p g c).ulp.heldFrame = s.ulp.heldFrame := by
  unfold State.testMarker
  (repeat' split) <;> simp

@[simp] theorem State.markerRead_heldFrame (s : State) (p : Port) (g : TagCode) (c : Nat) :
    (s.markerRead p g c).ulp.heldFrame = s.ulp.heldFrame := by
  unfold State.markerRead
  simp

/-! ### Sightings, reads taken and calibration -/

@[simp] theorem State.confirmTest_heldFrame (s : State) (n : Nat) : (s.confirmTest n).ulp.heldFrame = s.ulp.heldFrame := by
  unfold State.confirmTest
  (repeat' split) <;> simp

@[simp] theorem State.moveEntry_heldFrame (s : State) (e : Sighting) (x : SectionId) (c : Candidate) :
    (s.moveEntry e x c).ulp.heldFrame = s.ulp.heldFrame := by
  unfold State.moveEntry
  split <;> simp

@[simp] theorem State.moveTest_heldFrame (s : State) (n : Nat) : (s.moveTest n).ulp.heldFrame = s.ulp.heldFrame := by
  unfold State.moveTest
  (repeat' split) <;> simp

@[simp] theorem State.makeEntry_heldFrame (s : State) (r : ItemRead) (h : Option Nat) :
    (s.makeEntry r h).ulp.heldFrame = s.ulp.heldFrame := by
  unfold State.makeEntry
  simp

@[simp] theorem State.evictFor_heldFrame (s : State) (r : ItemRead) (h : Option Nat) :
    (s.evictFor r h).ulp.heldFrame = s.ulp.heldFrame := by
  unfold State.evictFor
  dsimp only
  (repeat' split) <;> simp

@[simp] theorem State.newEntry_heldFrame (s : State) (r : ItemRead) (h : Option Nat) :
    (s.newEntry r h).ulp.heldFrame = s.ulp.heldFrame := by
  unfold State.newEntry
  (repeat' split) <;> simp

@[simp] theorem State.goOn_heldFrame (s : State) (c : Continuation) : (s.goOn c).ulp.heldFrame = s.ulp.heldFrame := by
  unfold State.goOn
  split <;> simp

@[simp] theorem State.scoreEntry_heldFrame (s : State) (e : Sighting) (r : ItemRead) :
    (s.scoreEntry e r).ulp.heldFrame = s.ulp.heldFrame := by
  unfold State.scoreEntry
  dsimp only
  (repeat' split) <;> simp

@[simp] theorem State.sight_heldFrame (s : State) (r : ItemRead) : (s.sight r).ulp.heldFrame = s.ulp.heldFrame := by
  unfold State.sight
  dsimp only
  (repeat' split) <;> simp

@[simp] theorem State.itemRead_heldFrame (s : State) (e : ReadEntry) (c : Nat) :
    (s.itemRead e c).ulp.heldFrame = s.ulp.heldFrame := by
  unfold State.itemRead
  (repeat' split) <;> simp

@[simp] theorem State.classifyRead_heldFrame (s : State) (e : ReadEntry) :
    (s.classifyRead e).ulp.heldFrame = s.ulp.heldFrame := by
  unfold State.classifyRead
  split <;> simp

@[simp] theorem State.takeIn_heldFrame (s : State) (e : ReadEntry) (b : Bool) (i : Intake) :
    (s.takeIn e b i).ulp.heldFrame = s.ulp.heldFrame := by
  unfold State.takeIn
  split <;> simp

@[simp] theorem State.takeEntry_heldFrame (s : State) (e : ReadEntry) : (s.takeEntry e).ulp.heldFrame = s.ulp.heldFrame := by
  unfold State.takeEntry
  simp

@[simp] theorem State.applyOutcomes_ulp (s : State) : s.applyOutcomes.ulp = s.ulp := by
  unfold State.applyOutcomes
  exact forPorts_keeps State.ulp _ (by simp) _

/-! ### Activity and the reporter -/

@[simp] theorem State.activityOf_heldFrame (s : State) (p : Port) : (s.activityOf p).ulp.heldFrame = s.ulp.heldFrame := by
  unfold State.activityOf
  split <;> simp

@[simp] theorem State.writeActivities_heldFrame (s : State) : s.writeActivities.ulp.heldFrame = s.ulp.heldFrame := by
  unfold State.writeActivities
  split
  · exact forPorts_keeps (fun t : State => t.ulp.heldFrame) _ (by simp) _
  · rfl

@[simp] theorem State.fallSilent_heldFrame (s : State) (p : Port) : (s.fallSilent p).ulp.heldFrame = s.ulp.heldFrame := by
  unfold State.fallSilent
  simp

@[simp] theorem State.judgeWindow_heldFrame (s : State) (p : Port) : (s.judgeWindow p).ulp.heldFrame = s.ulp.heldFrame := by
  unfold State.judgeWindow
  dsimp only
  (repeat' split) <;> simp

@[simp] theorem State.reportItem_heldFrame (s : State) (r : Reporter) (i : Item) (n : Nat) :
    (s.reportItem r i n).ulp.heldFrame = s.ulp.heldFrame := by
  unfold State.reportItem
  dsimp only
  (repeat' split) <;> simp

/-! ### Exchanges -/

@[simp] theorem State.popMgmt_heldFrame (s : State) : s.popMgmt.ulp.heldFrame = s.ulp.heldFrame := by
  unfold State.popMgmt
  simp

@[simp] theorem State.reply_heldFrame (s : State) (f : MgmtFrame) (r : ResultCode) (l : List Byte) :
    (s.reply f r l).ulp.heldFrame = s.ulp.heldFrame := by
  unfold State.reply
  simp

@[simp] theorem State.refuse_heldFrame (s : State) (f : MgmtFrame) (r : ResultCode) :
    (s.refuse f r).ulp.heldFrame = s.ulp.heldFrame := by
  unfold State.refuse
  simp

@[simp] theorem State.resetPorts_heldFrame (s : State) (f : MgmtFrame) (q : Port → Bool) :
    (s.resetPorts f q).ulp.heldFrame = s.ulp.heldFrame := by
  unfold State.resetPorts
  simp only [State.reply_heldFrame]
  exact forPorts_keeps (fun t : State => t.ulp.heldFrame) _ (by intro p t; split <;> simp) _

@[simp] theorem State.openBy_heldFrame (s : State) (f : MgmtFrame) (k : PassSource) (v : Bool) (i j : Option Nat) :
    (s.openBy f k v i j).ulp.heldFrame = s.ulp.heldFrame := by
  unfold State.openBy
  simp

@[simp] theorem State.applyParam_heldFrame (s : State) (i j v : Nat) :
    (s.applyParam i j v).ulp.heldFrame = s.ulp.heldFrame := by
  unfold State.applyParam
  split
  · exact foldl_keeps (fun t : State => t.ulp.heldFrame) _ (by simp) _ _
  · (repeat' split) <;> simp

/-! ### The pass -/

@[simp] theorem State.enterScanning_heldFrame (s : State) : s.enterScanning.ulp.heldFrame = s.ulp.heldFrame := by
  unfold State.enterScanning
  dsimp only
  split <;> simp

@[simp] theorem State.tallyOne_heldFrame (s : State) : s.tallyOne.ulp.heldFrame = s.ulp.heldFrame := by
  unfold State.tallyOne
  dsimp only
  (repeat' split) <;> simp

@[simp] theorem State.tallyRest_heldFrame (s : State) : s.tallyRest.ulp.heldFrame = s.ulp.heldFrame := by
  unfold State.tallyRest
  exact repeated_keeps (fun t : State => t.ulp.heldFrame) _ (by intro t; split <;> simp) _ _

@[simp] theorem State.writePassEnd_heldFrame (s : State) (r : PassEndReason) :
    (s.writePassEnd r).ulp.heldFrame = s.ulp.heldFrame := by
  unfold State.writePassEnd
  simp

@[simp] theorem State.abortWalk_heldFrame (s : State) : s.abortWalk.ulp.heldFrame = s.ulp.heldFrame := by
  unfold State.abortWalk
  split <;> simp

@[simp] theorem State.endWork_heldFrame (s : State) : s.endWork.ulp.heldFrame = s.ulp.heldFrame := by
  unfold State.endWork
  simp

@[simp] theorem State.abort_heldFrame (s : State) (g : Byte) : (s.abort g).ulp.heldFrame = s.ulp.heldFrame := by
  unfold State.abort
  split <;> simp

@[simp] theorem State.restartWork_heldFrame (s : State) : s.restartWork.ulp.heldFrame = s.ulp.heldFrame := by
  unfold State.restartWork
  split <;> simp

@[simp] theorem State.restartQueues_heldFrame (s : State) : s.restartQueues.ulp.heldFrame = s.ulp.heldFrame := by
  unfold State.restartQueues
  simp

/-! ### Frames from the front ends -/

@[simp] theorem State.judgeBad_heldFrame (s : State) (l : Link) : (s.judgeBad l).ulp.heldFrame = s.ulp.heldFrame := by
  unfold State.judgeBad
  split <;> simp

@[simp] theorem State.judgeGood_heldFrame (s : State) (l : Link) (f : ReadFrame) :
    (s.judgeGood l f).ulp.heldFrame = s.ulp.heldFrame := by
  unfold State.judgeGood
  split <;> simp

@[simp] theorem State.judgeFrame_heldFrame (s : State) (l : Link) (g : List Byte) :
    (s.judgeFrame l g).ulp.heldFrame = s.ulp.heldFrame := by
  unfold State.judgeFrame
  split <;> simp

/-- RESTART clears PAUSE (R143). -/
theorem State.restart_heldFrame (s : State) (tag : Byte) : (s.restart tag).ulp.heldFrame = none := by
  simp [State.restart, State.restartUplink]

/-! ### Dispatched exchanges -/

/-- A dispatched exchange keeps the held frame when its action does. -/
theorem State.dispatch_heldFrame (s : State) (mine : MgmtFrame → Bool) (act : MgmtFrame → State → State)
    (hact : ∀ f t, (act f t).ulp.heldFrame = t.ulp.heldFrame) :
    (s.dispatch mine act).ulp.heldFrame = s.ulp.heldFrame := by
  unfold State.dispatch
  (repeat' split) <;> simp [hact]

theorem identifyAct_heldFrame (f : MgmtFrame) (s : State) : (identifyAct f s).ulp.heldFrame = s.ulp.heldFrame := by
  unfold identifyAct
  split <;> simp

theorem setParamAct_heldFrame (f : MgmtFrame) (s : State) : (setParamAct f s).ulp.heldFrame = s.ulp.heldFrame := by
  unfold setParamAct
  (repeat' split) <;> simp

theorem getParamAct_heldFrame (f : MgmtFrame) (s : State) : (getParamAct f s).ulp.heldFrame = s.ulp.heldFrame := by
  unfold getParamAct
  (repeat' split) <;> simp

theorem readStatusAct_heldFrame (f : MgmtFrame) (s : State) : (readStatusAct f s).ulp.heldFrame = s.ulp.heldFrame := by
  unfold readStatusAct
  split <;> simp

theorem resetPortQueuesAct_heldFrame (f : MgmtFrame) (s : State) :
    (resetPortQueuesAct f s).ulp.heldFrame = s.ulp.heldFrame := by
  unfold resetPortQueuesAct
  split <;> simp

theorem State.beginLoad_heldFrame (s : State) (f : MgmtFrame) (size : Nat) (hold : List (List Byte) → Exchange) :
    (s.beginLoad f size hold).ulp.heldFrame = s.ulp.heldFrame := by
  unfold State.beginLoad
  (repeat' split) <;> simp

theorem clearTablesAct_heldFrame (f : MgmtFrame) (s : State) :
    (clearTablesAct f s).ulp.heldFrame = s.ulp.heldFrame := by
  unfold clearTablesAct
  (repeat' split) <;> simp

theorem calibrateAct_heldFrame (f : MgmtFrame) (s : State) : (calibrateAct f s).ulp.heldFrame = s.ulp.heldFrame := by
  unfold calibrateAct
  (repeat' split) <;> simp

theorem openPassAct_heldFrame (f : MgmtFrame) (s : State) : (openPassAct f s).ulp.heldFrame = s.ulp.heldFrame := by
  unfold openPassAct
  (repeat' split) <;> simp

theorem rehearseAct_heldFrame (f : MgmtFrame) (s : State) : (rehearseAct f s).ulp.heldFrame = s.ulp.heldFrame := by
  unfold rehearseAct
  (repeat' split) <;> simp

theorem closePassAct_heldFrame (f : MgmtFrame) (s : State) : (closePassAct f s).ulp.heldFrame = s.ulp.heldFrame := by
  unfold closePassAct
  (repeat' split) <;> simp

/-! ### The rows of the blocks -/

theorem qholdAssertStep_heldFrame (s : State) : (qholdAssertStep s).ulp.heldFrame = s.ulp.heldFrame := by
  unfold qholdAssertStep
  split
  · rfl
  · exact (forPorts_keeps (fun t : State => t.ulp.heldFrame) _ (by intro p t; split <;> simp) _).trans (by simp)

theorem State.frontEndByte_heldFrame (l : Link) (s : State) (b : Byte) :
    (s.frontEndByte l b).ulp.heldFrame = s.ulp.heldFrame := by
  unfold State.frontEndByte
  dsimp only
  split <;> simp

theorem frontEndFrameJudgedStep_heldFrame (l : Link) (bytes : List Byte) (s : State) :
    (frontEndFrameJudgedStep l bytes s).ulp.heldFrame = s.ulp.heldFrame :=
  foldl_keeps (fun t : State => t.ulp.heldFrame) _ (State.frontEndByte_heldFrame l) bytes s

theorem sweepFrameSentStep_heldFrame (l : Link) (s : State) :
    (sweepFrameSentStep l s).ulp.heldFrame = s.ulp.heldFrame := by
  unfold sweepFrameSentStep
  split <;> simp

theorem sweepStartStep_heldFrame (g : Generator) (s : State) :
    (sweepStartStep g s).ulp.heldFrame = s.ulp.heldFrame := by
  unfold sweepStartStep
  split <;> simp

theorem aStartStep_heldFrame (s : State) : (aStartStep s).ulp.heldFrame = s.ulp.heldFrame := by
  unfold aStartStep
  split <;> simp

theorem bStartStep_heldFrame (s : State) : (bStartStep s).ulp.heldFrame = s.ulp.heldFrame := by
  unfold bStartStep
  (repeat' split) <;> simp

theorem readTakeStep_heldFrame (s : State) : (readTakeStep s).ulp.heldFrame = s.ulp.heldFrame := by
  unfold readTakeStep
  (repeat' split) <;> simp

theorem sectionOpenAfterWaitStep_heldFrame (s : State) :
    (sectionOpenAfterWaitStep s).ulp.heldFrame = s.ulp.heldFrame := by
  unfold sectionOpenAfterWaitStep
  (repeat' split) <;> simp

theorem overfullFindingWriteStep_heldFrame (s : State) :
    (overfullFindingWriteStep s).ulp.heldFrame = s.ulp.heldFrame := by
  unfold overfullFindingWriteStep
  (repeat' split) <;> simp

theorem quietExpiryStep_heldFrame (s : State) : (quietExpiryStep s).ulp.heldFrame = s.ulp.heldFrame := by
  unfold quietExpiryStep
  (repeat' split) <;> simp

theorem quietCloseStep_heldFrame (x : SectionId) (s : State) :
    (quietCloseStep x s).ulp.heldFrame = s.ulp.heldFrame := by
  unfold quietCloseStep
  (repeat' split) <;> simp

theorem forcePlaceAndRetireStep_heldFrame (s : State) :
    (forcePlaceAndRetireStep s).ulp.heldFrame = s.ulp.heldFrame := by
  unfold forcePlaceAndRetireStep
  split <;> simp

theorem reporterTakeSectionStep_heldFrame (s : State) :
    (reporterTakeSectionStep s).ulp.heldFrame = s.ulp.heldFrame := by
  unfold reporterTakeSectionStep
  (repeat' split) <;> simp

theorem findingWriteStep_heldFrame (s : State) : (findingWriteStep s).ulp.heldFrame = s.ulp.heldFrame := by
  unfold findingWriteStep
  dsimp only
  (repeat' split) <;> simp

theorem sectionSummaryWriteStep_heldFrame (s : State) :
    (sectionSummaryWriteStep s).ulp.heldFrame = s.ulp.heldFrame := by
  unfold sectionSummaryWriteStep
  (repeat' split) <;> simp

theorem drainCompleteStep_heldFrame (s : State) : (drainCompleteStep s).ulp.heldFrame = s.ulp.heldFrame := by
  unfold drainCompleteStep
  split <;> simp

theorem settleStep_heldFrame (s : State) : (settleStep s).ulp.heldFrame = s.ulp.heldFrame := by
  unfold settleStep
  split <;> simp

theorem tallyFindingWriteStep_heldFrame (s : State) :
    (tallyFindingWriteStep s).ulp.heldFrame = s.ulp.heldFrame := by
  unfold tallyFindingWriteStep
  (repeat' split) <;> simp

theorem tallyWalkEndStep_heldFrame (s : State) : (tallyWalkEndStep s).ulp.heldFrame = s.ulp.heldFrame := by
  unfold tallyWalkEndStep
  dsimp only
  (repeat' split) <;> simp

theorem clockLimitStep_heldFrame (s : State) : (clockLimitStep s).ulp.heldFrame = s.ulp.heldFrame := by
  unfold clockLimitStep
  split <;> simp

theorem preparingWalkEndStep_heldFrame (s : State) :
    (preparingWalkEndStep s).ulp.heldFrame = s.ulp.heldFrame := by
  unfold preparingWalkEndStep
  split <;> simp

theorem calibrationCompleteStep_heldFrame (s : State) :
    (calibrationCompleteStep s).ulp.heldFrame = s.ulp.heldFrame := by
  unfold calibrationCompleteStep
  split <;> simp

theorem activityWindowEndStep_heldFrame (s : State) :
    (activityWindowEndStep s).ulp.heldFrame = s.ulp.heldFrame := by
  unfold activityWindowEndStep
  (repeat' split)
  · rfl
  · simp only [State.startWindow_frame]
    exact (forPorts_keeps (fun t : State => t.ulp.heldFrame) _ (by simp) _).trans (by simp)
  · rfl

theorem loadCompleteStep_heldFrame (s : State) : (loadCompleteStep s).ulp.heldFrame = s.ulp.heldFrame := by
  unfold loadCompleteStep State.endLoad
  split <;> simp

/-! ### The rows of the uplink -/

/-- The three frame rows are each the arbiter's decision, or nothing when its choice is another's (R160, R161). -/
theorem replyFrameStep_eq (s : State) : replyFrameStep s = s.arbitrate ∨ replyFrameStep s = s := by
  unfold replyFrameStep State.arbitrate
  split
  · cases s.choice <;> simp [State.sendChoice]
  · exact .inr rfl

theorem alertFrameStep_eq (s : State) : alertFrameStep s = s.arbitrate ∨ alertFrameStep s = s := by
  unfold alertFrameStep State.arbitrate
  split
  · cases s.choice <;> simp [State.sendChoice]
  · exact .inr rfl

theorem reportFrameStep_eq (s : State) : reportFrameStep s = s.arbitrate ∨ reportFrameStep s = s := by
  unfold reportFrameStep State.arbitrate
  split
  · cases s.choice <;> simp [State.sendChoice]
  · exact .inr rfl

theorem State.heldFrame_of_arbitrate_or_eq {s t : State} (h : t = s.arbitrate ∨ t = s) :
    t.ulp.heldFrame = s.ulp.heldFrame := by
  obtain rfl | rfl := h
  · exact s.arbitrate_heldFrame
  · rfl

theorem flushTimeExpiryStep_heldFrame (s : State) : (flushTimeExpiryStep s).ulp.heldFrame = s.ulp.heldFrame := by
  unfold flushTimeExpiryStep
  split <;> simp

/-- A second PAUSE changes nothing (R162). -/
theorem pauseStep_of_paused (s : State) (h : s.ulp.paused = true) : pauseStep s = s := by
  unfold pauseStep
  rw [← h]
  rfl

/-- RESUME leaves PAUSE clear (R163). -/
theorem resumeStep_heldFrame (s : State) : (resumeStep s).ulp.heldFrame = none := by
  unfold resumeStep
  split <;> simp_all

/-- While PAUSE is set the end of a frame is followed by no other (R162). -/
theorem uplinkFrameEndStep_of_paused (s : State) (h : s.ulp.paused = true) (hs : s.ulp.sending ≠ none) :
    uplinkFrameEndStep s = { s with ulp := { s.ulp with
      sending := none, counters := { s.ulp.counters with sentFrames := up32 s.ulp.counters.sentFrames } } } := by
  unfold uplinkFrameEndStep
  split
  case h_1 hnone => exact absurd hnone hs
  case h_2 => exact State.arbitrate_of_paused _ h

/-! ### Time passing -/

theorem State.dueEvent_heldFrame (s : State) (f : State → State) (hf : s.dueEvent = some f) (t : State) :
    (f t).ulp.heldFrame = t.ulp.heldFrame := by
  obtain ⟨g, rfl⟩ | rfl | rfl | rfl | rfl | ⟨x, rfl⟩ | rfl | rfl := s.dueEvent_cases f hf
  · exact sweepStartStep_heldFrame g t
  · exact bStartStep_heldFrame t
  · exact aStartStep_heldFrame t
  · exact activityWindowEndStep_heldFrame t
  · exact clockLimitStep_heldFrame t
  · exact quietCloseStep_heldFrame x t
  · exact quietExpiryStep_heldFrame t
  · exact flushTimeExpiryStep_heldFrame t

theorem State.tick_heldFrame (s : State) : s.tick.ulp.heldFrame = s.ulp.heldFrame := by
  unfold State.tick State.walkStep State.advanceClocks
  dsimp only
  (repeat' split) <;> simp

theorem idle_heldFrame (s : State) : (idle s).ulp.heldFrame = s.ulp.heldFrame := by
  unfold idle
  split
  · rfl
  · split
    case h_1 f hf => exact s.dueEvent_heldFrame f hf s
    case h_2 => exact s.tick_heldFrame

/-! ### Every step but a run of received bytes -/

/-- No upstream frame begins between two states in which PAUSE is set (R162). -/
def Ulp.BeginsNoFrame (u v : Ulp) : Prop := u.paused = true → v.paused = true → v.sending = u.sending ∨ v.sending = none

theorem Ulp.beginsNoFrame_of_heldFrame_eq {u v : Ulp} (h : v.heldFrame = u.heldFrame) : u.BeginsNoFrame v := by
  intro hu hv
  rw [Ulp.heldFrame_of_paused hu, Ulp.heldFrame_of_paused hv] at h
  exact .inl (Option.some.inj h)

theorem Ulp.beginsNoFrame_of_heldFrame_none {u v : Ulp} (h : v.heldFrame = none) : u.BeginsNoFrame v := by
  intro _ hv
  rw [Ulp.heldFrame_of_paused hv] at h
  cases h

theorem uplinkFrameEndStep_beginsNoFrame (s : State) : s.ulp.BeginsNoFrame (uplinkFrameEndStep s).ulp := by
  intro hu _
  by_cases hs : s.ulp.sending = none
  · left
    simp [uplinkFrameEndStep, hs]
  · right
    rw [uplinkFrameEndStep_of_paused s hu hs]

section Live

variable {s t : State} {f : State → State}

/-- While RESET is asserted no row begins a frame, and otherwise one whose step begins none. -/
theorem live_beginsNoFrame (h : live s f = .next t) (hf : s.ulp.BeginsNoFrame (f s).ulp) : s.ulp.BeginsNoFrame t.ulp := by
  unfold live at h
  cases h
  split
  · exact Ulp.beginsNoFrame_of_heldFrame_eq rfl
  · exact hf

theorem live_beginsNoFrame_of_eq (h : live s f = .next t) (hf : (f s).ulp.heldFrame = s.ulp.heldFrame) :
    s.ulp.BeginsNoFrame t.ulp :=
  live_beginsNoFrame h (Ulp.beginsNoFrame_of_heldFrame_eq hf)

/-- A dispatched row begins no frame when the exchange's action keeps the held frame. -/
theorem live_beginsNoFrame_of_dispatch {mine : MgmtFrame → Bool} {act : MgmtFrame → State → State}
    (h : live s (State.dispatch · mine act) = .next t)
    (hact : ∀ f u, (act f u).ulp.heldFrame = u.ulp.heldFrame) : s.ulp.BeginsNoFrame t.ulp :=
  live_beginsNoFrame_of_eq h (s.dispatch_heldFrame mine act hact)

end Live

/-- Of all the commands a run of received bytes alone can begin a frame between two states with PAUSE set: it may hold a RESUME
and a PAUSE (R162, R163). -/
theorem exec_beginsNoFrame (c : Instr) (s t : State) (h : exec c s = .next t)
    (hbytes : ∀ bytes, c ≠ .uplinkFrameJudged bytes) : s.ulp.BeginsNoFrame t.ulp := by
  cases c with
  | uplinkFrameJudged bytes => exact absurd rfl (hbytes bytes)
  | powerOn => cases h; exact Ulp.beginsNoFrame_of_heldFrame_none rfl
  | resetLine => cases h; exact Ulp.beginsNoFrame_of_heldFrame_none rfl
  | resetLineRelease => cases h; exact Ulp.beginsNoFrame_of_heldFrame_eq rfl
  | qholdRelease => cases h; exact Ulp.beginsNoFrame_of_heldFrame_eq rfl
  | qholdAssert =>
    cases h
    split
    · exact Ulp.beginsNoFrame_of_heldFrame_eq rfl
    · exact Ulp.beginsNoFrame_of_heldFrame_eq (qholdAssertStep_heldFrame s)
  | restart tag =>
    exact live_beginsNoFrame (f := (State.restart · tag)) h (Ulp.beginsNoFrame_of_heldFrame_none (s.restart_heldFrame tag))
  | pause => exact live_beginsNoFrame h (fun _ _ => .inl rfl)
  | resume => exact live_beginsNoFrame h (Ulp.beginsNoFrame_of_heldFrame_none (resumeStep_heldFrame s))
  | uplinkFrameEnd => exact live_beginsNoFrame h (uplinkFrameEndStep_beginsNoFrame s)
  | replyFrame => exact live_beginsNoFrame_of_eq h (State.heldFrame_of_arbitrate_or_eq (replyFrameStep_eq s))
  | alertFrame => exact live_beginsNoFrame_of_eq h (State.heldFrame_of_arbitrate_or_eq (alertFrameStep_eq s))
  | reportFrame => exact live_beginsNoFrame_of_eq h (State.heldFrame_of_arbitrate_or_eq (reportFrameStep_eq s))
  | flushTimeExpiry => exact live_beginsNoFrame_of_eq h (flushTimeExpiryStep_heldFrame s)
  | abortPass tag => exact live_beginsNoFrame_of_eq (f := (State.abort · tag)) h (s.abort_heldFrame tag)
  | identify => exact live_beginsNoFrame_of_dispatch h identifyAct_heldFrame
  | setParam => exact live_beginsNoFrame_of_dispatch h setParamAct_heldFrame
  | getParam => exact live_beginsNoFrame_of_dispatch h getParamAct_heldFrame
  | readStatusPass => exact live_beginsNoFrame_of_dispatch h readStatusAct_heldFrame
  | readStatusPorts => exact live_beginsNoFrame_of_dispatch h readStatusAct_heldFrame
  | readStatusCalibration => exact live_beginsNoFrame_of_dispatch h readStatusAct_heldFrame
  | readStatusCounters => exact live_beginsNoFrame_of_dispatch h readStatusAct_heldFrame
  | readStatusLinks => exact live_beginsNoFrame_of_dispatch h readStatusAct_heldFrame
  | resetPortQueues => exact live_beginsNoFrame_of_dispatch h resetPortQueuesAct_heldFrame
  | resetPortQueuesGlobal => exact live_beginsNoFrame_of_dispatch h resetPortQueuesAct_heldFrame
  | loadHoldings => exact live_beginsNoFrame_of_dispatch h (fun f u => u.beginLoad_heldFrame f _ _)
  | loadSections => exact live_beginsNoFrame_of_dispatch h (fun f u => u.beginLoad_heldFrame f _ _)
  | clearTables => exact live_beginsNoFrame_of_dispatch h clearTablesAct_heldFrame
  | calibrate => exact live_beginsNoFrame_of_dispatch h calibrateAct_heldFrame
  | openPass => exact live_beginsNoFrame_of_dispatch h openPassAct_heldFrame
  | rehearse => exact live_beginsNoFrame_of_dispatch h rehearseAct_heldFrame
  | closePass => exact live_beginsNoFrame_of_dispatch h closePassAct_heldFrame
  | badKind => exact live_beginsNoFrame_of_dispatch h (fun f u => by simp [badKindAct])
  | frontEndFrameJudged link bytes => exact live_beginsNoFrame_of_eq h (frontEndFrameJudgedStep_heldFrame link bytes s)
  | sweepFrameSent link => exact live_beginsNoFrame_of_eq h (sweepFrameSentStep_heldFrame link s)
  | sweepStart g => exact live_beginsNoFrame_of_eq h (sweepStartStep_heldFrame g s)
  | aStart => exact live_beginsNoFrame_of_eq h (aStartStep_heldFrame s)
  | bStart => exact live_beginsNoFrame_of_eq h (bStartStep_heldFrame s)
  | readTake => exact live_beginsNoFrame_of_eq h (readTakeStep_heldFrame s)
  | sectionOpenAfterWait => exact live_beginsNoFrame_of_eq h (sectionOpenAfterWaitStep_heldFrame s)
  | overfullFindingWrite => exact live_beginsNoFrame_of_eq h (overfullFindingWriteStep_heldFrame s)
  | quietExpiry => exact live_beginsNoFrame_of_eq h (quietExpiryStep_heldFrame s)
  | quietClose sec => exact live_beginsNoFrame_of_eq h (quietCloseStep_heldFrame sec s)
  | forcePlaceAndRetire => exact live_beginsNoFrame_of_eq h (forcePlaceAndRetireStep_heldFrame s)
  | reporterTakeSection => exact live_beginsNoFrame_of_eq h (reporterTakeSectionStep_heldFrame s)
  | findingWrite => exact live_beginsNoFrame_of_eq h (findingWriteStep_heldFrame s)
  | sectionSummaryWrite => exact live_beginsNoFrame_of_eq h (sectionSummaryWriteStep_heldFrame s)
  | drainComplete => exact live_beginsNoFrame_of_eq h (drainCompleteStep_heldFrame s)
  | settle => exact live_beginsNoFrame_of_eq h (settleStep_heldFrame s)
  | tallyFindingWrite => exact live_beginsNoFrame_of_eq h (tallyFindingWriteStep_heldFrame s)
  | tallyWalkEnd => exact live_beginsNoFrame_of_eq h (tallyWalkEndStep_heldFrame s)
  | clockLimit => exact live_beginsNoFrame_of_eq h (clockLimitStep_heldFrame s)
  | preparingWalkEnd => exact live_beginsNoFrame_of_eq h (preparingWalkEndStep_heldFrame s)
  | calibrationComplete => exact live_beginsNoFrame_of_eq h (calibrationCompleteStep_heldFrame s)
  | activityWindowEnd => exact live_beginsNoFrame_of_eq h (activityWindowEndStep_heldFrame s)
  | loadComplete => exact live_beginsNoFrame_of_eq h (loadCompleteStep_heldFrame s)

theorem step_beginsNoFrame (s t : State) (h : step s = .next t)
    (hbytes : ∀ bytes, s.pending.head? ≠ some (.uplinkFrameJudged bytes)) : s.ulp.BeginsNoFrame t.ulp := by
  cases hp : s.pending with
  | nil =>
    rw [step, hp] at h
    cases h
    exact Ulp.beginsNoFrame_of_heldFrame_eq (idle_heldFrame s)
  | cons c rest =>
    rw [step, hp] at h
    simp only [hp, List.head?_cons, ne_eq, Option.some.injEq] at hbytes
    exact exec_beginsNoFrame c (s.setPending rest) t h hbytes

/-! ### PAUSE (R162) -/

/-- A row that RESET holds back runs its step while the line is released. -/
theorem live_of_released {s : State} (h : s.resetLine = false) (f : State → State) : live s f = .next (f s) := by
  simp [live, h]

theorem exec_pause (s : State) (h : s.resetLine = false) : exec .pause s = .next (pauseStep s) := live_of_released h _

theorem exec_uplinkFrameEnd (s : State) (h : s.resetLine = false) :
    exec .uplinkFrameEnd s = .next (uplinkFrameEndStep s) := live_of_released h _

/-- Settles O60: the effect of PAUSE with the flag clear and set, and the transmitter over every step while it is set. -/
theorem noFrameBeginsWhilePaused : Obligations.NoFrameBeginsWhilePaused := by
  refine ⟨fun s hline => ⟨exec_pause s hline, fun hpaused => ⟨?_, s.arbitrate_of_paused hpaused, fun hsending => ?_⟩⟩,
    fun s t h hbytes => step_beginsNoFrame s t h hbytes⟩
  · rw [exec_pause s hline, pauseStep_of_paused s hpaused]
  · rw [exec_uplinkFrameEnd s hline, uplinkFrameEndStep_of_paused s hpaused hsending]

end Sys2Proof.Machine
end

section
/-! SUPPORT. Steps and time: every command answers, a command under RESET does nothing, and a quiet millisecond; the reset
values; and the small laws of generators and link transmitters. -/

namespace Sys2Proof.Machine

/-! ### What a command does, as a function of the state -/

/-- The rows that change a line or power the device on: RESET does not hold them back (R145). -/
def lineRows : List Instr := [.powerOn, .resetLine, .resetLineRelease, .qholdAssert, .qholdRelease]

/-- Every row but the five of the lines is a step that RESET holds back. -/
theorem exec_eq_live (c : Instr) (hc : c ∉ lineRows) : ∃ f : State → State, ∀ s, exec c s = live s f := by
  cases c
  case powerOn => simp [lineRows] at hc
  case resetLine => simp [lineRows] at hc
  case resetLineRelease => simp [lineRows] at hc
  case qholdAssert => simp [lineRows] at hc
  case qholdRelease => simp [lineRows] at hc
  all_goals exact ⟨_, fun _ => rfl⟩

theorem live_of_asserted {s : State} (h : s.resetLine = true) (f : State → State) : live s f = .next s := by
  simp [live, h]

theorem step_of_idle {s : State} (h : s.pending = []) : step s = .next (idle s) := by
  rw [step, h]

/-- Settles O1: `step` reads the front of the queue. -/
theorem stepRunsFrontCommand : Obligations.StepRunsFrontCommand := fun _ _ _ => rfl

/-- Settles O2: the line rows answer outright, and so does every row that RESET holds back. -/
theorem everyCommandAnswersANextState : Obligations.EveryCommandAnswersANextState := by
  intro c s
  by_cases hc : c ∈ lineRows
  · simp only [lineRows, List.mem_cons, List.not_mem_nil, or_false] at hc
    obtain rfl | rfl | rfl | rfl | rfl := hc <;> exact ⟨_, rfl⟩
  · obtain ⟨f, hf⟩ := exec_eq_live c hc
    exact ⟨_, hf s⟩

/-- Settles O3: the reset tables, value by value. -/
theorem powerOnAndResetLineGiveTheResetValues : Obligations.PowerOnAndResetLineGiveTheResetValues :=
  ⟨rfl, fun _ => ⟨rfl, rfl, rfl⟩⟩

/-- Settles O4: `live` and `idle` both test the line first. -/
theorem assertedResetLineHoldsTheDevice : Obligations.AssertedResetLineHoldsTheDevice := by
  intro s h
  refine ⟨fun c hc => ?_, ?_, fun hp => ?_⟩
  · obtain ⟨f, hf⟩ := exec_eq_live c hc
    rw [hf s, live_of_asserted h]
  · change execQholdAssert s = _
    rw [execQholdAssert, if_pos h]
    rfl
  · rw [step, hp]
    simp [idle, h]

/-! ### A quiet millisecond -/

theorem earliestB_mem {l : List BStart} {b : BStart} (h : earliestB l = some b) : b ∈ l := by
  induction l generalizing b with
  | nil => cases h
  | cons a l ih =>
    unfold earliestB at h
    split at h
    · cases h; exact List.mem_cons_self
    · next c hc =>
      split at h <;> cases h
      · exact List.mem_cons_self
      · exact List.mem_cons_of_mem _ (ih hc)

theorem State.startDue_eq_false_iff (s : State) (g : Generator) :
    s.startDue g = false ↔ (s.swg.gen g).run = .stopped ∨ ∀ d ∈ (s.swg.gen g).nextStart, s.ulp.now < d := by
  unfold State.startDue
  cases (s.swg.gen g).nextStart <;> simp
  rw [or_iff_not_imp_left]

theorem State.bDue_eq_false (s : State) (h : ∀ b ∈ s.swg.bStarts, s.ulp.now < b.due) : s.bDue = false := by
  unfold State.bDue
  split
  · rfl
  · next b hb => simpa using h b (earliestB_mem hb)

theorem State.windowDue_eq_false (s : State) (h : ∀ w ∈ s.pam.window, s.psc.clock < w.stop) : s.windowDue = false := by
  unfold State.windowDue
  split
  · rfl
  · next w hw => simpa using h w hw

theorem PassState.takesReads_iff (p : PassState) : p.takesReads = true ↔ p = .scanning ∨ p = .settling := by
  cases p <;> simp [PassState.takesReads]

theorem State.quietSection_eq_none (s : State)
    (h : s.psc.state = .scanning ∨ s.psc.state = .settling → ∀ o ∈ s.sru.openList, o.stage = .quiet →
      ∀ y ∈ findSection s.tst.sections o.sec, ∀ u ∈ y.unfacedSince, s.psc.clock < u + s.params.quietTime) :
    s.quietSection = none := by
  simp only [State.quietSection, Option.map_eq_none_iff, List.find?_eq_none]
  intro o ho hdue
  simp only [State.quietDue, Bool.and_eq_true, PassState.takesReads_iff, beq_iff_eq] at hdue
  obtain ⟨⟨hstate, hstage⟩, hdue⟩ := hdue
  split at hdue
  · cases hdue
  · next u hu =>
    obtain ⟨y, hy, hyu⟩ := Option.bind_eq_some_iff.mp hu
    have := h hstate o ho hstage y hy u hyu
    simp at hdue
    omega

theorem State.expiryIf_eq_none (s : State)
    (h : s.psc.state = .scanning ∨ s.psc.state = .settling →
      ∀ e ∈ s.spe.table, e.placement = none → s.psc.clock < e.lastRead + s.params.quietTime) :
    s.expiryIf (fun t now => decide (t ≤ now)) = none := by
  unfold State.expiryIf
  split
  case isTrue hreads =>
    rw [List.find?_eq_none]
    intro e he hdue
    simp only [Bool.and_eq_true, Option.isNone_iff_eq_none, decide_eq_true_eq] at hdue
    have := h ((PassState.takesReads_iff _).mp hreads) e he hdue.1
    omega
  case isFalse => rfl

theorem State.flushDue_eq_false (s : State) (h : ∀ r ∈ s.ulp.reports.head?, s.ulp.now - r.entry < s.params.flushTime) :
    s.flushDue = false := by
  unfold State.flushDue
  split
  · rfl
  · next r rest hr => simpa [hr] using h

/-- With nothing due no timed event is chosen. -/
theorem State.dueEvent_eq_none (s : State) (h : s.NothingDue) : s.dueEvent = none := by
  obtain ⟨hgen, hb, hwindow, hclock, hreads, hflush⟩ := h
  have hstart (g) : s.startDue g = false := (s.startDue_eq_false_iff g).mpr (hgen g)
  have hlimit : ¬(s.psc.state = .scanning ∧ s.psc.clock = Config.clockLimit) := fun h => hclock h.1 h.2
  have hexpiry : ¬(s.speFree = true ∧ (s.expiryIf (fun t now => decide (t ≤ now))).isSome = true) := by
    rintro ⟨hfree, hsome⟩
    rw [s.expiryIf_eq_none (fun hs => (hreads hs).2 hfree)] at hsome
    cases hsome
  have hsend : ¬(s.flushDue = true ∧ s.mayBegin = true) := by
    rintro ⟨hdue, hbegin⟩
    obtain hsending | hpaused | hhead := hflush
    · simp [State.mayBegin, hsending] at hbegin
    · simp [State.mayBegin, hpaused] at hbegin
    · rw [s.flushDue_eq_false hhead] at hdue
      cases hdue
  simp only [State.dueEvent, hstart, s.bDue_eq_false hb, s.windowDue_eq_false hwindow, if_neg hlimit, if_neg hexpiry,
    if_neg hsend, s.quietSection_eq_none (fun hs => (hreads hs).1)]
  simp

@[simp] theorem State.advanceClocks_state (s : State) : s.advanceClocks.psc.state = s.psc.state := by
  unfold State.advanceClocks
  dsimp only
  split <;> rfl

@[simp] theorem State.advanceClocks_tallyWait (s : State) : s.advanceClocks.psc.tallyWait = s.psc.tallyWait := by
  unfold State.advanceClocks
  dsimp only
  split <;> rfl

theorem PassState.clockRuns_iff (p : PassState) :
    p.clockRuns = true ↔ p ∈ [PassState.scanning, .settling, .tallying] := by
  cases p <;> simp [PassState.clockRuns]

/-- One millisecond on both clocks, as a record update. -/
theorem State.advanceClocks_eq (s : State) :
    s.advanceClocks = { s with
      ulp := { s.ulp with now := s.ulp.now + 1 }
      psc := if s.psc.state ∈ [.scanning, .settling, .tallying] then
          { s.psc with clock := min 4294967295 (s.psc.clock + 1) } else s.psc } := by
  unfold State.advanceClocks
  dsimp only
  split
  case isTrue h =>
    have hs : s.psc.state ∈ [.scanning, .settling, .tallying] := (PassState.clockRuns_iff _).mp h
    rw [if_pos hs]
    rfl
  case isFalse h =>
    have hs : s.psc.state ∉ [.scanning, .settling, .tallying] := fun hs => h ((PassState.clockRuns_iff _).mpr hs)
    rw [if_neg hs]
    rfl

/-- Settles O5: no event is due, and no walk is in progress. -/
theorem quietStepIsOneMillisecond : Obligations.QuietStepIsOneMillisecond := by
  intro s hline hpending hdue hprep htally
  have hidle : idle s = s.tick := by simp [idle, hline, s.dueEvent_eq_none hdue]
  have hwalk : s.tick = s.advanceClocks := by
    rw [State.tick, State.walkStep, State.advanceClocks_state, State.advanceClocks_tallyWait, if_neg hprep,
      if_neg (fun h => htally h.1 h.2)]
  rw [step_of_idle hpending, hidle, hwalk, s.advanceClocks_eq]

/-! ### The invariants at reset -/

theorem reset_queuesInv : State.reset.QueuesInv := by
  refine ⟨fun p => ?_, by decide, by decide, by decide, by decide, List.Pairwise.nil⟩
  have hp : State.reset.piq[p] = PortQueue.reset := Vector.getElem_replicate _
  simp [hp, PortQueue.reset]

theorem reset_sightingsInv : State.reset.SightingsInv :=
  ⟨List.Pairwise.nil, List.nodup_nil, by simp [State.reset, Spe.reset], fun d r ref h => by cases h⟩

theorem reset_tablesInv : State.reset.TablesInv := by
  simp [State.TablesInv, State.reset, Tst.reset, Sru.reset]

theorem reset_valuesInv : State.reset.ValuesInv := by
  refine ⟨fun id h1 h2 => ?_, by decide, fun p => ?_, by decide, by decide, by decide, fun p => ?_⟩
  · interval_cases id <;> decide
  · have hp : State.reset.scu.ports[p] = ScuPort.reset := Vector.getElem_replicate _
    simp [hp, ScuPort.reset]
  · have hp : State.reset.mfu.ports[p] = FacingRecord.reset := Vector.getElem_replicate _
    simp [hp, FacingRecord.reset]

theorem reset_runningInv : State.reset.RunningInv := by
  simp [State.RunningInv, State.reset, Psc.reset, Swg.reset, Pam.reset, Rhg.reset, Ulp.reset]

theorem reset_sectionsInv : State.reset.SectionsInv := by
  simp [State.SectionsInv, State.Opening, State.reset, Psc.reset, Sru.reset, Spe.reset, Tst.reset]

theorem reset_marksInv : State.reset.MarksInv := by
  simp [State.MarksInv, State.reset, Psc.reset, Spe.reset, Tst.reset]

/-- Settles O57: invariant by invariant. -/
theorem theInvariantsHoldAtReset : Obligations.TheInvariantsHoldAtReset :=
  ⟨reset_queuesInv, reset_sightingsInv, reset_tablesInv, reset_valuesInv, reset_runningInv, reset_sectionsInv,
    reset_marksInv⟩

/-! ### Generators and links -/

theorem Swg.drives_iff (w : Swg) (g : Generator) : w.drives g = true ↔ ∃ side, w.driver side = some g := by
  simp only [Swg.drives, Bool.or_eq_true, beq_iff_eq]
  constructor
  · rintro (h | h)
    · exact ⟨_, h⟩
    · exact ⟨_, h⟩
  · rintro ⟨side, h⟩
    cases side
    · exact .inl h
    · exact .inr h

/-- In INTERLEAVED mode generator A drives each side that is not OFF (R6). -/
theorem driverOf_interleaved (side : Assign) : driverOf .interleaved side = if side = .off then none else some .a := by
  cases side <;> rfl

theorem Swg.driver_eq (w : Swg) (side : Side) : w.driver side = driverOf w.runMode (w.assign side) := rfl

theorem Swg.drives_b_of_interleaved (w : Swg) (h : w.runMode = .interleaved) : w.drives .b = false := by
  simp only [Swg.drives, Swg.driver_eq, h, driverOf_interleaved]
  (repeat' split) <;> rfl

theorem Swg.latestSweep_free (w : Swg) (side : Side) (g : Generator) (hm : w.runMode = .free)
    (hd : w.driver side = some g) : w.latestSweep side = currentSweep (w.gen g).count := by
  cases g <;> simp [Swg.latestSweep, hd, hm, Swg.gen]

/-- Settles O10: the cases of R6 and R15. -/
theorem drivingGeneratorsAndLatestSweeps : Obligations.DrivingGeneratorsAndLatestSweeps := by
  intro w
  refine ⟨fun side => ⟨?_, ?_, ?_, ?_, ?_, fun g => w.latestSweep_free side g⟩, ?_, ?_, w.drives_b_of_interleaved,
    w.drives_iff⟩
  · intro hm ha
    rw [w.driver_eq, hm, ha]; rfl
  · intro hm ha
    rw [w.driver_eq, hm, ha]; rfl
  · intro hm ha
    rw [w.driver_eq, hm, driverOf_interleaved, if_neg ha]
  · intro ha
    rw [w.driver_eq, ha]
    cases w.runMode <;> rfl
  · intro hd
    simp [Swg.latestSweep, hd]
  · intro hm hd
    have ha : w.driver .left = some .a := by
      rw [w.driver_eq, hm, driverOf_interleaved] at hd ⊢
      split at hd <;> simp_all
    simp [Swg.latestSweep, ha, hm, currentSweep]
  · intro hm hd
    obtain ⟨g, hg⟩ := Option.ne_none_iff_exists'.mp hd
    simp [Swg.latestSweep, hg, hm]

/-- Settles O12: the three cases of a transmitter, and the end of a frame. -/
theorem linkTransmittersTakeSweepFrames : Obligations.LinkTransmittersTakeSweepFrames := by
  refine ⟨fun k f => ⟨?_, ?_, ?_⟩, fun l s hline => ⟨?_, ?_⟩⟩
  · intro hidle
    simp [LinkState.hand, hidle]
  · intro hbusy hwait
    obtain ⟨g, hg⟩ := Option.ne_none_iff_exists'.mp hbusy
    simp [LinkState.hand, hg, hwait]
  · intro hbusy hwait
    obtain ⟨g, hg⟩ := Option.ne_none_iff_exists'.mp hbusy
    obtain ⟨w, hw⟩ := Option.ne_none_iff_exists'.mp hwait
    simp only [LinkState.hand, hg, hw]
    rfl
  · intro hbusy
    refine (live_of_released hline (sweepFrameSentStep l)).trans ?_
    rw [sweepFrameSentStep, if_pos (Option.isSome_iff_ne_none.mpr hbusy)]
    rfl
  · intro hidle
    refine (live_of_released hline (sweepFrameSentStep l)).trans ?_
    rw [sweepFrameSentStep, hidle, if_neg (by simp)]

end Sys2Proof.Machine
end

section
/-! SUPPORT. The phase of the device: the part of the state that the laws of the whole device speak of, and the operations that
leave it as it stands. -/

namespace Sys2Proof.Machine

/-! ### The phase -/

/-- The parameters, the pass state and source, the exchange in hand, what runs, the sweep counts, and the loaded fields of the
two tables. -/
structure Phase where
  params : Params
  state : PassState
  source : PassSource
  inHand : Option Exchange
  mode : SweepMode
  countA : Nat
  countB : Nat
  haltA : Bool
  haltB : Bool
  window : Bool
  rehearses : Bool
  holdings : List (TagCode × Nat × SectionId × ItemStatus)
  sections : List (SectionId × Side × Nat)

/-- The phase of a state: `haltA` and `haltB` say that a generator is STOPPED, `window` that PAM's window runs, `rehearses` that
RHG is not IDLE. -/
def State.phase (s : State) : Phase where
  params := s.params
  state := s.psc.state
  source := s.psc.source
  inHand := s.ulp.inHand
  mode := s.swg.runMode
  countA := s.swg.genA.count
  countB := s.swg.genB.count
  haltA := s.swg.genA.run == .stopped
  haltB := s.swg.genB.run == .stopped
  window := s.pam.window.isSome
  rehearses := s.rhg.run != .idle
  holdings := s.tst.holdings.map Holding.loaded
  sections := s.tst.sections.map Section.loaded

/-! ### Updates of one block -/

@[simp] theorem State.setLinks_phase (s : State) (v : Vector LinkState 4) : (s.setLinks v).phase = s.phase := rfl
@[simp] theorem State.setPiq_phase (s : State) (v : Vector PortQueue 16) : (s.setPiq v).phase = s.phase := rfl
@[simp] theorem State.setScu_phase (s : State) (v : Scu) : (s.setScu v).phase = s.phase := rfl
@[simp] theorem State.setMfu_phase (s : State) (v : Mfu) : (s.setMfu v).phase = s.phase := rfl
@[simp] theorem State.setSpe_phase (s : State) (v : Spe) : (s.setSpe v).phase = s.phase := rfl
@[simp] theorem State.setSru_phase (s : State) (v : Sru) : (s.setSru v).phase = s.phase := rfl
@[simp] theorem State.setQhold_phase (s : State) (v : Bool) : (s.setQhold v).phase = s.phase := rfl
@[simp] theorem State.setResetLine_phase (s : State) (v : Bool) : (s.setResetLine v).phase = s.phase := rfl
@[simp] theorem State.setPending_phase (s : State) (v : List Instr) : (s.setPending v).phase = s.phase := rfl

/-- The blocks that the phase reads, updated in other fields. -/
@[simp] theorem State.setUlp_phase (s : State) (v : Ulp) (h : v.inHand = s.ulp.inHand) : (s.setUlp v).phase = s.phase := by
  simp [State.phase, h]

@[simp] theorem State.setPsc_phase (s : State) (v : Psc) (hstate : v.state = s.psc.state) (hsource : v.source = s.psc.source) :
    (s.setPsc v).phase = s.phase := by
  simp [State.phase, hstate, hsource]

@[simp] theorem State.setPam_phase (s : State) (v : Pam) (h : v.window = s.pam.window) : (s.setPam v).phase = s.phase := by
  simp [State.phase, h]

@[simp] theorem State.setRhg_phase (s : State) (v : Rhg) (h : v.run = s.rhg.run) : (s.setRhg v).phase = s.phase := by
  simp [State.phase, h]

theorem State.setSwg_phase (s : State) (v : Swg) (hmode : v.runMode = s.swg.runMode)
    (hcountA : v.genA.count = s.swg.genA.count) (hcountB : v.genB.count = s.swg.genB.count)
    (hrunA : v.genA.run = .stopped ↔ s.swg.genA.run = .stopped) (hrunB : v.genB.run = .stopped ↔ s.swg.genB.run = .stopped) :
    (s.setSwg v).phase = s.phase := by
  have hA : (v.genA.run == .stopped) = (s.swg.genA.run == .stopped) := by rw [Bool.eq_iff_iff]; simpa using hrunA
  have hB : (v.genB.run == .stopped) = (s.swg.genB.run == .stopped) := by rw [Bool.eq_iff_iff]; simpa using hrunB
  simp [State.phase, hmode, hcountA, hcountB, hA, hB]

theorem State.setTst_phase (s : State) (v : Tst)
    (hholdings : v.holdings.map Holding.loaded = s.tst.holdings.map Holding.loaded)
    (hsections : v.sections.map Section.loaded = s.tst.sections.map Section.loaded) : (s.setTst v).phase = s.phase := by
  simp [State.phase, hholdings, hsections]

/-- A generator that is withheld keeps its count and is STOPPED exactly when it was (R12). -/
@[simp] theorem GenState.withhold_count (g : GenState) : g.withhold.count = g.count := by
  unfold GenState.withhold
  split <;> rfl

@[simp] theorem GenState.withhold_run (g : GenState) : g.withhold.run = .stopped ↔ g.run = .stopped := by
  unfold GenState.withhold
  split <;> simp_all

/-! ### The loaded fields -/

/-- An update of the per-pass fields of a section. -/
@[simp] theorem Section.loaded_update (y : Section) (expected : Nat) (state : SectionState) (d : Direction)
    (rushed overfull evicted orderUnchecked : Bool) (u : Option Nat) (list : List Item) :
    Section.loaded ⟨y.id, y.side, y.level, expected, state, d, rushed, overfull, evicted, orderUnchecked, u, list⟩ =
      y.loaded := by
  cases y; rfl

theorem loaded_map_holdings (l : List Holding) (f : Holding → Holding) (hf : ∀ h, (f h).loaded = h.loaded) :
    (l.map f).map Holding.loaded = l.map Holding.loaded := by
  simp [hf]

theorem loaded_map_sections (l : List Section) (f : Section → Section) (hf : ∀ y, (f y).loaded = y.loaded) :
    (l.map f).map Section.loaded = l.map Section.loaded := by
  simp [hf]

theorem loaded_modSection (l : List Section) (x : SectionId) (f : Section → Section) (hf : ∀ y, (f y).loaded = y.loaded) :
    (l.map (fun y => if y.id = x then f y else y)).map Section.loaded = l.map Section.loaded :=
  loaded_map_sections l _ (by intro y; split <;> simp [hf])

/-- A record changed at one position in fields that `g` does not read. -/
theorem map_modify_of_eq {α β : Type} (g : α → β) (f : α → α) (hf : ∀ a, g (f a) = g a) (l : List α) (n : Nat) :
    (l.modify n f).map g = l.map g := by
  apply List.ext_getElem?
  intro j
  rw [List.getElem?_map, List.getElem?_map, List.getElem?_modify]
  cases l[j]? with
  | none => rfl
  | some a => by_cases h : n = j <;> simp [h, hf]

theorem loaded_modify (l : List Section) (n : Nat) (f : Section → Section) (hf : ∀ y, (f y).loaded = y.loaded) :
    (l.modify n f).map Section.loaded = l.map Section.loaded :=
  map_modify_of_eq _ _ hf l n

theorem loaded_setMark (l : List Holding) (n : Nat) (m : Mark) :
    (setMark l n m).map Holding.loaded = l.map Holding.loaded := by
  unfold setMark
  refine map_modify_of_eq _ _ ?_ l n
  intro h
  rfl

/-! ### Ports, links, counters and the tables -/

@[simp] theorem State.modLink_phase (s : State) (l : Link) (f : LinkState → LinkState) : (s.modLink l f).phase = s.phase := rfl

@[simp] theorem State.modPiq_phase (s : State) (p : Port) (f : PortQueue → PortQueue) : (s.modPiq p f).phase = s.phase := rfl

@[simp] theorem State.modScu_phase (s : State) (p : Port) (f : ScuPort → ScuPort) : (s.modScu p f).phase = s.phase := rfl

@[simp] theorem State.modFacing_phase (s : State) (p : Port) (f : FacingRecord → FacingRecord) :
    (s.modFacing p f).phase = s.phase := rfl

@[simp] theorem State.modPam_phase (s : State) (p : Port) (f : PamPort → PamPort) : (s.modPam p f).phase = s.phase := rfl

@[simp] theorem State.setStale_phase (s : State) (p : Port) (n : Nat) : (s.setStale p n).phase = s.phase := rfl

@[simp] theorem State.countMfu_phase (s : State) (f : MfuCounters → MfuCounters) : (s.countMfu f).phase = s.phase := rfl

@[simp] theorem State.countSpe_phase (s : State) (f : SpeCounters → SpeCounters) : (s.countSpe f).phase = s.phase := rfl

@[simp] theorem State.countSru_phase (s : State) (f : SruCounters → SruCounters) : (s.countSru f).phase = s.phase := rfl

@[simp] theorem State.countPsc_phase (s : State) (f : PscCounters → PscCounters) : (s.countPsc f).phase = s.phase := rfl

@[simp] theorem State.countUlp_phase (s : State) (f : UlpCounters → UlpCounters) : (s.countUlp f).phase = s.phase := rfl

@[simp] theorem State.mark_phase (s : State) (ref : Option Nat) (m : Mark) : (s.mark ref m).phase = s.phase := by
  unfold State.mark
  split
  · rfl
  · exact s.setTst_phase _ (loaded_setMark _ _ _) rfl

@[simp] theorem State.modSection_phase (s : State) (x : SectionId) (f : Section → Section) (hf : ∀ y, (f y).loaded = y.loaded) :
    (s.modSection x f).phase = s.phase :=
  s.setTst_phase _ rfl (loaded_modSection _ _ f hf)

@[simp] theorem State.modOpen_phase (s : State) (x : SectionId) (f : OpenSection → OpenSection) :
    (s.modOpen x f).phase = s.phase := rfl

@[simp] theorem State.setWork_phase (s : State) (w : Work) : (s.setWork w).phase = s.phase := rfl

@[simp] theorem State.countScored_phase (s : State) : (s.countScored).phase = s.phase := rfl

@[simp] theorem State.endScored_phase (s : State) : (s.endScored).phase = s.phase := by
  unfold State.endScored
  split <;> simp

@[simp] theorem State.endWait_phase (s : State) : (s.endWait).phase = s.phase := by
  unfold State.endWait
  split <;> simp

@[simp] theorem State.setTable_phase (s : State) (l : List Sighting) : (s.setTable l).phase = s.phase := rfl

@[simp] theorem State.modEntry_phase (s : State) (n : Nat) (f : Sighting → Sighting) : (s.modEntry n f).phase = s.phase := rfl

@[simp] theorem State.freeSlot_phase (s : State) (n : Nat) : (s.freeSlot n).phase = s.phase := rfl

/-! ### Flags, replies and records -/

@[simp] theorem State.postAlert_phase (s : State) (x : Alert) : (s.postAlert x).phase = s.phase := rfl

@[simp] theorem State.queueReply_phase (s : State) (r : Reply) : (s.queueReply r).phase = s.phase := by
  unfold State.queueReply
  split <;> simp

@[simp] theorem State.disqualifyAll_phase (s : State) : (s.disqualifyAll).phase = s.phase := by
  unfold State.disqualifyAll
  split <;> simp_all

@[simp] theorem State.disqualify_phase (s : State) (p : Port) : (s.disqualify p).phase = s.phase := by
  unfold State.disqualify
  split <;> simp

@[simp] theorem State.requestHold_phase (s : State) : s.requestHold.phase = s.phase := by
  unfold State.requestHold
  rw [State.disqualifyAll_phase, State.setSwg_phase] <;> simp

@[simp] theorem State.appendRecord_phase (s : State) (r : Record) : (s.appendRecord r).phase = s.phase := rfl

@[simp] theorem State.writeRecord_phase (s : State) (r : Record) : (s.writeRecord r).phase = s.phase := by
  unfold State.writeRecord
  split <;> simp

@[simp] theorem State.writeActivity_phase (s : State) (r : Record) : (s.writeActivity r).phase = s.phase := by
  unfold State.writeActivity
  split <;> simp

/-! ### Port queues and front-end frames -/

@[simp] theorem State.wake_phase (s : State) (p : Port) : (s.wake p).phase = s.phase := by
  unfold State.wake
  split <;> simp

@[simp] theorem State.overflowDrop_phase (s : State) (p : Port) : (s.overflowDrop p).phase = s.phase := by
  unfold State.overflowDrop
  dsimp only
  (repeat' split) <;> simp

@[simp] theorem State.arrive_phase (s : State) (e : ReadEntry) : (s.arrive e).phase = s.phase := by
  unfold State.arrive
  (repeat' split) <;> simp

@[simp] theorem State.emptyPort_phase (s : State) (p : Port) : (s.emptyPort p).phase = s.phase := by
  unfold State.emptyPort
  dsimp only
  (repeat' split) <;> simp

@[simp] theorem State.becomeHeld_phase (s : State) (p : Port) : (s.becomeHeld p).phase = s.phase := by
  unfold State.becomeHeld
  simp

@[simp] theorem State.judgeBad_phase (s : State) (l : Link) : (s.judgeBad l).phase = s.phase := by
  unfold State.judgeBad
  dsimp only
  (repeat' split) <;> simp

@[simp] theorem State.judgeGood_phase (s : State) (l : Link) (f : ReadFrame) : (s.judgeGood l f).phase = s.phase := by
  unfold State.judgeGood
  split <;> simp

@[simp] theorem State.judgeFrame_phase (s : State) (l : Link) (got : List Byte) : (s.judgeFrame l got).phase = s.phase := by
  unfold State.judgeFrame
  split <;> simp

theorem State.frontEndByte_phase (l : Link) (s : State) (b : Byte) : (s.frontEndByte l b).phase = s.phase := by
  unfold State.frontEndByte
  dsimp only
  split <;> simp

/-! ### Exchanges that change nothing but their queues -/

@[simp] theorem State.popMgmt_phase (s : State) : (s.popMgmt).phase = s.phase := rfl

@[simp] theorem State.reply_phase (s : State) (f : MgmtFrame) (r : ResultCode) (l : List Byte) :
    (s.reply f r l).phase = s.phase := by
  unfold State.reply
  simp

@[simp] theorem State.refuse_phase (s : State) (f : MgmtFrame) (r : ResultCode) : (s.refuse f r).phase = s.phase := by
  unfold State.refuse
  simp

@[simp] theorem State.resetPorts_phase (s : State) (f : MgmtFrame) (q : Port → Bool) : (s.resetPorts f q).phase = s.phase := by
  unfold State.resetPorts
  simp only [State.reply_phase]
  exact forPorts_keeps State.phase _ (by intro p t; split <;> simp) s

/-! ### Sections -/

@[simp] theorem State.beginClose_phase (s : State) (x : SectionId) : (s.beginClose x).phase = s.phase := by
  unfold State.beginClose
  (repeat' split) <;> simp

@[simp] theorem State.enterClosing_phase (s : State) (x : SectionId) : (s.enterClosing x).phase = s.phase := by
  unfold State.enterClosing
  simp

@[simp] theorem State.openSection_phase (s : State) (r : OpenRequest) : (s.openSection r).phase = s.phase := by
  unfold State.openSection
  dsimp only
  (repeat' split) <;> simp

@[simp] theorem State.leaveSection_phase (s : State) (x : SectionId) (d : Direction) (b : Bool) :
    (s.leaveSection x d b).phase = s.phase := by
  unfold State.leaveSection
  split <;> simp

@[simp] theorem State.reenterSection_phase (s : State) (x : SectionId) (d : Direction) :
    (s.reenterSection x d).phase = s.phase := by
  unfold State.reenterSection
  simp

@[simp] theorem State.tallyFinding_phase (s : State) (x : SectionId) (k : FindingKind) :
    (s.tallyFinding x k).phase = s.phase := by
  unfold State.tallyFinding
  simp

/-! ### Placement -/

@[simp] theorem State.addItem_phase (s : State) (x : SectionId) (i : Item) : (s.addItem x i).phase = s.phase := by
  unfold State.addItem
  simp

@[simp] theorem State.removeItem_phase (s : State) (x : SectionId) (n : Nat) : (s.removeItem x n).phase = s.phase := by
  unfold State.removeItem
  simp

@[simp] theorem State.modItem_phase (s : State) (x : SectionId) (n : Nat) (f : Item → Item) :
    (s.modItem x n f).phase = s.phase := by
  unfold State.modItem
  simp

@[simp] theorem State.finishDisposal_phase (s : State) (n : Nat) : (s.finishDisposal n).phase = s.phase := by
  unfold State.finishDisposal
  dsimp only
  (repeat' split) <;> simp

@[simp] theorem State.disposeFull_phase (s : State) (x : SectionId) (e : Sighting) (k : Confidence) (c : Continuation) :
    (s.disposeFull x e k c).phase = s.phase := by
  unfold State.disposeFull
  dsimp only
  (repeat' split) <;> simp

@[simp] theorem State.place_phase (s : State) (n : Nat) (r : Route) (c : Continuation) : (s.place n r c).phase = s.phase := by
  unfold State.place
  dsimp only
  (repeat' split) <;> simp

@[simp] theorem State.placeMany_phase (s : State) (l : List Nat) (r : Route) (c : Continuation) :
    (s.placeMany l r c).phase = s.phase :=
  foldl_keeps State.phase _ (by intro t n; split <;> simp) _ _

@[simp] theorem State.retireAll_phase (s : State) (x : SectionId) : (s.retireAll x).phase = s.phase := by
  unfold State.retireAll
  simp only [State.setTable_phase]
  exact foldl_keeps State.phase _ (by simp) _ _

@[simp] theorem State.earlyRetire_phase (s : State) (n : Nat) : (s.earlyRetire n).phase = s.phase := by
  unfold State.earlyRetire
  (repeat' split) <;> simp

@[simp] theorem State.awaitPlace_phase (s : State) (r : Option OpenRequest) : (s.awaitPlace r).phase = s.phase := by
  unfold State.awaitPlace
  split <;> simp

@[simp] theorem State.forcePlaceRun_phase (s : State) (x : SectionId) (r : Option OpenRequest) :
    (s.forcePlaceRun x r).phase = s.phase := by
  unfold State.forcePlaceRun
  dsimp only
  (repeat' split) <;> simp

@[simp] theorem State.makeRoom_phase (s : State) (r : OpenRequest) : (s.makeRoom r).phase = s.phase := by
  unfold State.makeRoom
  dsimp only
  (repeat' split) <;> simp

@[simp] theorem State.enterSection_phase (s : State) (x : SectionId) (d : Direction) :
    (s.enterSection x d).phase = s.phase := by
  unfold State.enterSection
  (repeat' split) <;> simp

@[simp] theorem State.confirmTest_phase (s : State) (n : Nat) : (s.confirmTest n).phase = s.phase := by
  unfold State.confirmTest
  (repeat' split) <;> simp

@[simp] theorem State.moveEntry_phase (s : State) (e : Sighting) (x : SectionId) (c : Candidate) :
    (s.moveEntry e x c).phase = s.phase := by
  unfold State.moveEntry
  dsimp only
  (repeat' split) <;> simp

@[simp] theorem State.freeze_phase (s : State) (e : Sighting) (x : SectionId) : (s.freeze e x).phase = s.phase := by
  unfold State.freeze
  simp

@[simp] theorem State.moveTest_phase (s : State) (n : Nat) : (s.moveTest n).phase = s.phase := by
  unfold State.moveTest
  (repeat' split) <;> simp

@[simp] theorem State.makeEntry_phase (s : State) (r : ItemRead) (h : Option Nat) : (s.makeEntry r h).phase = s.phase := by
  unfold State.makeEntry
  simp

@[simp] theorem State.evictFor_phase (s : State) (r : ItemRead) (h : Option Nat) : (s.evictFor r h).phase = s.phase := by
  unfold State.evictFor
  dsimp only
  (repeat' split) <;> simp

@[simp] theorem State.newEntry_phase (s : State) (r : ItemRead) (h : Option Nat) : (s.newEntry r h).phase = s.phase := by
  unfold State.newEntry
  split <;> simp

/-! ### Facings -/

@[simp] theorem State.changeFacing_phase (s : State) (p : Port) (x : SectionId) (y : Section) :
    (s.changeFacing p x y).phase = s.phase := by
  unfold State.changeFacing
  simp

@[simp] theorem State.firstFacing_phase (s : State) (p : Port) (y : Section) : (s.firstFacing p y).phase = s.phase := by
  unfold State.firstFacing
  simp

@[simp] theorem State.acceptMarker_phase (s : State) (p : Port) (y : Section) : (s.acceptMarker p y).phase = s.phase := by
  unfold State.acceptMarker
  (repeat' split) <;> simp

@[simp] theorem State.testMarker_phase (s : State) (p : Port) (g : TagCode) (n : Nat) :
    (s.testMarker p g n).phase = s.phase := by
  unfold State.testMarker
  (repeat' split) <;> simp

@[simp] theorem State.markerRead_phase (s : State) (p : Port) (g : TagCode) (n : Nat) :
    (s.markerRead p g n).phase = s.phase := by
  unfold State.markerRead
  simp

@[simp] theorem State.referenceRead_phase (s : State) : (s.referenceRead).phase = s.phase := by
  unfold State.referenceRead
  simp

@[simp] theorem State.loseFacing_phase (s : State) (p : Port) : (s.loseFacing p).phase = s.phase := by
  unfold State.loseFacing
  split <;> simp

/-! ### Reads taken, calibration and activity -/

@[simp] theorem State.scuRead_phase (s : State) (b : Bool) (e : ReadEntry) : (s.scuRead b e).phase = s.phase := by
  unfold State.scuRead
  split <;> simp

@[simp] theorem State.applyOutcomes_phase (s : State) : s.applyOutcomes.phase = s.phase :=
  forPorts_keeps State.phase _ (by simp) s

@[simp] theorem State.abandonCalibration_phase (s : State) : (s.abandonCalibration).phase = s.phase := rfl

@[simp] theorem State.abortScu_phase (s : State) : (s.abortScu).phase = s.phase := by
  unfold State.abortScu
  split <;> simp

@[simp] theorem State.pamReport_phase (s : State) (p : Port) (n : Nat) : (s.pamReport p n).phase = s.phase := by
  unfold State.pamReport
  dsimp only
  (repeat' split) <;> simp

@[simp] theorem State.activityOf_phase (s : State) (p : Port) : (s.activityOf p).phase = s.phase := by
  unfold State.activityOf
  split <;> simp

@[simp] theorem State.writeActivities_phase (s : State) : s.writeActivities.phase = s.phase := by
  unfold State.writeActivities
  split
  · exact forPorts_keeps State.phase _ (by simp) s
  · rfl

@[simp] theorem State.fallSilent_phase (s : State) (p : Port) : (s.fallSilent p).phase = s.phase := by
  unfold State.fallSilent
  simp

@[simp] theorem State.judgeWindow_phase (s : State) (p : Port) : (s.judgeWindow p).phase = s.phase := by
  unfold State.judgeWindow
  dsimp only
  (repeat' split) <;> simp

@[simp] theorem State.countOpen_phase (s : State) (f : SpeCounters → SpeCounters) : (s.countOpen f).phase = s.phase := by
  unfold State.countOpen
  split <;> simp

@[simp] theorem State.writePeak_phase (s : State) (e : Sighting) : (s.writePeak e).phase = s.phase := by
  unfold State.writePeak
  (repeat' split) <;> simp

@[simp] theorem State.scoreEntry_phase (s : State) (e : Sighting) (r : ItemRead) : (s.scoreEntry e r).phase = s.phase := by
  unfold State.scoreEntry
  dsimp only
  (repeat' split) <;> simp

@[simp] theorem State.sight_phase (s : State) (r : ItemRead) : (s.sight r).phase = s.phase := by
  unfold State.sight
  dsimp only
  (repeat' split) <;> simp

@[simp] theorem State.itemRead_phase (s : State) (e : ReadEntry) (n : Nat) : (s.itemRead e n).phase = s.phase := by
  unfold State.itemRead
  (repeat' split) <;> simp

@[simp] theorem State.classifyRead_phase (s : State) (e : ReadEntry) : (s.classifyRead e).phase = s.phase := by
  unfold State.classifyRead
  split <;> simp

@[simp] theorem State.takeIn_phase (s : State) (e : ReadEntry) (b : Bool) (i : Intake) : (s.takeIn e b i).phase = s.phase := by
  unfold State.takeIn
  split <;> simp

@[simp] theorem State.dequeue_phase (s : State) (p : Port) : (s.dequeue p).phase = s.phase := by
  unfold State.dequeue
  dsimp only
  (repeat' split) <;> simp

@[simp] theorem State.takeEntry_phase (s : State) (e : ReadEntry) : (s.takeEntry e).phase = s.phase := by
  unfold State.takeEntry
  simp

/-! ### Sweeps that start nothing -/

@[simp] theorem State.sendSweep_phase (s : State) (side : Side) (n d : Nat) : (s.sendSweep side n d).phase = s.phase := by
  unfold State.sendSweep
  split
  · exact foldl_keeps State.phase _ (by simp) _ _
  · rfl

@[simp] theorem State.countTransit_phase (s : State) (p : Port) : (s.countTransit p).phase = s.phase := by
  unfold State.countTransit
  dsimp only
  (repeat' split) <;> simp

@[simp] theorem State.rhgPresent_phase (s : State) (y : Section) (n : Nat) : (s.rhgPresent y n).phase = s.phase := by
  unfold State.rhgPresent
  dsimp only
  (repeat' split) <;> simp

/-! ### The walks and what a pass clears -/

@[simp] theorem State.clearPassCounters_phase (s : State) : (s.clearPassCounters).phase = s.phase := rfl

@[simp] theorem State.clearSpe_phase (s : State) : (s.clearSpe).phase = s.phase := rfl

@[simp] theorem State.clearSru_phase (s : State) : (s.clearSru).phase = s.phase := rfl

@[simp] theorem State.markStale_phase (s : State) : s.markStale.phase = s.phase :=
  forPorts_keeps State.phase _ (by simp) s

@[simp] theorem State.clearFacings_phase (s : State) : (s.clearFacings).phase = s.phase := rfl

@[simp] theorem State.clearStale_phase (s : State) : (s.clearStale).phase = s.phase := rfl

@[simp] theorem State.startScu_phase (s : State) (near far : TagCode) : (s.startScu near far).phase = s.phase := by
  unfold State.startScu
  exact forPorts_keeps State.phase _ (by simp) _

@[simp] theorem State.countRecord_phase (s : State) (h : Holding) : (s.countRecord h).phase = s.phase := by
  unfold State.countRecord
  (repeat' split) <;> simp

@[simp] theorem State.markNext_phase (s : State) : s.markNext.phase = s.phase := by
  unfold State.markNext
  exact (State.setPsc_phase _ _ rfl rfl).trans (State.setTst_phase _ _ (loaded_setMark _ _ _) rfl)

@[simp] theorem State.clearNext_phase (s : State) : s.clearNext.phase = s.phase := by
  unfold State.clearNext
  exact (State.setPsc_phase _ _ rfl rfl).trans (State.setTst_phase _ _ rfl (loaded_modify _ _ _ (fun _ => rfl)))

@[simp] theorem State.countNext_phase (s : State) : (s.countNext).phase = s.phase := by
  unfold State.countNext
  split <;> simp

@[simp] theorem State.walkOne_phase (s : State) : (s.walkOne).phase = s.phase := by
  unfold State.walkOne
  (repeat' split) <;> simp

@[simp] theorem State.walkRest_phase (s : State) : s.walkRest.phase = s.phase :=
  repeated_keeps State.phase _ State.walkOne_phase _ _

@[simp] theorem State.judge_phase (s : State) (n : Nat) (o : TallyOutcome) : (s.judge n o).phase = s.phase := by
  unfold State.judge
  split <;> simp

@[simp] theorem State.tallyNext_phase (s : State) : (s.tallyNext).phase = s.phase := rfl

@[simp] theorem State.tallyOne_phase (s : State) : (s.tallyOne).phase = s.phase := by
  unfold State.tallyOne
  dsimp only
  (repeat' split) <;> simp

@[simp] theorem State.tallyRest_phase (s : State) : s.tallyRest.phase = s.phase :=
  repeated_keeps State.phase _ (by intro t; split <;> simp) _ _

@[simp] theorem State.writePassEnd_phase (s : State) (r : PassEndReason) : (s.writePassEnd r).phase = s.phase := by
  unfold State.writePassEnd
  simp

@[simp] theorem State.dropMarks_phase (s : State) : s.dropMarks.phase = s.phase :=
  s.setTst_phase _ (loaded_map_holdings _ _ (fun _ => rfl)) (loaded_map_sections _ _ (fun _ => rfl))

/-! ### Frames on the uplink, the reporter and the port parameters -/

@[simp] theorem State.transmit_phase (s : State) (f : UpFrame) : (s.transmit f).phase = s.phase := rfl

@[simp] theorem State.sendReply_phase (s : State) (r : Reply) : (s.sendReply r).phase = s.phase := by
  unfold State.sendReply
  simp

@[simp] theorem State.sendAlert_phase (s : State) : (s.sendAlert).phase = s.phase := by
  unfold State.sendAlert
  simp

@[simp] theorem State.queueFrame_phase (s : State) (f : MgmtFrame) : (s.queueFrame f).phase = s.phase := by
  unfold State.queueFrame
  split <;> simp

@[simp] theorem State.beginReport_phase (s : State) (x : SectionId) (l : List Nat) : (s.beginReport x l).phase = s.phase := by
  unfold State.beginReport
  simp

@[simp] theorem State.takeSection_phase (s : State) (x : SectionId) (d : Direction) (l : List Item) :
    (s.takeSection x d l).phase = s.phase := by
  unfold State.takeSection
  split <;> simp

@[simp] theorem State.reportNext_phase (s : State) (x : SectionId) : (s.reportNext x).phase = s.phase := by
  unfold State.reportNext
  simp

@[simp] theorem State.reportWait_phase (s : State) : (s.reportWait).phase = s.phase := by
  unfold State.reportWait
  simp

@[simp] theorem State.reportItem_phase (s : State) (r : Reporter) (i : Item) (n : Nat) :
    (s.reportItem r i n).phase = s.phase := by
  unfold State.reportItem
  dsimp only
  (repeat' split) <;> simp

@[simp] theorem State.setPortMode_phase (s : State) (m : PortMode) (p : Port) : (s.setPortMode m p).phase = s.phase := by
  unfold State.setPortMode
  dsimp only
  (repeat' split) <;> simp

@[simp] theorem State.setFollows_phase (s : State) (b : Bool) (p : Port) : (s.setFollows b p).phase = s.phase := by
  unfold State.setFollows
  dsimp only
  (repeat' split) <;> simp

@[simp] theorem State.setPortParam_phase (s : State) (i v : Nat) (p : Port) : (s.setPortParam i v p).phase = s.phase := by
  unfold State.setPortParam
  split <;> simp

@[simp] theorem State.advanceClocks_phase (s : State) : s.advanceClocks.phase = s.phase := by
  rw [State.advanceClocks_eq]
  unfold State.phase
  dsimp only
  split <;> rfl

@[simp] theorem State.walkStep_phase (s : State) : (s.walkStep).phase = s.phase := by
  unfold State.walkStep
  (repeat' split) <;> simp

@[simp] theorem State.tick_phase (s : State) : (s.tick).phase = s.phase := by
  unfold State.tick
  simp

end Sys2Proof.Machine
end

section
/-! SUPPORT. What sweep starts, closes and the end of settling do to the phase, and the phase of every row. -/

namespace Sys2Proof.Machine

/-! ### Sweep starts and closes -/

/-- What sweep starts, withheld starts and the closing of SCANNING do to a phase: counts rise to the limit at most, nothing that is
stopped begins to run, and SCANNING may pass into SETTLING with everything stopped. -/
structure Phase.Sweeps (p q : Phase) : Prop where
  params : q.params = p.params
  source : q.source = p.source
  inHand : q.inHand = p.inHand
  mode : q.mode = p.mode
  holdings : q.holdings = p.holdings
  sections : q.sections = p.sections
  countA : p.countA ≤ q.countA
  countB : p.countB ≤ q.countB
  limitA : (p.mode = .interleaved → p.haltB = true) → p.countA ≤ Config.sweepLimit → q.countA ≤ Config.sweepLimit
  limitB : p.countB ≤ Config.sweepLimit → q.countB ≤ Config.sweepLimit
  haltA : p.haltA = true → q.haltA = true
  haltB : p.haltB = true → q.haltB = true
  window : p.window = false → q.window = false
  rehearses : p.rehearses = false → q.rehearses = false
  state : q.state = p.state ∨ p.state = .scanning ∧ q.state = .settling ∧ q.haltA = true ∧ q.haltB = true ∧
    q.window = false ∧ q.rehearses = false

theorem Phase.Sweeps.refl (p : Phase) : p.Sweeps p := by
  constructor <;> simp

theorem Phase.Sweeps.of_eq {p q : Phase} (h : q = p) : p.Sweeps q := h ▸ Phase.Sweeps.refl p

theorem Phase.Sweeps.trans {p q r : Phase} (h : p.Sweeps q) (k : q.Sweeps r) : p.Sweeps r where
  params := k.params.trans h.params
  source := k.source.trans h.source
  inHand := k.inHand.trans h.inHand
  mode := k.mode.trans h.mode
  holdings := k.holdings.trans h.holdings
  sections := k.sections.trans h.sections
  countA := h.countA.trans k.countA
  countB := h.countB.trans k.countB
  limitA := fun hB l => k.limitA (fun hm => h.haltB (hB (h.mode ▸ hm))) (h.limitA hB l)
  limitB := fun l => k.limitB (h.limitB l)
  haltA := fun l => k.haltA (h.haltA l)
  haltB := fun l => k.haltB (h.haltB l)
  window := fun l => k.window (h.window l)
  rehearses := fun l => k.rehearses (h.rehearses l)
  state := by
    obtain hsame | ⟨hscan, hsettle, hA, hB, hw, hr⟩ := h.state
    · obtain ksame | ⟨kscan, krest⟩ := k.state
      · exact .inl (ksame.trans hsame)
      · exact .inr ⟨hsame ▸ kscan, krest⟩
    · obtain ksame | ⟨kscan, _⟩ := k.state
      · exact .inr ⟨hscan, ksame.trans hsettle, k.haltA hA, k.haltB hB, k.window hw, k.rehearses hr⟩
      · rw [hsettle] at kscan
        cases kscan

/-- An operation that keeps the phase of its argument, after one that sweeps. -/
theorem Phase.Sweeps.trans_eq {p q r : Phase} (h : p.Sweeps q) (k : r = q) : p.Sweeps r := k ▸ h

theorem State.enterSettling_sweeps (s : State) (r : EndReason) (h : s.psc.state = .scanning) :
    s.phase.Sweeps (s.enterSettling r).phase where
  params := rfl
  source := rfl
  inHand := rfl
  mode := rfl
  holdings := rfl
  sections := rfl
  countA := le_refl _
  countB := le_refl _
  limitA := fun _ => id
  limitB := id
  haltA := fun _ => rfl
  haltB := fun _ => rfl
  window := fun _ => rfl
  rehearses := fun _ => rfl
  state := .inr ⟨h, rfl, rfl, rfl, rfl, rfl⟩

theorem State.internalClose_sweeps (s : State) (r : EndReason) : s.phase.Sweeps (s.internalClose r).phase := by
  unfold State.internalClose
  split
  case isTrue h => exact s.enterSettling_sweeps r h
  case isFalse => exact .refl _

theorem clockLimitStep_sweeps (s : State) : s.phase.Sweeps (clockLimitStep s).phase := by
  unfold clockLimitStep
  split
  · exact s.internalClose_sweeps _
  · exact .refl _

/-! ### RHG -/

/-- RHG's run state set to IDLE, or to another while it runs. -/
theorem State.setRhg_sweeps (s : State) (v : Rhg) (h : s.rhg.run = .idle → v.run = .idle) :
    s.phase.Sweeps (s.setRhg v).phase := by
  constructor <;> simp_all [State.phase]

theorem State.rhgTake_sweeps (s : State) (n : Nat) (h : s.rhg.run ≠ .idle) : s.phase.Sweeps (s.rhgTake n).phase := by
  unfold State.rhgTake
  split
  · exact (s.setRhg_sweeps _ (fun _ => rfl)).trans (State.internalClose_sweeps _ _)
  · exact s.setRhg_sweeps _ (fun hidle => absurd hidle h)

theorem State.run_of_rhgFacing {s : State} {sides : List Side} {y : Section} (h : s.rhgFacing sides = some y) :
    s.rhg.run = .presenting := by
  unfold State.rhgFacing State.rhgSection at h
  cases hr : s.rhg.run <;> simp [hr] at h ⊢

theorem State.rhgPresent_run (s : State) (y : Section) (n : Nat) : (s.rhgPresent y n).rhg.run = s.rhg.run := by
  unfold State.rhgPresent
  dsimp only
  split <;> simp

theorem State.rhgAdvance_sweeps (s : State) (sides : List Side) (n : Nat) :
    s.phase.Sweeps (s.rhgAdvance sides n).phase := by
  unfold State.rhgAdvance
  split
  · exact .refl _
  · next y hy =>
    have hrun : (s.rhgPresent y n).rhg.run ≠ .idle := by simp [State.rhgPresent_run, State.run_of_rhgFacing hy]
    have hpresent := Phase.Sweeps.of_eq (s.rhgPresent_phase y n)
    dsimp only
    split
    · exact hpresent
    · have htake := hpresent.trans ((s.rhgPresent y n).rhgTake_sweeps ((s.rhgPresent y n).rhg.current.getD 0 + 1) hrun)
      split
      · exact htake
      · exact htake.trans_eq (State.rhgPresent_phase _ _ _)

theorem State.rhgStart_sweeps (s : State) (sides : List Side) (n : Nat) (b : Bool) :
    s.phase.Sweeps (s.rhgStart sides n b).phase := by
  unfold State.rhgStart
  split
  case isTrue hwaiting =>
    split
    · exact (s.rhgTake_sweeps 0 (by simp [hwaiting])).trans (State.rhgAdvance_sweeps _ _ _)
    · exact .refl _
  case isFalse => exact s.rhgAdvance_sweeps sides n

theorem State.sweepStarted_sweeps (s : State) (sides : List Side) (n : Nat) (b : Bool) :
    s.phase.Sweeps (s.sweepStarted sides n b).phase := by
  unfold State.sweepStarted
  have hcounted : (s.forPorts (fun p t => if portSide p ∈ sides then t.countTransit p else t)).phase = s.phase :=
    forPorts_keeps State.phase _ (by intro p t; split <;> simp) s
  exact (Phase.Sweeps.of_eq hcounted).trans (State.rhgStart_sweeps _ _ _ _)

/-! ### Generators -/

@[simp] theorem Swg.setGen_gen_same (w : Swg) (g : Generator) (v : GenState) : (w.setGen g v).gen g = v := by
  cases g <;> rfl

/-- SWG's state replaced: counts that rise below the limit, and no generator started. -/
theorem State.setSwg_sweeps (s : State) (v : Swg) (hmode : v.runMode = s.swg.runMode)
    (hcountA : s.swg.genA.count ≤ v.genA.count) (hcountB : s.swg.genB.count ≤ v.genB.count)
    (hlimitA : (s.swg.runMode = .interleaved → s.swg.genB.run = .stopped) → s.swg.genA.count ≤ Config.sweepLimit →
      v.genA.count ≤ Config.sweepLimit)
    (hlimitB : s.swg.genB.count ≤ Config.sweepLimit → v.genB.count ≤ Config.sweepLimit)
    (hrunA : s.swg.genA.run = .stopped → v.genA.run = .stopped)
    (hrunB : s.swg.genB.run = .stopped → v.genB.run = .stopped) : s.phase.Sweeps (s.setSwg v).phase := by
  constructor <;> simp_all [State.phase]

/-- One generator replaced in the same way. -/
theorem State.modGen_sweeps (s : State) (g : Generator) (f : GenState → GenState)
    (hcount : (s.swg.gen g).count ≤ (f (s.swg.gen g)).count)
    (hlimit : (s.swg.gen g).count ≤ Config.sweepLimit → (f (s.swg.gen g)).count ≤ Config.sweepLimit)
    (hrun : (s.swg.gen g).run = .stopped → (f (s.swg.gen g)).run = .stopped) : s.phase.Sweeps (s.modGen g f).phase := by
  cases g
  · exact s.setSwg_sweeps _ rfl hcount (le_refl _) (fun _ => hlimit) id hrun id
  · exact s.setSwg_sweeps _ rfl (le_refl _) hcount (fun _ => id) hlimit id hrun

/-- SWG's other fields replaced. -/
@[simp] theorem State.setSwg_phase_of_gens (s : State) (v : Swg) (hmode : v.runMode = s.swg.runMode)
    (hA : v.genA = s.swg.genA) (hB : v.genB = s.swg.genB) : (s.setSwg v).phase = s.phase := by
  simp [State.phase, hmode, hA, hB]

theorem State.modGen_halt_sweeps (s : State) (g : Generator) : s.phase.Sweeps (s.modGen g GenState.halt).phase :=
  s.modGen_sweeps g _ (le_refl _) id (fun _ => rfl)

theorem State.withholdStart_sweeps (s : State) (g : Generator) : s.phase.Sweeps (s.withholdStart g).phase := by
  unfold State.withholdStart
  dsimp only
  have hgen := s.modGen_sweeps g (fun v => { v with nextStart := some (s.ulp.now + s.params.period g) }) (le_refl _) id id
  split
  · exact hgen
  · exact hgen.trans_eq (by simp)

theorem State.freeStart_sweeps (s : State) (g : Generator) (h : (s.swg.gen g).count < Config.sweepLimit) :
    s.phase.Sweeps (s.freeStart g).phase := by
  unfold State.freeStart
  dsimp only
  refine Phase.Sweeps.trans ?_ (State.sweepStarted_sweeps _ _ _ _)
  have hsent (l : List Side) : (l.foldl (fun t side => t.sendSweep side (s.swg.gen g).count (s.params.period g - 1)) s).swg =
      s.swg := foldl_keeps State.swg _ (by simp) _ _
  refine Phase.Sweeps.trans (.of_eq (foldl_keeps State.phase _ (by simp) _ _)) (State.modGen_sweeps _ g _ ?_ ?_ ?_)
  · simp [hsent]
  · intro _; exact h
  · simp

theorem State.interleavedStart_sweeps (s : State)
    (h : (s.swg.runMode = .interleaved → s.swg.genB.run = .stopped) → s.swg.genA.count < Config.sweepLimit) :
    s.phase.Sweeps s.interleavedStart.phase := by
  unfold State.interleavedStart
  dsimp only
  refine Phase.Sweeps.trans ?_ (State.sweepStarted_sweeps _ _ _ _)
  have hsent (l : List Side) : (l.foldl (fun t side => t.sendSweep side s.swg.genA.count (s.params.periodA / 2 - 1)) s).swg =
      s.swg := foldl_keeps State.swg _ (by simp) _ _
  refine Phase.Sweeps.trans (.of_eq (foldl_keeps State.phase _ (by simp) _ _)) (State.setSwg_sweeps _ _ ?_ ?_ ?_ ?_ ?_ ?_ ?_)
  · rfl
  · simp [hsent]
  · exact le_refl _
  · intro hB _
    rw [hsent] at hB
    exact h hB
  · exact id
  · exact id
  · exact id

theorem State.endWindow_sweeps (s : State) (g : Generator) : s.phase.Sweeps (s.endWindow g).phase := by
  unfold State.endWindow
  split
  · have hgen := s.modGen_sweeps g (fun v => { v with nextStart := none }) (le_refl _) id id
    exact hgen.trans_eq (by simp)
  · exact s.modGen_halt_sweeps g

theorem State.attemptStart_sweeps (s : State) (g : Generator) : s.phase.Sweeps (s.attemptStart g).phase := by
  unfold State.attemptStart
  split
  · exact s.endWindow_sweeps g
  split
  · exact (s.modGen_halt_sweeps g).trans (State.internalClose_sweeps _ _)
  next hlimit =>
    split
    · exact .refl _
    · exact s.withholdStart_sweeps g
    · next hrun =>
      split
      · exact s.freeStart_sweeps g (by omega)
      · next hmode =>
        refine s.interleavedStart_sweeps (fun hB => ?_)
        cases g with
        | a => exact Nat.lt_of_not_le hlimit
        | b =>
          rw [Swg.gen, hB hmode] at hrun
          cases hrun

theorem State.startIfActive_sweeps (s : State) (g : Generator) : s.phase.Sweeps (s.startIfActive g).phase := by
  unfold State.startIfActive
  split
  · exact .refl _
  · exact s.attemptStart_sweeps g

theorem State.releaseStart_sweeps (s : State) (h : Bool) (g : Generator) : s.phase.Sweeps (s.releaseStart h g).phase := by
  unfold State.releaseStart
  split
  · exact s.startIfActive_sweeps g
  · exact .refl _

theorem State.releaseHold_sweeps (s : State) : s.phase.Sweeps s.releaseHold.phase := by
  unfold State.releaseHold
  dsimp only
  refine Phase.Sweeps.trans ?_ ((State.releaseStart_sweeps _ _ _).trans (State.releaseStart_sweeps _ _ _))
  refine (Phase.Sweeps.of_eq (s.setUlp_phase { s.ulp with hold := false } rfl)).trans
    (State.setSwg_sweeps _ _ rfl (le_refl _) (le_refl _) (fun _ => id) id ?_ ?_)
  · intro (h : s.swg.genA.run = .stopped)
    simp [h]
  · intro (h : s.swg.genB.run = .stopped)
    simp [h]

theorem State.releaseIfLow_sweeps (s : State) : s.phase.Sweeps s.releaseIfLow.phase := by
  unfold State.releaseIfLow
  split
  · exact s.releaseHold_sweeps
  · exact .refl _

theorem State.retestHold_sweeps (s : State) : s.phase.Sweeps s.retestHold.phase := by
  unfold State.retestHold
  split
  · exact .of_eq s.requestHold_phase
  · exact s.releaseIfLow_sweeps

theorem GenState.count_halt_if (b : Bool) (g : GenState) : (if b then g.halt else g).count = g.count := by
  cases b <;> rfl

theorem GenState.run_halt_if (b : Bool) (g : GenState) (h : g.run = .stopped) : (if b then g.halt else g).run = .stopped := by
  cases b
  · exact h
  · rfl

theorem State.makeB_sweeps (s : State) (b : BStart) : s.phase.Sweeps (s.makeB b).phase := by
  unfold State.makeB
  dsimp only
  refine Phase.Sweeps.trans ?_ (State.sweepStarted_sweeps _ _ _ _)
  have hsent : (if s.swg.runRight = .off then s else s.sendSweep .right b.sweep b.dwell).phase = s.phase := by
    split <;> simp
  refine (Phase.Sweeps.of_eq hsent).trans (State.setSwg_sweeps _ _ rfl ?_ (le_refl _) (fun _ h => ?_) id (fun h => ?_) id)
  · exact (GenState.count_halt_if _ _).ge
  · exact (GenState.count_halt_if _ _).trans_le h
  · exact GenState.run_halt_if _ _ h

theorem sweepStartStep_sweeps (g : Generator) (s : State) : s.phase.Sweeps (sweepStartStep g s).phase := by
  unfold sweepStartStep
  split
  · exact s.attemptStart_sweeps g
  · exact .refl _

theorem aStartStep_sweeps (s : State) : s.phase.Sweeps (aStartStep s).phase := by
  unfold aStartStep
  split
  · exact s.attemptStart_sweeps .a
  · exact .refl _

theorem bStartStep_sweeps (s : State) : s.phase.Sweeps (bStartStep s).phase := by
  unfold bStartStep
  split
  · exact .refl _
  · split
    · exact s.makeB_sweeps _
    · exact .refl _

/-! ### The arbiter -/

theorem State.sendReport_sweeps (s : State) : s.phase.Sweeps s.sendReport.phase := by
  unfold State.sendReport
  refine Phase.Sweeps.trans ?_ (State.releaseIfLow_sweeps _)
  exact .of_eq (by simp)

theorem State.sendChoice_sweeps (s : State) (c : Choice) : s.phase.Sweeps (s.sendChoice c).phase := by
  cases c with
  | reply r => exact .of_eq (s.sendReply_phase r)
  | alert => exact .of_eq s.sendAlert_phase
  | report => exact s.sendReport_sweeps
  | nothing => exact .refl _

theorem State.arbitrate_sweeps (s : State) : s.phase.Sweeps s.arbitrate.phase := by
  unfold State.arbitrate
  split
  · exact s.sendChoice_sweeps _
  · exact .refl _

theorem State.sweeps_of_arbitrate_or_eq {s t : State} (h : t = s.arbitrate ∨ t = s) : s.phase.Sweeps t.phase := by
  obtain rfl | rfl := h
  · exact s.arbitrate_sweeps
  · exact .refl _

theorem flushTimeExpiryStep_sweeps (s : State) : s.phase.Sweeps (flushTimeExpiryStep s).phase := by
  unfold flushTimeExpiryStep
  split
  · exact s.arbitrate_sweeps
  · exact .refl _

theorem uplinkFrameEndStep_sweeps (s : State) : s.phase.Sweeps (uplinkFrameEndStep s).phase := by
  unfold uplinkFrameEndStep
  split
  · exact .refl _
  · refine Phase.Sweeps.trans ?_ (State.arbitrate_sweeps _)
    exact .of_eq (by simp)

theorem resumeStep_sweeps (s : State) : s.phase.Sweeps (resumeStep s).phase := by
  unfold resumeStep
  split
  · refine Phase.Sweeps.trans ?_ (State.arbitrate_sweeps _)
    exact .of_eq (by simp)
  · exact .refl _

/-! ### Rows that keep the phase -/

theorem frontEndFrameJudgedStep_phase (l : Link) (bytes : List Byte) (s : State) :
    (frontEndFrameJudgedStep l bytes s).phase = s.phase :=
  foldl_keeps State.phase _ (State.frontEndByte_phase l) bytes s

theorem sweepFrameSentStep_phase (l : Link) (s : State) : (sweepFrameSentStep l s).phase = s.phase := by
  unfold sweepFrameSentStep
  split <;> simp

theorem qholdAssertStep_phase (s : State) : (qholdAssertStep s).phase = s.phase := by
  unfold qholdAssertStep
  split
  · rfl
  · exact (forPorts_keeps State.phase _ (by intro p t; split <;> simp) _).trans (by simp)

theorem readTakeStep_phase (s : State) : (readTakeStep s).phase = s.phase := by
  unfold readTakeStep
  (repeat' split) <;> simp

theorem sectionOpenAfterWaitStep_phase (s : State) : (sectionOpenAfterWaitStep s).phase = s.phase := by
  unfold sectionOpenAfterWaitStep
  (repeat' split) <;> simp

theorem quietExpiryStep_phase (s : State) : (quietExpiryStep s).phase = s.phase := by
  unfold quietExpiryStep
  (repeat' split) <;> simp

theorem quietCloseStep_phase (x : SectionId) (s : State) : (quietCloseStep x s).phase = s.phase := by
  unfold quietCloseStep
  (repeat' split) <;> simp

theorem forcePlaceAndRetireStep_phase (s : State) : (forcePlaceAndRetireStep s).phase = s.phase := by
  unfold forcePlaceAndRetireStep
  split <;> simp

theorem reporterTakeSectionStep_phase (s : State) : (reporterTakeSectionStep s).phase = s.phase := by
  unfold reporterTakeSectionStep
  (repeat' split) <;> simp

theorem findingWriteStep_phase (s : State) : (findingWriteStep s).phase = s.phase := by
  unfold findingWriteStep
  dsimp only
  (repeat' split) <;> simp

theorem drainCompleteStep_phase (s : State) : (drainCompleteStep s).phase = s.phase := by
  unfold drainCompleteStep
  split <;> simp

theorem tallyFindingWriteStep_phase (s : State) : (tallyFindingWriteStep s).phase = s.phase := by
  unfold tallyFindingWriteStep
  (repeat' split) <;> simp

theorem pauseStep_phase (s : State) : (pauseStep s).phase = s.phase := rfl

/-- A window that starts runs. -/
theorem State.startWindow_phase (s : State) (n : Nat) : (s.startWindow n).phase = { s.phase with window := true } := by
  unfold State.startWindow
  exact (forPorts_keeps State.phase _ (by simp) _).trans rfl

theorem activityWindowEndStep_phase (s : State) : (activityWindowEndStep s).phase = s.phase := by
  unfold activityWindowEndStep
  split
  · rfl
  · next w hw =>
    split
    · have hjudged : (s.writeActivities.forPorts (fun p t => t.judgeWindow p)).phase = s.phase :=
        (forPorts_keeps State.phase _ (by simp) _).trans s.writeActivities_phase
      rw [State.startWindow_phase, hjudged]
      simp [State.phase, hw]
    · rfl

theorem identifyAct_phase (f : MgmtFrame) (s : State) : (identifyAct f s).phase = s.phase := by
  unfold identifyAct
  split <;> simp

theorem getParamAct_phase (f : MgmtFrame) (s : State) : (getParamAct f s).phase = s.phase := by
  unfold getParamAct
  (repeat' split) <;> simp

theorem readStatusAct_phase (f : MgmtFrame) (s : State) : (readStatusAct f s).phase = s.phase := by
  unfold readStatusAct
  split <;> simp

theorem resetPortQueuesAct_phase (f : MgmtFrame) (s : State) : (resetPortQueuesAct f s).phase = s.phase := by
  unfold resetPortQueuesAct
  split <;> simp

theorem badKindAct_phase (f : MgmtFrame) (s : State) : (badKindAct f s).phase = s.phase := by
  simp [badKindAct]

/-! ### Time passing -/

theorem State.dueEvent_sweeps (s : State) (f : State → State) (hf : s.dueEvent = some f) (t : State) :
    t.phase.Sweeps (f t).phase := by
  obtain ⟨g, rfl⟩ | rfl | rfl | rfl | rfl | ⟨x, rfl⟩ | rfl | rfl := s.dueEvent_cases f hf
  · exact sweepStartStep_sweeps g t
  · exact bStartStep_sweeps t
  · exact aStartStep_sweeps t
  · exact .of_eq (activityWindowEndStep_phase t)
  · exact clockLimitStep_sweeps t
  · exact .of_eq (quietCloseStep_phase x t)
  · exact .of_eq (quietExpiryStep_phase t)
  · exact flushTimeExpiryStep_sweeps t

theorem idle_sweeps (s : State) : s.phase.Sweeps (idle s).phase := by
  unfold idle
  split
  · exact .refl _
  · split
    case h_1 f hf => exact s.dueEvent_sweeps f hf s
    case h_2 => exact .of_eq s.tick_phase

end Sys2Proof.Machine
end

section
/-! SUPPORT. The phase after every row, and the laws of the whole device that follow from it: the pass state and its edges, the
loaded records, what runs in each pass state, and the values in range. -/

namespace Sys2Proof.Machine

/-! ### Updates that change the phase -/

theorem State.setUlp_phase_eq (s : State) (v : Ulp) : (s.setUlp v).phase = { s.phase with inHand := v.inHand } := rfl

theorem State.setPsc_phase_eq (s : State) (v : Psc) :
    (s.setPsc v).phase = { s.phase with state := v.state, source := v.source } := rfl

theorem State.setPam_phase_eq (s : State) (v : Pam) : (s.setPam v).phase = { s.phase with window := v.window.isSome } := rfl

theorem State.setRhg_phase_eq (s : State) (v : Rhg) : (s.setRhg v).phase = { s.phase with rehearses := v.run != .idle } := rfl

theorem State.stopGenerators_phase (s : State) : s.stopGenerators.phase = { s.phase with haltA := true, haltB := true } := rfl

theorem State.stopWindow_phase (s : State) : s.stopWindow.phase = { s.phase with window := false } := rfl

theorem State.clearSweeps_phase (s : State) : s.clearSweeps.phase = { s.phase with countA := 0, countB := 0 } := rfl

theorem State.latchRun_phase (s : State) : s.latchRun.phase = { s.phase with mode := s.phase.params.sweepMode } := rfl

/-! ### Generators started and work ended -/

/-- The phase when PSC starts the generators: the mode latched, and `b` whether generator B stays STOPPED (R7, R11). -/
def Phase.begun (p : Phase) (state : PassState) (b : Bool) : Phase :=
  { p with state := state, mode := p.params.sweepMode, haltA := false, haltB := b }

theorem State.startGenerators_sweeps (s : State) : ∃ b, (s.params.sweepMode = .interleaved → b = true) ∧
    (s.phase.begun s.psc.state b).Sweeps s.startGenerators.phase := by
  refine ⟨startedRun s.latchRun.swg s.ulp.hold .b == .stopped, fun hmode => ?_, ?_⟩
  · simp [startedRun, Swg.drives_b_of_interleaved s.latchRun.swg hmode]
  · unfold State.startGenerators
    dsimp only
    refine Phase.Sweeps.trans ?_ ((State.startIfActive_sweeps _ _).trans (State.startIfActive_sweeps _ _))
    constructor <;> simp [Phase.begun, State.phase, State.latchRun]

/-- RHG at the beginning of SCANNING. -/
theorem State.startRhg_sweeps (s : State) : ({ s.phase with rehearses := true } : Phase).Sweeps s.startRhg.phase := by
  have hset (v : Rhg) : ({ s.phase with rehearses := true } : Phase).Sweeps (s.setRhg v).phase := by
    constructor <;> simp [State.phase]
  unfold State.startRhg
  split
  · constructor <;> simp
  · split
    · exact hset _
    · unfold State.rhgTake
      split
      · exact (hset _).trans (State.internalClose_sweeps _ _)
      · exact hset _

theorem State.startRhg_counts (s : State) :
    s.startRhg.phase.countA = s.phase.countA ∧ s.startRhg.phase.countB = s.phase.countB := by
  unfold State.startRhg State.rhgTake State.internalClose
  (repeat' split) <;> exact ⟨rfl, rfl⟩

theorem State.enterScanning_sweeps (s : State) : ∃ b, (s.params.sweepMode = .interleaved → b = true) ∧
    ({ s.phase.begun .scanning b with window := true, rehearses := true } : Phase).Sweeps s.enterScanning.phase := by
  let t := ((s.setPsc { s.psc with state := .scanning, clock := 0 }).latchRun).startWindow 0
  have ht : t.phase = { s.phase with state := .scanning, mode := s.params.sweepMode, window := true } :=
    State.startWindow_phase _ 0
  have hrhg : ({ s.phase with state := .scanning, mode := s.params.sweepMode, window := true, rehearses := true } :
      Phase).Sweeps t.startRhg.phase := by
    have h := t.startRhg_sweeps
    rw [ht] at h
    exact h
  have hcounts := t.startRhg_counts
  rw [ht] at hcounts
  obtain ⟨hcountA, hcountB⟩ := hcounts
  have hmode : t.startRhg.params.sweepMode = s.params.sweepMode := congrArg Params.sweepMode hrhg.params
  unfold State.enterScanning
  change ∃ b, _ ∧ Phase.Sweeps _
    (if t.startRhg.psc.state = .scanning then t.startRhg.startGenerators else t.startRhg).phase
  split
  case isTrue hstate =>
    obtain ⟨b, hb, hsweeps⟩ := t.startRhg.startGenerators_sweeps
    refine ⟨b, hmode ▸ hb, Phase.Sweeps.trans ?_ hsweeps⟩
    exact {
      params := hrhg.params, source := hrhg.source, inHand := hrhg.inHand, mode := hmode
      holdings := hrhg.holdings, sections := hrhg.sections
      countA := hcountA.ge, countB := hcountB.ge
      limitA := fun _ h => hcountA.trans_le h
      limitB := fun h => hcountB.trans_le h
      haltA := fun h => h, haltB := fun h => h
      window := hrhg.window, rehearses := hrhg.rehearses
      state := .inl hstate }
  case isFalse hstate =>
    obtain hsame | ⟨_, hsettling, hA, hB, hw, hr⟩ := hrhg.state
    · exact absurd hsame hstate
    · refine ⟨true, fun _ => rfl, ?_⟩
      exact {
        params := hrhg.params, source := hrhg.source, inHand := hrhg.inHand, mode := hrhg.mode
        holdings := hrhg.holdings, sections := hrhg.sections
        countA := hcountA.ge, countB := hcountB.ge
        limitA := fun _ h => hcountA.trans_le h
        limitB := fun h => hcountB.trans_le h
        haltA := fun _ => hA, haltB := fun _ => hB
        window := fun _ => hw, rehearses := fun _ => hr
        state := .inr ⟨rfl, hsettling, hA, hB, hw, hr⟩ }

/-- The exchange in hand when the work of a pass is ended: a walk is answered, a load stays (R131). -/
def withoutWalk : Option Exchange → Option Exchange
  | some (.walk _ _) => none
  | some (.loadHoldings tag block) => some (.loadHoldings tag block)
  | some (.loadSections tag block) => some (.loadSections tag block)
  | none => none

/-- The phase after the work of a pass has been ended (R142). -/
def Phase.workEnded (p : Phase) : Phase :=
  { p with inHand := withoutWalk p.inHand, haltA := true, haltB := true, window := false, rehearses := false }

theorem State.abortWalk_phase (s : State) : s.abortWalk.phase = { s.phase with inHand := withoutWalk s.phase.inHand } := by
  unfold State.abortWalk
  split
  case h_1 kind tag h =>
    rw [State.queueReply_phase]
    simp [State.phase, h, withoutWalk]
  all_goals next h => simp [State.phase, h, withoutWalk]

@[simp] theorem State.abortWalk_psc (s : State) : s.abortWalk.psc = s.psc := by
  unfold State.abortWalk
  split <;> simp

@[simp] theorem State.abortScu_psc (s : State) : s.abortScu.psc = s.psc := by
  unfold State.abortScu
  split <;> simp [State.abandonCalibration]

theorem State.endWork_phase (s : State) : s.endWork.phase = s.phase.workEnded := by
  unfold State.endWork
  dsimp only
  rw [State.setPsc_phase_eq, State.dropMarks_phase, State.setRhg_phase_eq, State.stopWindow_phase, State.clearSru_phase,
    State.clearStale_phase, State.clearSpe_phase, State.abortScu_phase, State.stopGenerators_phase, State.abortWalk_phase]
  simp [Phase.workEnded, State.phase, State.dropMarks, State.stopWindow, State.clearSru, State.clearStale, State.clearSpe,
    State.stopGenerators, Rhg.reset]

/-- The phase when IDLE is entered (R127). -/
def Phase.idled (p : Phase) : Phase := { p with state := .idle, source := .frontEnds }

theorem State.enterIdle_phase (s : State) : s.enterIdle.phase = s.phase.idled := rfl

/-- ABORT-PASS outside IDLE (R142). -/
theorem State.abort_phase (s : State) (tag : Byte) :
    (s.abort tag).phase = if s.psc.state = .idle then s.phase else s.phase.workEnded.idled := by
  unfold State.abort
  split
  · rw [State.queueReply_phase]
  · rw [State.queueReply_phase, State.enterIdle_phase, State.writePassEnd_phase, State.endWork_phase]

theorem State.restartWork_phase (s : State) :
    s.restartWork.phase = if s.psc.state = .idle then s.phase else s.phase.workEnded := by
  unfold State.restartWork
  split
  · rfl
  · dsimp only
    rw [State.writePassEnd_phase, ← s.endWork_phase]
    rfl

theorem State.restartQueues_phase (s : State) : s.restartQueues.phase = s.phase := rfl

theorem State.restartUplink_phase (s : State) : s.restartUplink.phase = s.phase := rfl

theorem State.restartBlocks_phase (s : State) : s.restartBlocks.phase =
    { s.phase with state := .idle, source := .frontEnds, window := false, rehearses := false } := rfl

theorem State.restart_phase (s : State) (tag : Byte) : (s.restart tag).phase =
    { s.restartWork.phase with state := .idle, source := .frontEnds, window := false, rehearses := false } := by
  unfold State.restart
  rw [State.queueReply_phase, State.restartBlocks_phase, State.clearPassCounters_phase, State.restartUplink_phase,
    State.restartQueues_phase]

/-- What ABORT-PASS and RESTART do to a phase: IDLE with nothing of a pass running, and the rest as it stood (R142, R143). -/
structure Phase.Ended (p q : Phase) : Prop where
  params : q.params = p.params
  mode : q.mode = p.mode
  holdings : q.holdings = p.holdings
  sections : q.sections = p.sections
  countA : q.countA = p.countA
  countB : q.countB = p.countB
  state : q.state = .idle
  source : q.source = .frontEnds
  window : q.window = false
  rehearses : q.rehearses = false
  busy : p.state ≠ .idle → q.haltA = true ∧ q.haltB = true ∧ q.inHand = withoutWalk p.inHand
  idle : p.state = .idle → q.haltA = p.haltA ∧ q.haltB = p.haltB ∧ q.inHand = p.inHand

theorem State.abort_ended (s : State) (tag : Byte) :
    (s.abort tag).phase = s.phase ∨ s.phase.Ended (s.abort tag).phase := by
  rw [s.abort_phase tag]
  by_cases h : s.psc.state = .idle
  · exact .inl (if_pos h)
  · right
    rw [if_neg h]
    exact ⟨rfl, rfl, rfl, rfl, rfl, rfl, rfl, rfl, rfl, rfl, fun _ => ⟨rfl, rfl, rfl⟩, fun hidle => absurd hidle h⟩

theorem State.restart_ended (s : State) (tag : Byte) : s.phase.Ended (s.restart tag).phase := by
  rw [s.restart_phase tag, s.restartWork_phase]
  by_cases h : s.psc.state = .idle
  · rw [if_pos h]
    exact ⟨rfl, rfl, rfl, rfl, rfl, rfl, rfl, rfl, rfl, rfl, fun hbusy => absurd h hbusy, fun _ => ⟨rfl, rfl, rfl⟩⟩
  · rw [if_neg h]
    exact ⟨rfl, rfl, rfl, rfl, rfl, rfl, rfl, rfl, rfl, rfl, fun _ => ⟨rfl, rfl, rfl⟩, fun hidle => absurd hidle h⟩

/-! ### Bytes received on the uplink -/

/-- Bypass frames in turn: each resumes sending or ends the work (R152). -/
abbrev Phase.Received : Phase → Phase → Prop := Relation.ReflTransGen (fun p q => p.Sweeps q ∨ p.Ended q)

theorem Phase.Received.of_sweeps {p q : Phase} (h : p.Sweeps q) : p.Received q := .single (.inl h)

theorem Phase.Received.of_eq {p q : Phase} (h : q = p) : p.Received q := .of_sweeps (.of_eq h)

theorem State.abort_received (s : State) (tag : Byte) : s.phase.Received (s.abort tag).phase := by
  obtain h | h := s.abort_ended tag
  · exact .of_eq h
  · exact .single (.inr h)

theorem State.sortFrame_received (s : State) (f : MgmtFrame) : s.phase.Received (s.sortFrame f).phase := by
  unfold State.sortFrame
  split
  · exact s.abort_received _
  split
  · exact .single (.inr (s.restart_ended _))
  split
  · exact .of_eq (pauseStep_phase s)
  split
  · exact .of_sweeps (resumeStep_sweeps s)
  · exact .of_eq (s.queueFrame_phase f)

theorem State.uplinkByte_received (s : State) (b : Byte) : s.phase.Received (s.uplinkByte b).phase := by
  unfold State.uplinkByte State.judgeUplink
  dsimp only
  split
  · exact .of_eq (by simp)
  · exact .of_eq (by simp)
  · split
    · exact (Phase.Received.of_eq (by simp)).trans (State.sortFrame_received _ _)
    · exact .of_eq (by simp)

theorem uplinkFrameJudgedStep_received (bytes : List Byte) (s : State) :
    s.phase.Received (uplinkFrameJudgedStep bytes s).phase := by
  unfold uplinkFrameJudgedStep
  induction bytes generalizing s with
  | nil => exact .refl
  | cons b bytes ih => exact (s.uplinkByte_received b).trans (ih _)

/-! ### The phase after every row -/

/-- The phase after a row: what each command can do to the phase. -/
inductive Phase.Row : Instr → Phase → Phase → Prop
  | sweeps {c : Instr} {p q : Phase} (h : p.Sweeps q) : Row c p q
  | received {c : Instr} {p q : Phase}
      (hc : (∃ tag, c = .abortPass tag) ∨ (∃ tag, c = .restart tag) ∨ ∃ bytes, c = .uplinkFrameJudged bytes)
      (h : p.Received q) : Row c p q
  | resets {c : Instr} {p : Phase} (hc : c = .powerOn ∨ c = .resetLine) : Row c p State.reset.phase
  | opens {c : Instr} {p : Phase} (hc : c = .openPass ∨ c = .rehearse) (hp : p.state = .idle) (source : PassSource)
      (kind tag : Byte) : Row c p { p with
        state := .preparing, source := source, inHand := some (.walk kind tag), countA := 0, countB := 0, window := false,
        rehearses := false }
  | calibrates {p q : Phase} {b : Bool} (hp : p.state = .idle) (hhand : p.inHand = none)
      (hb : p.params.sweepMode = .interleaved → b = true)
      (h : ({ p.begun .calibrating b with countA := 0, countB := 0 } : Phase).Sweeps q) : Row .calibrate p q
  | scans {p q : Phase} {b : Bool} (hp : p.state = .preparing) (hb : p.params.sweepMode = .interleaved → b = true)
      (h : ({ p.begun .scanning b with inHand := none, window := true, rehearses := true } : Phase).Sweeps q) :
      Row .preparingWalkEnd p q
  | tallies {c : Instr} {p : Phase} (hc : c = .settle ∨ c = .overfullFindingWrite ∨ c = .sectionSummaryWrite)
      (hp : p.state = .settling) : Row c p { p with state := .tallying }
  | passEnds {p : Phase} (hp : p.state = .tallying) : Row .tallyWalkEnd p { p.idled with rehearses := false }
  | completes {p : Phase} (hp : p.state = .calibrating) :
      Row .calibrationComplete p { p with state := .idle, haltA := true, haltB := true }
  | loads {c : Instr} {p : Phase} {x : Exchange} (hp : p.state = .idle)
      (hx : (∃ tag block, x = .loadHoldings tag block) ∨ ∃ tag block, x = .loadSections tag block) :
      Row c p { p with inHand := some x }
  | stores {p : Phase} {x : Exchange} (hp : p.inHand = some x)
      (hx : (∃ tag block, x = .loadHoldings tag block) ∨ ∃ tag block, x = .loadSections tag block)
      (holdings : List (TagCode × Nat × SectionId × ItemStatus)) (sections : List (SectionId × Side × Nat)) :
      Row .loadComplete p { p with
        inHand := none, holdings := p.holdings ++ holdings, sections := p.sections ++ sections }
  | clears {p : Phase} (hp : p.state = .idle) (holdings : List (TagCode × Nat × SectionId × ItemStatus))
      (sections : List (SectionId × Side × Nat)) :
      Row .clearTables p { p with holdings := holdings, sections := sections }
  | sets {p q : Phase} {id selector v : Nat} (hnamed : paramNamed id selector = true) (hvalue : valueNamed id v = true)
      (hclass : classClash p.params id v = false)
      (h : ({ p with params := p.params.set id (clampParam p.params id v) } : Phase).Sweeps q) : Row .setParam p q

/-! ### Rows that move the pass -/

/-- SRU's signal moves SETTLING to TALLYING (R136). -/
theorem State.signalIfClosed_phase (s : State) : s.signalIfClosed.phase = s.phase ∨
    s.phase.state = .settling ∧ s.signalIfClosed.phase = { s.phase with state := .tallying } := by
  unfold State.signalIfClosed
  split
  case isTrue h => exact .inr ⟨h.1, rfl⟩
  case isFalse => exact .inl rfl

/-- The phase stands, or SETTLING has passed into TALLYING. -/
def Phase.Tallies (p q : Phase) : Prop := q = p ∨ p.state = .settling ∧ q = { p with state := .tallying }

theorem Phase.Tallies.row {p q : Phase} {c : Instr} (h : p.Tallies q)
    (hc : c = .settle ∨ c = .overfullFindingWrite ∨ c = .sectionSummaryWrite) : Phase.Row c p q := by
  obtain rfl | ⟨hp, rfl⟩ := h
  · exact .sweeps (.refl _)
  · exact .tallies hc hp

theorem State.closeAllSections_tallies (s : State) : s.phase.Tallies s.closeAllSections.phase := by
  unfold State.closeAllSections
  have hclosed (l : List SectionId) :
      (l.foldl (fun t x => t.beginClose x) (s.setSru { s.sru with closeAll := true })).phase = s.phase :=
    foldl_keeps State.phase _ (by simp) _ _
  have h := State.signalIfClosed_phase ((s.sru.openList.map OpenSection.sec).foldl (fun t x => t.beginClose x)
    (s.setSru { s.sru with closeAll := true }))
  rwa [hclosed] at h

theorem State.settleRun_tallies (s : State) : s.phase.Tallies s.settleRun.phase := by
  unfold State.settleRun
  dsimp only
  split
  · exact .inl (by simp)
  · refine Eq.subst (motive := fun p => Phase.Tallies p _) ?_ (State.closeAllSections_tallies _)
    simp

theorem State.goOn_tallies (s : State) (c : Continuation) : s.phase.Tallies (s.goOn c).phase := by
  cases c with
  | done => exact .inl rfl
  | forcePlace x after => exact .inl (s.forcePlaceRun_phase x after)
  | settle => exact s.settleRun_tallies
  | newEntry r ref => exact .inl (s.makeEntry_phase r ref)

theorem settleStep_tallies (s : State) : s.phase.Tallies (settleStep s).phase := by
  unfold settleStep
  split
  · exact s.settleRun_tallies
  · exact .inl rfl

theorem overfullFindingWriteStep_tallies (s : State) : s.phase.Tallies (overfullFindingWriteStep s).phase := by
  unfold overfullFindingWriteStep
  split
  case h_1 d _ =>
    split
    · have h := State.goOn_tallies (((s.setWork .idle).writeRecord (.finding d.finding)).finishDisposal d.slot) d.rest
      simpa using h
    · exact .inl rfl
  case h_2 => exact .inl rfl
  case h_3 => exact .inl rfl

theorem State.closeSection_tallies (s : State) (x : SectionId) : s.phase.Tallies (s.closeSection x).phase := by
  unfold State.closeSection
  dsimp only
  refine Eq.subst (motive := fun p => Phase.Tallies p _) ?_ (State.signalIfClosed_phase _)
  simp

theorem sectionSummaryWriteStep_tallies (s : State) : s.phase.Tallies (sectionSummaryWriteStep s).phase := by
  unfold sectionSummaryWriteStep
  split
  · exact .inl rfl
  · next r _ =>
    split
    · next y o _ _ =>
      split
      · have h := State.closeSection_tallies (s.writeRecord (.summary (summaryOf y o.tallies))) r.sec
        rwa [State.writeRecord_phase] at h
      · exact .inl rfl
    · exact .inl rfl

theorem tallyWalkEndStep_row (s : State) : Phase.Row .tallyWalkEnd s.phase (tallyWalkEndStep s).phase := by
  unfold tallyWalkEndStep
  split
  case isTrue h =>
    dsimp only
    split
    · exact .sweeps (.of_eq s.tallyRest_phase)
    · have hend : ((s.tallyRest.writePassEnd (passEndReason s.tallyRest.psc.endReason)).endRhg.enterIdle).phase =
          { s.phase.idled with rehearses := false } := by
        have hwritten : (s.tallyRest.writePassEnd (passEndReason s.tallyRest.psc.endReason)).phase = s.phase := by simp
        exact congrArg (fun p : Phase => { p.idled with rehearses := false }) hwritten
      rw [hend]
      exact .passEnds h.1
  case isFalse => exact .sweeps (.refl _)

theorem calibrationCompleteStep_row (s : State) : Phase.Row .calibrationComplete s.phase (calibrationCompleteStep s).phase := by
  unfold calibrationCompleteStep
  split
  case isTrue h =>
    have hstate : s.phase.state = .calibrating := by
      simp only [State.calibrationDone, Bool.and_eq_true, beq_iff_eq] at h
      exact h.1.1.1.1
    dsimp only
    rw [State.setPsc_phase_eq, State.setScu_phase, State.stopGenerators_phase, State.applyOutcomes_phase]
    have hsource : s.applyOutcomes.psc.source = s.phase.source := congrArg Phase.source s.applyOutcomes_phase
    change Phase.Row _ _ { s.phase with state := .idle, source := s.applyOutcomes.psc.source, haltA := true, haltB := true }
    rw [hsource]
    exact .completes hstate
  case isFalse => exact .sweeps (.refl _)

theorem preparingWalkEndStep_row (s : State) : Phase.Row .preparingWalkEnd s.phase (preparingWalkEndStep s).phase := by
  unfold preparingWalkEndStep
  split
  case h_1 kind tag hstate _ =>
    dsimp only
    generalize hu : State.queueReply _ _ = u
    have hphase : u.phase = { s.phase with inHand := none } := by
      rw [← hu, State.queueReply_phase, State.setUlp_phase_eq, State.countPsc_phase, State.walkRest_phase]
    obtain ⟨b, hb, hsweeps⟩ := u.enterScanning_sweeps
    have hparams : u.params = s.params := congrArg Phase.params hphase
    rw [hphase] at hsweeps
    rw [hparams] at hb
    exact .scans hstate hb hsweeps
  case h_2 => exact .sweeps (.refl _)

/-! ### Dispatched exchanges -/

/-- A dispatched row does nothing, or carries out the action of the head frame (R150). -/
theorem State.dispatch_cases (s : State) (mine : MgmtFrame → Bool) (act : MgmtFrame → State → State) :
    s.dispatch mine act = s ∨
      ∃ f, s.dispatchable = some f ∧ mine f = true ∧ s.dispatch mine act = act f s.popMgmt := by
  unfold State.dispatch
  split
  · exact .inl rfl
  · next f hf =>
    split
    case isTrue hmine => exact .inr ⟨f, hf, hmine, rfl⟩
    case isFalse => exact .inl rfl

/-- The conditions of R150 on the frame that may be dispatched. -/
theorem State.dispatchable_eq_some (s : State) {f : MgmtFrame} (h : s.dispatchable = some f) :
    ∃ rest, s.ulp.mgmt = f :: rest ∧ s.ulp.inHand = none ∧ s.ulp.replies.length < 8 ∧ s.heldBack f = false := by
  unfold State.dispatchable at h
  split at h
  · cases h
  · next g rest hmgmt =>
    split at h
    · next hcond =>
      cases h
      exact ⟨rest, hmgmt, hcond⟩
    · cases h

/-- The row of an exchange is what its action does, since a frame that leaves the queue leaves the phase. -/
theorem State.dispatch_row (s : State) (c : Instr) (mine : MgmtFrame → Bool) (act : MgmtFrame → State → State)
    (h : ∀ f t, t.ulp.inHand = none → Phase.Row c t.phase (act f t).phase) :
    Phase.Row c s.phase (s.dispatch mine act).phase := by
  obtain heq | ⟨f, hf, _, heq⟩ := s.dispatch_cases mine act
  · rw [heq]
    exact .sweeps (.refl _)
  · rw [heq, ← s.popMgmt_phase]
    obtain ⟨_, _, hhand, _, _⟩ := s.dispatchable_eq_some hf
    exact h f _ hhand

theorem openBy_row (c : Instr) (hc : c = .openPass ∨ c = .rehearse) (s : State) (hs : s.psc.state = .idle) (f : MgmtFrame)
    (source : PassSource) (verbose : Bool) (pace displacement : Option Nat) :
    Phase.Row c s.phase (s.openBy f source verbose pace displacement).phase := by
  unfold State.openBy State.setUpPass
  dsimp only
  rw [State.setUlp_phase_eq, State.setPsc_phase_eq, State.setRhg_phase_eq, State.setPam_phase_eq, State.clearSru_phase,
    State.clearFacings_phase, State.markStale_phase, State.clearSpe_phase, State.clearPassCounters_phase,
    State.clearSweeps_phase]
  exact .opens hc hs source f.kind f.tag

theorem State.refuse_row (c : Instr) (s : State) (f : MgmtFrame) (r : ResultCode) :
    Phase.Row c s.phase (s.refuse f r).phase := .sweeps (.of_eq (by simp))

theorem State.idle_of_not_taken {s : State} (h : ¬s.passStateTaken = true) : s.psc.state = .idle := by
  simpa [State.passStateTaken] using h

theorem openPassAct_row (f : MgmtFrame) (s : State) : Phase.Row .openPass s.phase (openPassAct f s).phase := by
  unfold openPassAct
  split
  · exact s.refuse_row _ _ _
  · split
    · exact s.refuse_row _ _ _
    next htaken =>
      split
      · exact s.refuse_row _ _ _
      · exact openBy_row _ (.inl rfl) s (State.idle_of_not_taken htaken) f _ _ _ _

theorem rehearseAct_row (f : MgmtFrame) (s : State) : Phase.Row .rehearse s.phase (rehearseAct f s).phase := by
  unfold rehearseAct
  split
  · exact s.refuse_row _ _ _
  · split
    · exact s.refuse_row _ _ _
    next htaken =>
      split
      · exact s.refuse_row _ _ _
      split
      · exact s.refuse_row _ _ _
      · exact openBy_row _ (.inr rfl) s (State.idle_of_not_taken htaken) f _ _ _ _

theorem closePassAct_row (f : MgmtFrame) (s : State) : Phase.Row .closePass s.phase (closePassAct f s).phase := by
  unfold closePassAct
  split
  · exact s.refuse_row _ _ _
  split
  case isTrue h =>
    refine .sweeps ((Phase.Sweeps.of_eq (s.reply_phase f .done [])).trans (State.enterSettling_sweeps _ _ ?_))
    simpa using h
  case isFalse => exact s.refuse_row _ _ _

theorem calibrateAct_row (f : MgmtFrame) (s : State) (hhand : s.ulp.inHand = none) :
    Phase.Row .calibrate s.phase (calibrateAct f s).phase := by
  unfold calibrateAct
  split
  · exact s.refuse_row _ _ _
  · next near far _ =>
    split
    · exact s.refuse_row _ _ _
    · next hnone =>
      have hidle : s.psc.state = .idle := by
        by_contra h
        simp [State.calibrateRefusal, h] at hnone
      dsimp only
      rw [State.reply_phase]
      generalize hu : State.setPsc _ _ = u
      have hphase : u.phase = { s.phase with state := .calibrating, mode := s.params.sweepMode, countA := 0, countB := 0 } := by
        rw [← hu, State.setPsc_phase_eq, State.latchRun_phase, State.clearSweeps_phase, State.clearStale_phase,
          State.startScu_phase]
        simp [State.phase, State.latchRun, State.clearSweeps, State.clearStale]
      obtain ⟨b, hb, hsweeps⟩ := u.startGenerators_sweeps
      have hparams : u.params = s.params := congrArg Phase.params hphase
      have hstate : u.psc.state = .calibrating := congrArg Phase.state hphase
      rw [hphase, hstate] at hsweeps
      rw [hparams] at hb
      exact .calibrates hidle hhand hb hsweeps

theorem State.beginLoad_row (c : Instr) (s : State) (f : MgmtFrame) (size : Nat) (hold : List (List Byte) → Exchange)
    (hhold : ∀ l, (∃ tag block, hold l = .loadHoldings tag block) ∨ ∃ tag block, hold l = .loadSections tag block) :
    Phase.Row c s.phase (s.beginLoad f size hold).phase := by
  unfold State.beginLoad
  split
  · exact s.refuse_row _ _ _
  · next block _ =>
    split
    · exact s.refuse_row _ _ _
    next hidle =>
      split
      · exact s.refuse_row _ _ _
      · exact .loads (not_not.mp hidle) (hhold block)

theorem clearTablesAct_row (f : MgmtFrame) (s : State) : Phase.Row .clearTables s.phase (clearTablesAct f s).phase := by
  unfold clearTablesAct
  split
  · exact s.refuse_row _ _ _
  · split
    · exact s.refuse_row _ _ _
    next hidle =>
      rw [State.reply_phase]
      exact .clears (not_not.mp hidle) _ _

/-- A block stored adds records behind those that stand (R65). -/
theorem storeBlock_append {ρ α : Type} (test : List α → ρ → Except ResultCode α) (block : List ρ) (table : List α) (n : Nat) :
    ∃ stored, (storeBlock test table block n).1 = table ++ stored := by
  induction block generalizing table n with
  | nil => exact ⟨[], (List.append_nil _).symm⟩
  | cons r rest ih =>
    unfold storeBlock
    split
    · exact ⟨[], (List.append_nil _).symm⟩
    · next x _ =>
      obtain ⟨stored, h⟩ := ih (table ++ [x]) (n + 1)
      exact ⟨x :: stored, by rw [h, List.append_assoc]; rfl⟩

theorem loadCompleteStep_row (s : State) : Phase.Row .loadComplete s.phase (loadCompleteStep s).phase := by
  unfold loadCompleteStep State.endLoad
  split
  · next tag block h =>
    obtain ⟨stored, hstored⟩ := storeBlock_append (testHolding s.params) block s.tst.holdings 0
    have hrow := Phase.Row.stores (p := s.phase) h (.inl ⟨tag, block, rfl⟩) (stored.map Holding.loaded) []
    rw [State.queueReply_phase]
    convert hrow using 1
    simp [State.phase, hstored]
  · next tag block h =>
    obtain ⟨stored, hstored⟩ := storeBlock_append testSection block s.tst.sections 0
    have hrow := Phase.Row.stores (p := s.phase) h (.inr ⟨tag, block, rfl⟩) [] (stored.map Section.loaded)
    rw [State.queueReply_phase]
    convert hrow using 1
    simp [State.phase, hstored]
  · exact .sweeps (.refl _)
  · exact .sweeps (.refl _)

/-- A per-port parameter is none of the device-wide ones. -/
theorem Params.set_of_isPerPort (q : Params) (id v : Nat) (h : isPerPort id = true) : q.set id v = q := by
  simp only [isPerPort, Bool.or_eq_true, beq_iff_eq] at h
  obtain rfl | rfl := h <;> rfl

theorem State.applyParam_sweeps (s : State) (id selector v : Nat) :
    ({ s.phase with params := s.params.set id v } : Phase).Sweeps (s.applyParam id selector v).phase := by
  unfold State.applyParam
  split
  case isTrue hport =>
    rw [Params.set_of_isPerPort _ _ _ hport]
    exact .of_eq (foldl_keeps State.phase _ (by simp) _ _)
  split
  · exact State.retestHold_sweeps (s.setParams (s.params.set id v))
  split
  · exact State.arbitrate_sweeps (s.setParams (s.params.set id v))
  · exact .refl _

/-- A SET-PARAM that passes the tests of R169. -/
theorem State.paramRefusal_eq_none_iff (s : State) (id selector v : Nat) : s.paramRefusal id selector v = none ↔
    paramNamed id selector = true ∧ valueNamed id v = true ∧ (idleOnly id = true → s.psc.state = .idle) ∧
      classClash s.params id v = false := by
  unfold State.paramRefusal
  (repeat' split) <;> simp_all

theorem setParamAct_row (f : MgmtFrame) (s : State) : Phase.Row .setParam s.phase (setParamAct f s).phase := by
  unfold setParamAct
  split
  · exact s.refuse_row _ _ _
  · next id selector v _ =>
    split
    · exact s.refuse_row _ _ _
    · next hnone =>
      dsimp only
      rw [State.reply_phase]
      obtain ⟨hnamed, hvalue, _, hclass⟩ := (s.paramRefusal_eq_none_iff id selector v).mp hnone
      exact .sets hnamed hvalue hclass (s.applyParam_sweeps id selector _)

/-! ### Every row and every step -/

section Live

variable {s t : State} {f : State → State} {c : Instr}

/-- A row that RESET holds back does what its step does, or nothing. -/
theorem live_row (h : live s f = .next t) (hf : Phase.Row c s.phase (f s).phase) : Phase.Row c s.phase t.phase := by
  unfold live at h
  cases h
  split
  · exact .sweeps (.refl _)
  · exact hf

theorem live_row_of_sweeps (h : live s f = .next t) (hf : s.phase.Sweeps (f s).phase) : Phase.Row c s.phase t.phase :=
  live_row h (.sweeps hf)

theorem live_row_of_eq (h : live s f = .next t) (hf : (f s).phase = s.phase) : Phase.Row c s.phase t.phase :=
  live_row h (.sweeps (.of_eq hf))

theorem live_row_of_dispatch {mine : MgmtFrame → Bool} {act : MgmtFrame → State → State}
    (h : live s (State.dispatch · mine act) = .next t) (hact : ∀ f u, u.ulp.inHand = none → Phase.Row c u.phase (act f u).phase) :
    Phase.Row c s.phase t.phase :=
  live_row h (s.dispatch_row c mine act hact)

theorem live_row_of_dispatch_eq {mine : MgmtFrame → Bool} {act : MgmtFrame → State → State}
    (h : live s (State.dispatch · mine act) = .next t) (hact : ∀ f u, (act f u).phase = u.phase) :
    Phase.Row c s.phase t.phase :=
  live_row_of_dispatch h (fun f u _ => .sweeps (.of_eq (hact f u)))

end Live

/-- The phase after every command. -/
theorem exec_row (c : Instr) (s t : State) (h : exec c s = .next t) : Phase.Row c s.phase t.phase := by
  cases c with
  | powerOn => cases h; exact .resets (.inl rfl)
  | resetLine => cases h; exact .resets (.inr rfl)
  | resetLineRelease => cases h; exact .sweeps (.refl _)
  | qholdRelease => cases h; exact .sweeps (.refl _)
  | qholdAssert =>
    cases h
    split
    · exact .sweeps (.refl _)
    · exact .sweeps (.of_eq (qholdAssertStep_phase s))
  | frontEndFrameJudged link bytes => exact live_row_of_eq h (frontEndFrameJudgedStep_phase link bytes s)
  | sweepFrameSent link => exact live_row_of_eq h (sweepFrameSentStep_phase link s)
  | sweepStart g => exact live_row_of_sweeps h (sweepStartStep_sweeps g s)
  | aStart => exact live_row_of_sweeps h (aStartStep_sweeps s)
  | bStart => exact live_row_of_sweeps h (bStartStep_sweeps s)
  | readTake => exact live_row_of_eq h (readTakeStep_phase s)
  | sectionOpenAfterWait => exact live_row_of_eq h (sectionOpenAfterWaitStep_phase s)
  | overfullFindingWrite => exact live_row h ((overfullFindingWriteStep_tallies s).row (.inr (.inl rfl)))
  | quietExpiry => exact live_row_of_eq h (quietExpiryStep_phase s)
  | quietClose sec => exact live_row_of_eq h (quietCloseStep_phase sec s)
  | forcePlaceAndRetire => exact live_row_of_eq h (forcePlaceAndRetireStep_phase s)
  | reporterTakeSection => exact live_row_of_eq h (reporterTakeSectionStep_phase s)
  | findingWrite => exact live_row_of_eq h (findingWriteStep_phase s)
  | sectionSummaryWrite => exact live_row h ((sectionSummaryWriteStep_tallies s).row (.inr (.inr rfl)))
  | drainComplete => exact live_row_of_eq h (drainCompleteStep_phase s)
  | settle => exact live_row h ((settleStep_tallies s).row (.inl rfl))
  | tallyFindingWrite => exact live_row_of_eq h (tallyFindingWriteStep_phase s)
  | tallyWalkEnd => exact live_row h (tallyWalkEndStep_row s)
  | clockLimit => exact live_row_of_sweeps h (clockLimitStep_sweeps s)
  | preparingWalkEnd => exact live_row h (preparingWalkEndStep_row s)
  | calibrationComplete => exact live_row h (calibrationCompleteStep_row s)
  | activityWindowEnd => exact live_row_of_eq h (activityWindowEndStep_phase s)
  | uplinkFrameJudged bytes =>
    exact live_row h (.received (.inr (.inr ⟨bytes, rfl⟩)) (uplinkFrameJudgedStep_received bytes s))
  | abortPass tag =>
    exact live_row (f := (State.abort · tag)) h (.received (.inl ⟨tag, rfl⟩) (s.abort_received tag))
  | restart tag =>
    exact live_row (f := (State.restart · tag)) h
      (.received (.inr (.inl ⟨tag, rfl⟩)) (.single (.inr (s.restart_ended tag))))
  | pause => exact live_row_of_eq h (pauseStep_phase s)
  | resume => exact live_row_of_sweeps h (resumeStep_sweeps s)
  | identify => exact live_row_of_dispatch_eq h identifyAct_phase
  | setParam => exact live_row_of_dispatch h (fun f u _ => setParamAct_row f u)
  | getParam => exact live_row_of_dispatch_eq h getParamAct_phase
  | readStatusPass => exact live_row_of_dispatch_eq h readStatusAct_phase
  | readStatusPorts => exact live_row_of_dispatch_eq h readStatusAct_phase
  | readStatusCalibration => exact live_row_of_dispatch_eq h readStatusAct_phase
  | readStatusCounters => exact live_row_of_dispatch_eq h readStatusAct_phase
  | readStatusLinks => exact live_row_of_dispatch_eq h readStatusAct_phase
  | resetPortQueues => exact live_row_of_dispatch_eq h resetPortQueuesAct_phase
  | resetPortQueuesGlobal => exact live_row_of_dispatch_eq h resetPortQueuesAct_phase
  | loadHoldings =>
    exact live_row_of_dispatch h (fun f u _ => u.beginLoad_row _ f _ _ (fun _ => .inl ⟨_, _, rfl⟩))
  | loadSections =>
    exact live_row_of_dispatch h (fun f u _ => u.beginLoad_row _ f _ _ (fun _ => .inr ⟨_, _, rfl⟩))
  | loadComplete => exact live_row h (loadCompleteStep_row s)
  | clearTables => exact live_row_of_dispatch h (fun f u _ => clearTablesAct_row f u)
  | calibrate => exact live_row_of_dispatch h calibrateAct_row
  | openPass => exact live_row_of_dispatch h (fun f u _ => openPassAct_row f u)
  | rehearse => exact live_row_of_dispatch h (fun f u _ => rehearseAct_row f u)
  | closePass => exact live_row_of_dispatch h (fun f u _ => closePassAct_row f u)
  | badKind => exact live_row_of_dispatch_eq h badKindAct_phase
  | replyFrame => exact live_row_of_sweeps h (State.sweeps_of_arbitrate_or_eq (replyFrameStep_eq s))
  | alertFrame => exact live_row_of_sweeps h (State.sweeps_of_arbitrate_or_eq (alertFrameStep_eq s))
  | reportFrame => exact live_row_of_sweeps h (State.sweeps_of_arbitrate_or_eq (reportFrameStep_eq s))
  | flushTimeExpiry => exact live_row_of_sweeps h (flushTimeExpiryStep_sweeps s)
  | uplinkFrameEnd => exact live_row_of_sweeps h (uplinkFrameEndStep_sweeps s)

/-- A step is the row of the front command, or time passing (log entry 3). -/
theorem step_cases {s t : State} (h : step s = .next t) :
    s.pending = [] ∧ t = idle s ∨ ∃ c rest, s.pending = c :: rest ∧ exec c (s.setPending rest) = .next t := by
  cases hp : s.pending with
  | nil =>
    rw [step_of_idle hp] at h
    cases h
    exact .inl ⟨rfl, rfl⟩
  | cons c rest =>
    rw [step, hp] at h
    exact .inr ⟨c, rest, rfl, h⟩

theorem step_row {s t : State} (h : step s = .next t) :
    s.pending = [] ∧ s.phase.Sweeps t.phase ∨ ∃ c rest, s.pending = c :: rest ∧ Phase.Row c s.phase t.phase := by
  obtain ⟨hp, rfl⟩ | ⟨c, rest, hp, hexec⟩ := step_cases h
  · exact .inl ⟨hp, idle_sweeps s⟩
  · have hrow := exec_row c (s.setPending rest) t hexec
    rw [State.setPending_phase] at hrow
    exact .inr ⟨c, rest, hp, hrow⟩

end Sys2Proof.Machine
end

section
/-! SUPPORT. The laws of the whole device that follow from the phase: the edges of the pass state, the loaded records, and what
runs in each pass state. -/

namespace Sys2Proof.Machine

/-! ### The edges of the pass state -/

theorem Phase.Sweeps.edge {p q : Phase} (h : p.Sweeps q) :
    q.state = p.state ∨ p.state = .scanning ∧ q.state = .settling := by
  obtain hsame | ⟨hscan, hsettle, _⟩ := h.state
  · exact .inl hsame
  · exact .inr ⟨hscan, hsettle⟩

/-- After received bytes IDLE has been entered, or the phase has swept. -/
theorem Phase.Received.cases {p q : Phase} (h : p.Received q) : p.Sweeps q ∨ q.state = .idle := by
  induction h with
  | refl => exact .inl (.refl _)
  | tail _ hstep ih =>
    obtain hsweeps | hended := hstep
    · obtain ih | hidle := ih
      · exact .inl (ih.trans hsweeps)
      · obtain hsame | ⟨hscan, _⟩ := hsweeps.edge
        · exact .inr (hsame.trans hidle)
        · rw [hidle] at hscan
          cases hscan
    · exact .inr hended.state

/-- What a row does to the sweep counts while a pass stays open (R7). -/
theorem Phase.Row.counts {c : Instr} {p q : Phase} (h : Phase.Row c p q) (hp : p.state.isOpen = true)
    (hq : q.state.isOpen = true) : p.countA ≤ q.countA ∧ p.countB ≤ q.countB := by
  cases h with
  | sweeps h => exact ⟨h.countA, h.countB⟩
  | received hc h =>
    obtain h | hidle := h.cases
    · exact ⟨h.countA, h.countB⟩
    · rw [hidle] at hq
      cases hq
  | resets hc => cases hq
  | opens hc hidle => rw [hidle] at hp; cases hp
  | calibrates hidle => rw [hidle] at hp; cases hp
  | scans hprep hb h => exact ⟨h.countA, h.countB⟩
  | tallies => exact ⟨le_refl _, le_refl _⟩
  | passEnds => exact ⟨le_refl _, le_refl _⟩
  | completes => exact ⟨le_refl _, le_refl _⟩
  | loads => exact ⟨le_refl _, le_refl _⟩
  | stores => exact ⟨le_refl _, le_refl _⟩
  | clears => exact ⟨le_refl _, le_refl _⟩
  | sets hn hv hcl h => exact ⟨h.countA, h.countB⟩

/-- Settles O58: the edges, row by row. -/
theorem thePassStateFollowsItsEdges : Obligations.ThePassStateFollowsItsEdges := by
  intro s t hstep
  obtain ⟨_, h⟩ | ⟨c, rest, hpending, h⟩ := step_row hstep
  · refine ⟨?_, fun _ _ => ⟨h.countA, h.countB⟩⟩
    obtain hsame | hclose := h.edge
    · exact .inl hsame
    · exact .inr (.inr (.inr (.inr (.inr (.inl hclose)))))
  · refine ⟨?_, h.counts⟩
    simp only [hpending, List.head?_cons, Option.some.injEq]
    generalize hp : s.phase = p at h
    generalize hq : t.phase = q at h
    have hbefore : s.psc.state = p.state := congrArg Phase.state hp
    have hafter : t.psc.state = q.state := congrArg Phase.state hq
    rw [hbefore, hafter]
    clear hp hq hbefore hafter hstep hpending
    cases h with
    | sweeps h =>
      obtain hsame | hclose := h.edge
      · exact .inl hsame
      · simp [hclose]
    | received hc h =>
      obtain h | hidle := h.cases
      · obtain hsame | hclose := h.edge
        · exact .inl hsame
        · simp [hclose]
      · obtain ⟨tag, rfl⟩ | ⟨tag, rfl⟩ | ⟨bytes, rfl⟩ := hc <;> simp [hidle]
    | resets hc =>
      have hidle : State.reset.phase.state = .idle := rfl
      obtain rfl | rfl := hc <;> simp [hidle]
    | opens hc hidle => obtain rfl | rfl := hc <;> simp [hidle]
    | calibrates hidle hhand hb h =>
      obtain hsame | ⟨hscan, _⟩ := h.edge
      · have hcal : q.state = .calibrating := hsame
        simp [hidle, hcal]
      · cases hscan
    | scans hprep hb h =>
      obtain hsame | ⟨_, hsettle⟩ := h.edge
      · have hscan : q.state = .scanning := hsame
        simp [hprep, hscan]
      · simp [hprep, hsettle]
    | tallies hc hsettle => obtain rfl | rfl | rfl := hc <;> simp [hsettle]
    | passEnds htally => simp [htally, Phase.idled]
    | completes hcal => simp [hcal]
    | loads => exact .inl rfl
    | stores => exact .inl rfl
    | clears => exact .inl rfl
    | sets hn hv hcl h =>
      obtain hsame | ⟨hscan, hsettle⟩ := h.edge
      · exact .inl hsame
      · have hscan : p.state = .scanning := hscan
        simp [hscan, hsettle]

/-! ### The loaded records -/

theorem Phase.Received.loaded {p q : Phase} (h : p.Received q) : q.holdings = p.holdings ∧ q.sections = p.sections := by
  induction h with
  | refl => exact ⟨rfl, rfl⟩
  | tail _ hstep ih =>
    obtain ⟨hholdings, hsections⟩ := ih
    obtain h | h := hstep
    · exact ⟨h.holdings.trans hholdings, h.sections.trans hsections⟩
    · exact ⟨h.holdings.trans hholdings, h.sections.trans hsections⟩

/-- What a row does to the loaded records: they stand, LOAD_COMPLETE adds behind them with a load in hand, CLEAR_TABLES empties in
IDLE, or the device is reset. -/
theorem Phase.Row.loaded {c : Instr} {p q : Phase} (h : Phase.Row c p q) :
    q.holdings = p.holdings ∧ q.sections = p.sections ∨
      c = .loadComplete ∧ (∃ x, p.inHand = some x ∧
        ((∃ tag block, x = .loadHoldings tag block) ∨ ∃ tag block, x = .loadSections tag block)) ∧
        p.holdings <+: q.holdings ∧ p.sections <+: q.sections ∨
      c = .clearTables ∧ p.state = .idle ∨ c = .powerOn ∨ c = .resetLine := by
  cases h with
  | sweeps h => exact .inl ⟨h.holdings, h.sections⟩
  | received hc h => exact .inl h.loaded
  | resets hc => exact .inr (.inr (.inr hc))
  | opens => exact .inl ⟨rfl, rfl⟩
  | calibrates hp hhand hb h => exact .inl ⟨h.holdings, h.sections⟩
  | scans hp hb h => exact .inl ⟨h.holdings, h.sections⟩
  | tallies => exact .inl ⟨rfl, rfl⟩
  | passEnds => exact .inl ⟨rfl, rfl⟩
  | completes => exact .inl ⟨rfl, rfl⟩
  | loads => exact .inl ⟨rfl, rfl⟩
  | stores hp hx => exact .inr (.inl ⟨rfl, ⟨_, hp, hx⟩, List.prefix_append _ _, List.prefix_append _ _⟩)
  | clears hp => exact .inr (.inr (.inl ⟨rfl, hp⟩))
  | sets hn hv hc h => exact .inl ⟨h.holdings, h.sections⟩

theorem isPrefix_of_eq {α : Type} {l m : List α} (h : m = l) : l <+: m := h ▸ List.prefix_rfl

/-- Settles O59: the rows that touch the loaded fields, and a load in hand in IDLE alone. -/
theorem loadedRecordsStand : Obligations.LoadedRecordsStand := by
  intro s t hstep hon hreset
  obtain ⟨hpending, h⟩ | ⟨c, rest, hpending, h⟩ := step_row hstep
  · have hstand : t.phase.holdings = s.phase.holdings ∧ t.phase.sections = s.phase.sections := ⟨h.holdings, h.sections⟩
    exact ⟨fun _ _ => hstand, fun _ => ⟨fun _ => hstand, isPrefix_of_eq hstand.1, isPrefix_of_eq hstand.2⟩⟩
  · simp only [hpending, List.head?_cons, ne_eq, Option.some.injEq] at hon hreset ⊢
    obtain hstand | ⟨rfl, ⟨x, hx, hload⟩, hholdings, hsections⟩ | ⟨rfl, hidle⟩ | hc := h.loaded
    · exact ⟨fun _ _ => hstand, fun _ => ⟨fun _ => hstand, isPrefix_of_eq hstand.1, isPrefix_of_eq hstand.2⟩⟩
    · refine ⟨fun ⟨_, _, _, _, hloads⟩ hbusy => absurd ?_ hbusy, fun _ => ⟨fun h => absurd rfl h, hholdings, hsections⟩⟩
      have hx : s.ulp.inHand = some x := hx
      obtain ⟨tag, block, rfl⟩ | ⟨tag, block, rfl⟩ := hload
      · exact hloads tag (.inl ⟨block, hx⟩)
      · exact hloads tag (.inr ⟨block, hx⟩)
    · exact ⟨fun _ hbusy => absurd hidle hbusy, fun h => absurd hidle (h rfl)⟩
    · obtain rfl | rfl := hc
      · exact absurd rfl hon
      · exact absurd rfl hreset

/-! ### What runs in each pass state -/

/-- The exchange in hand is a load. -/
def Exchange.IsLoad (x : Exchange) : Prop :=
  (∃ tag block, x = .loadHoldings tag block) ∨ ∃ tag block, x = .loadSections tag block

/-- `State.RunningInv` as a law of the phase. -/
structure Phase.Running (p : Phase) : Prop where
  source : p.state = .idle ∨ p.state = .calibrating → p.source = .frontEnds
  halted : p.state ≠ .calibrating → p.state ≠ .scanning → p.haltA = true ∧ p.haltB = true
  quiet : p.state ≠ .scanning → p.window = false ∧ p.rehearses = false
  walk : p.state = .preparing ↔ ∃ kind tag, p.inHand = some (.walk kind tag)
  load : ∀ x, p.inHand = some x → x.IsLoad → p.state = .idle

theorem State.runningInv_iff (s : State) : s.RunningInv ↔ s.phase.Running := by
  have hwindow : s.phase.window = false ↔ s.pam.window = none := by simp [State.phase]
  have hrhg : s.phase.rehearses = false ↔ s.rhg.run = .idle := by simp [State.phase]
  have hA : s.phase.haltA = true ↔ s.swg.genA.run = .stopped := by simp [State.phase]
  have hB : s.phase.haltB = true ↔ s.swg.genB.run = .stopped := by simp [State.phase]
  constructor
  · rintro ⟨hsource, hgens, hquiet, hwalk, hload⟩
    refine ⟨hsource, ?_, ?_, hwalk, ?_⟩
    · rw [hA, hB]; exact hgens
    · rw [hwindow, hrhg]; exact hquiet
    · rintro x hx (⟨tag, block, rfl⟩ | ⟨tag, block, rfl⟩)
      · exact hload tag (.inl ⟨block, hx⟩)
      · exact hload tag (.inr ⟨block, hx⟩)
  · rintro ⟨hsource, hgens, hquiet, hwalk, hload⟩
    rw [hA, hB] at hgens
    rw [hwindow, hrhg] at hquiet
    refine ⟨hsource, hgens, hquiet, hwalk, ?_⟩
    rintro tag (⟨block, hx⟩ | ⟨block, hx⟩)
    · exact hload _ hx (.inl ⟨tag, block, rfl⟩)
    · exact hload _ hx (.inr ⟨tag, block, rfl⟩)

/-- Outside PREPARING and IDLE no exchange is in hand. -/
theorem Phase.Running.inHand_eq_none {p : Phase} (h : p.Running) (hprep : p.state ≠ .preparing) (hidle : p.state ≠ .idle) :
    p.inHand = none := by
  cases hx : p.inHand with
  | none => rfl
  | some x =>
    cases x with
    | walk kind tag => exact absurd (h.walk.mpr ⟨kind, tag, hx⟩) hprep
    | loadHoldings tag block => exact absurd (h.load _ hx (.inl ⟨tag, block, rfl⟩)) hidle
    | loadSections tag block => exact absurd (h.load _ hx (.inr ⟨tag, block, rfl⟩)) hidle

/-- With no exchange in hand, outside PREPARING, the last two laws hold. -/
theorem Phase.running_of_inHand_none {p : Phase} (hhand : p.inHand = none) (hprep : p.state ≠ .preparing)
    (source : p.state = .idle ∨ p.state = .calibrating → p.source = .frontEnds)
    (halted : p.state ≠ .calibrating → p.state ≠ .scanning → p.haltA = true ∧ p.haltB = true)
    (quiet : p.state ≠ .scanning → p.window = false ∧ p.rehearses = false) : p.Running where
  source := source
  halted := halted
  quiet := quiet
  walk := ⟨fun h => absurd h hprep, fun ⟨_, _, h⟩ => by rw [hhand] at h; cases h⟩
  load := fun _ h => by rw [hhand] at h; cases h

theorem Phase.Sweeps.running {p q : Phase} (h : p.Sweeps q) (hp : p.Running) : q.Running := by
  obtain hsame | ⟨hscan, hsettle, hA, hB, hwindow, hrhg⟩ := h.state
  · exact {
      source := fun hs => h.source.trans (hp.source (hsame ▸ hs))
      halted := fun hc hs => (hp.halted (hsame ▸ hc) (hsame ▸ hs)).imp h.haltA h.haltB
      quiet := fun hs => (hp.quiet (hsame ▸ hs)).imp h.window h.rehearses
      walk := by rw [hsame, h.inHand]; exact hp.walk
      load := by rw [hsame, h.inHand]; exact hp.load }
  · refine Phase.running_of_inHand_none (h.inHand.trans (hp.inHand_eq_none ?_ ?_)) ?_ ?_ (fun _ _ => ⟨hA, hB⟩)
      (fun _ => ⟨hwindow, hrhg⟩)
    · rw [hscan]; decide
    · rw [hscan]; decide
    · rw [hsettle]; decide
    · rw [hsettle]; rintro (h | h) <;> cases h

theorem withoutWalk_ne_walk (x : Option Exchange) (kind tag : Byte) : withoutWalk x ≠ some (.walk kind tag) := by
  unfold withoutWalk
  split <;> simp

theorem Phase.Ended.running {p q : Phase} (h : p.Ended q) (hp : p.Running) : q.Running where
  source := fun _ => h.source
  halted := fun _ _ => by
    by_cases hidle : p.state = .idle
    · obtain ⟨hA, hB, _⟩ := h.idle hidle
      rw [hA, hB]
      exact hp.halted (by rw [hidle]; decide) (by rw [hidle]; decide)
    · obtain ⟨hA, hB, _⟩ := h.busy hidle
      exact ⟨hA, hB⟩
  quiet := fun _ => ⟨h.window, h.rehearses⟩
  walk := by
    rw [h.state]
    refine ⟨fun hprep => (by cases hprep), fun ⟨kind, tag, hwalk⟩ => ?_⟩
    by_cases hidle : p.state = .idle
    · obtain ⟨_, _, hhand⟩ := h.idle hidle
      rw [hhand] at hwalk
      have hprep := hp.walk.mpr ⟨kind, tag, hwalk⟩
      rw [hidle] at hprep
      cases hprep
    · obtain ⟨_, _, hhand⟩ := h.busy hidle
      rw [hhand] at hwalk
      exact absurd hwalk (withoutWalk_ne_walk _ _ _)
  load := fun _ _ _ => h.state

theorem Phase.Received.running {p q : Phase} (h : p.Received q) (hp : p.Running) : q.Running := by
  induction h with
  | refl => exact hp
  | tail _ hstep ih =>
    obtain h | h := hstep
    · exact h.running ih
    · exact h.running ih

theorem Phase.Row.running {c : Instr} {p q : Phase} (h : Phase.Row c p q) (hp : p.Running) : q.Running := by
  cases h with
  | sweeps h => exact h.running hp
  | received hc h => exact h.running hp
  | resets hc => exact State.reset.runningInv_iff.mp reset_runningInv
  | opens hc hidle source kind tag =>
    exact {
      source := by rintro (h | h) <;> cases h
      halted := fun _ _ => hp.halted (by rw [hidle]; decide) (by rw [hidle]; decide)
      quiet := fun _ => ⟨rfl, rfl⟩
      walk := ⟨fun _ => ⟨kind, tag, rfl⟩, fun _ => rfl⟩
      load := by
        rintro x hx (⟨_, _, rfl⟩ | ⟨_, _, rfl⟩) <;> cases hx }
  | calibrates hidle hhand hb h =>
    refine h.running (Phase.running_of_inHand_none hhand (by decide : PassState.calibrating ≠ .preparing)
      (fun _ => hp.source (.inl hidle)) ?_ ?_)
    · intro hc
      exact absurd rfl hc
    · exact fun _ => hp.quiet (by rw [hidle]; decide)
  | scans hprep hb h =>
    refine h.running (Phase.running_of_inHand_none rfl (by decide : PassState.scanning ≠ .preparing) ?_ ?_ ?_)
    · rintro (h | h) <;> cases h
    · intro _ hs
      exact absurd rfl hs
    · intro hs
      exact absurd rfl hs
  | tallies hc hsettle =>
    refine Phase.running_of_inHand_none (hp.inHand_eq_none ?_ ?_) (by decide : PassState.tallying ≠ .preparing) ?_ ?_ ?_
    · rw [hsettle]; decide
    · rw [hsettle]; decide
    · rintro (h | h) <;> cases h
    · exact fun _ _ => hp.halted (by rw [hsettle]; decide) (by rw [hsettle]; decide)
    · exact fun _ => hp.quiet (by rw [hsettle]; decide)
  | passEnds htally =>
    refine Phase.running_of_inHand_none (hp.inHand_eq_none ?_ ?_) (by decide : PassState.idle ≠ .preparing) (fun _ => rfl) ?_ ?_
    · rw [htally]; decide
    · rw [htally]; decide
    · exact fun _ _ => hp.halted (by rw [htally]; decide) (by rw [htally]; decide)
    · exact fun _ => ⟨(hp.quiet (by rw [htally]; decide)).1, rfl⟩
  | completes hcal =>
    refine Phase.running_of_inHand_none (hp.inHand_eq_none ?_ ?_) (by decide : PassState.idle ≠ .preparing) ?_ ?_ ?_
    · rw [hcal]; decide
    · rw [hcal]; decide
    · exact fun _ => hp.source (.inr hcal)
    · exact fun _ _ => ⟨rfl, rfl⟩
    · exact fun _ => hp.quiet (by rw [hcal]; decide)
  | loads hidle hx =>
    exact {
      source := hp.source
      halted := hp.halted
      quiet := hp.quiet
      walk := by
        refine ⟨fun hprep => ?_, fun ⟨kind, tag, hwalk⟩ => ?_⟩
        · rw [show _ = _ from hidle] at hprep
          cases hprep
        · obtain ⟨_, _, rfl⟩ | ⟨_, _, rfl⟩ := hx <;> cases hwalk
      load := fun _ _ _ => hidle }
  | stores hhand hx holdings sections =>
    have hidle : p.state = .idle := hp.load _ hhand hx
    refine Phase.running_of_inHand_none rfl ?_ hp.source hp.halted hp.quiet
    change p.state ≠ .preparing
    rw [hidle]
    decide
  | clears => exact ⟨hp.source, hp.halted, hp.quiet, hp.walk, hp.load⟩
  | sets hn hv hcl h => exact h.running ⟨hp.source, hp.halted, hp.quiet, hp.walk, hp.load⟩

/-- Settles O56: the law of the phase, row by row. -/
theorem stepsKeepWhatRunsInEachState : Obligations.StepsKeepWhatRunsInEachState := by
  intro s t hs hstep
  rw [State.runningInv_iff] at hs ⊢
  obtain ⟨_, h⟩ | ⟨c, rest, _, h⟩ := step_row hstep
  · exact h.running hs
  · exact h.running hs

end Sys2Proof.Machine
end

section
/-! SUPPORT. The bounds of the device: the queues, the alert pending set, the lists of the sections and of SRU, and the facing
table; and that every operation keeps them. -/

namespace Sys2Proof.Machine

/-! ### The bounds -/

/-- A facing record in range: the transit, 0 without a facing, and the stall flag at its end (R52, R55). -/
def FacingRecord.Sound (f : FacingRecord) : Prop :=
  f.transit ≤ 4095 ∧ (f.facing = none → f.transit = 0) ∧ (f.stalled = true ↔ f.transit = 4095)

/-- Which bounds a claim is about: the facing table, the queues with at most `reports` records, the lists. Each claim starts
from the invariant of its own blocks alone. -/
structure Scope where
  facings : Prop
  queues : Prop
  lists : Prop
  reports : Nat

/-- The bounds in a scope of the facing table, the port queues, ULP's queues, the open-section list and the sections; a scope
that looks at the queues leaves 511 records or more their place. -/
structure Bounds (n : Scope) (facings : Vector FacingRecord 16) (piq : Vector PortQueue 16) (mgmt : List MgmtFrame)
    (replies : List Reply) (reports : List QueuedRecord) (alerts : List Alert) (openList : List OpenSection)
    (sections : List Section) : Prop where
  facing : n.facings → ∀ p : Port, facings[p].Sound
  port : n.queues → ∀ p : Port, piq[p].queue.length ≤ 32
  mgmt : n.queues → mgmt.length ≤ 4
  replies : n.queues → replies.length ≤ 8
  reports : n.queues → reports.length ≤ n.reports
  alerts : n.queues → alerts.Pairwise (fun a b => a.rank < b.rank)
  room : n.queues → 511 ≤ n.reports
  opened : n.lists → openList.length ≤ 32
  lists : n.lists → ∀ y ∈ sections, y.list.length ≤ 96
  ids : n.lists → (sections.map Section.id).Nodup

/-- The device is within its bounds in a scope. -/
abbrev State.Bounded (s : State) (n : Scope) : Prop :=
  Bounds n s.mfu.ports s.piq s.ulp.mgmt s.ulp.replies s.ulp.reports s.ulp.alerts s.sru.openList s.tst.sections

variable {s t : State} {n : Scope}

/-- A fold keeps a property that each of its steps keeps. -/
theorem foldl_preserves {α β : Type} (P : β → Prop) (f : β → α → β) (h : ∀ b a, P b → P (f b a)) (l : List α) (b : β)
    (hb : P b) : P (l.foldl f b) := by
  induction l generalizing b with
  | nil => exact hb
  | cons a l ih => exact ih _ (h b a hb)

theorem forPorts_preserves (P : State → Prop) (f : Port → State → State) (h : ∀ p t, P t → P (f p t)) (s : State) (hs : P s) :
    P (s.forPorts f) := foldl_preserves P _ (fun t p => h p t) _ _ hs

theorem repeated_preserves (P : State → Prop) (f : State → State) (h : ∀ t, P t → P (f t)) (k : Nat) (s : State) (hs : P s) :
    P (repeated f k s) := by
  induction k generalizing s with
  | zero => exact hs
  | succ k ih => exact ih _ (h s hs)

/-! ### Setters of the blocks the bounds do not read -/

theorem State.setSwg_bounded (h : s.Bounded n) (v : Swg) : (s.setSwg v).Bounded n := h

theorem State.setSpe_bounded (h : s.Bounded n) (v : Spe) : (s.setSpe v).Bounded n := h

theorem State.setRhg_bounded (h : s.Bounded n) (v : Rhg) : (s.setRhg v).Bounded n := h

theorem State.setPsc_bounded (h : s.Bounded n) (v : Psc) : (s.setPsc v).Bounded n := h

theorem State.setPam_bounded (h : s.Bounded n) (v : Pam) : (s.setPam v).Bounded n := h

theorem State.modLink_bounded (h : s.Bounded n) (l : Link) (f : LinkState → LinkState) : (s.modLink l f).Bounded n := h

theorem State.modPam_bounded (h : s.Bounded n) (p : Port) (f : PamPort → PamPort) : (s.modPam p f).Bounded n := h

/-! ### Updates of one block -/

theorem getElem_modifyAt {α : Type} {k : Nat} (v : Vector α k) (i j : Fin k) (f : α → α) :
    (modifyAt v i f)[j] = if i = j then f v[j] else v[j] := by
  by_cases h : i = j
  · subst h
    simp [modifyAt]
  · have hne : i.val ≠ j.val := fun hv => h (Fin.ext hv)
    simp [modifyAt, h, hne]

theorem getElem_mapAll {α β : Type} {k : Nat} (v : Vector α k) (f : α → β) (j : Fin k) : (mapAll f v)[j] = f v[j] := by
  simp [mapAll]

theorem State.modPiq_bounded (h : s.Bounded n) (p : Port) (f : PortQueue → PortQueue)
    (hf : ∀ q, q.queue.length ≤ 32 → (f q).queue.length ≤ 32) : (s.modPiq p f).Bounded n := by
  refine { h with port := fun hn q => ?_ }
  change (modifyAt s.piq p f)[q].queue.length ≤ 32
  rw [getElem_modifyAt]
  split
  · exact hf _ (h.port hn q)
  · exact h.port hn q

theorem State.modFacing_bounded (h : s.Bounded n) (p : Port) (f : FacingRecord → FacingRecord)
    (hf : s.mfu.ports[p].Sound → (f s.mfu.ports[p]).Sound) : (s.modFacing p f).Bounded n := by
  refine { h with facing := fun hn q => ?_ }
  change (modifyAt s.mfu.ports p f)[q].Sound
  rw [getElem_modifyAt]
  split
  case isTrue hpq =>
    subst hpq
    exact hf (h.facing hn p)
  case isFalse => exact h.facing hn q

theorem State.modSection_bounded (h : s.Bounded n) (x : SectionId) (f : Section → Section) (hid : ∀ y, (f y).id = y.id)
    (hlist : n.lists → ∀ y ∈ s.tst.sections, y.id = x → (f y).list.length ≤ 96) : (s.modSection x f).Bounded n := by
  refine { h with lists := fun hn => ?_, ids := fun hn => ?_ }
  · intro z hz
    obtain ⟨y, hy, rfl⟩ := List.mem_map.mp hz
    split
    case isTrue hx => exact hlist hn y hy hx
    case isFalse => exact h.lists hn y hy
  · have hids : (s.tst.sections.map (fun y => if y.id = x then f y else y)).map Section.id = s.tst.sections.map Section.id := by
      rw [List.map_map]
      refine List.map_congr_left (fun y _ => ?_)
      simp only [Function.comp]
      split
      · exact hid y
      · rfl
    change (List.map Section.id (s.tst.sections.map (fun y => if y.id = x then f y else y))).Nodup
    rw [hids]
    exact h.ids hn

/-- The per-pass fields of a section other than its list. -/
theorem State.modSection_bounded_of_list (h : s.Bounded n) (x : SectionId) (f : Section → Section)
    (hid : ∀ y, (f y).id = y.id) (hlist : ∀ y, (f y).list.length ≤ y.list.length) : (s.modSection x f).Bounded n :=
  s.modSection_bounded h x f hid (fun hn y hy _ => (hlist y).trans (h.lists hn y hy))

theorem State.modOpen_bounded (h : s.Bounded n) (x : SectionId) (f : OpenSection → OpenSection) : (s.modOpen x f).Bounded n :=
  { h with opened := fun hn => (List.length_map _).trans_le (h.opened hn) }

theorem State.mark_bounded (h : s.Bounded n) (ref : Option Nat) (m : Mark) : (s.mark ref m).Bounded n := by
  cases ref <;> exact h

/-! ### Alerts, replies and records -/

theorem rank_injective {a b : Alert} (h : a.rank = b.rank) : a = b := by
  cases a <;> cases b <;> simp only [Alert.rank] at h <;>
    first | omega | rfl | (congr 1; apply Fin.ext; omega)

theorem mem_insertAlert {x y : Alert} {l : List Alert} : y ∈ insertAlert x l ↔ y = x ∨ y ∈ l := by
  induction l with
  | nil => simp [insertAlert]
  | cons a l ih =>
    unfold insertAlert
    split
    case isTrue heq => simp [heq]
    case isFalse =>
      split
      · simp
      · simp only [List.mem_cons, ih]
        tauto

theorem insertAlert_pairwise {x : Alert} {l : List Alert} (h : l.Pairwise (fun a b => a.rank < b.rank)) :
    (insertAlert x l).Pairwise (fun a b => a.rank < b.rank) := by
  induction l with
  | nil => exact List.pairwise_singleton _ _
  | cons y l ih =>
    obtain ⟨hy, hl⟩ := List.pairwise_cons.mp h
    unfold insertAlert
    split
    · exact h
    next hne =>
      split
      case isTrue hlt =>
        refine List.pairwise_cons.mpr ⟨fun z hz => ?_, h⟩
        obtain rfl | hz := List.mem_cons.mp hz
        · exact hlt
        · exact hlt.trans (hy z hz)
      case isFalse hle =>
        refine List.pairwise_cons.mpr ⟨fun z hz => ?_, ih hl⟩
        obtain rfl | hz := mem_insertAlert.mp hz
        · have hrank : z.rank ≠ y.rank := fun hr => hne (rank_injective hr)
          omega
        · exact hy z hz

theorem State.postAlert_bounded (h : s.Bounded n) (x : Alert) : (s.postAlert x).Bounded n :=
  { h with alerts := fun hn => insertAlert_pairwise (h.alerts hn) }

theorem State.queueReply_bounded (h : s.Bounded n) (r : Reply) : (s.queueReply r).Bounded n := by
  unfold State.queueReply
  split
  case isTrue hlt =>
    refine { h with replies := fun _ => ?_ }
    change (s.ulp.replies ++ [r]).length ≤ 8
    rw [List.length_append]
    exact hlt
  case isFalse => exact h

theorem State.disqualifyAll_bounded (h : s.Bounded n) : s.disqualifyAll.Bounded n := by
  unfold State.disqualifyAll
  split <;> exact h

theorem State.disqualify_bounded (h : s.Bounded n) (p : Port) : (s.disqualify p).Bounded n := by
  unfold State.disqualify
  split <;> exact h

theorem State.requestHold_bounded (h : s.Bounded n) : s.requestHold.Bounded n := State.disqualifyAll_bounded h

theorem State.appendRecord_bounded (h : s.Bounded n) (r : Record) (hroom : n.queues → s.ulp.reports.length < n.reports) :
    (s.appendRecord r).Bounded n := by
  refine { h with reports := fun hn => ?_ }
  change (s.ulp.reports ++ [_]).length ≤ n.reports
  rw [List.length_append]
  exact hroom hn

theorem State.writeRecord_bounded (h : s.Bounded n) (r : Record) (hroom : n.queues → s.ulp.reports.length < n.reports) :
    (s.writeRecord r).Bounded n := by
  unfold State.writeRecord
  split
  · exact State.requestHold_bounded (State.appendRecord_bounded h r hroom)
  · exact State.appendRecord_bounded h r hroom

theorem State.length_lt_of_hasRoom (h : s.hasRoom = true) : s.ulp.reports.length < 511 := of_decide_eq_true h

/-- A write that found room (R155). -/
theorem State.writeRecord_bounded_of_hasRoom (h : s.Bounded n) (r : Record) (hroom : s.hasRoom = true) :
    (s.writeRecord r).Bounded n :=
  State.writeRecord_bounded h r (fun hn => (State.length_lt_of_hasRoom hroom).trans_le (h.room hn))

theorem State.writeActivity_bounded (h : s.Bounded n) (r : Record) : (s.writeActivity r).Bounded n := by
  unfold State.writeActivity
  split
  case isTrue hlt => exact State.writeRecord_bounded h r (fun hn => hlt.2.trans_le (h.room hn))
  case isFalse => exact h

/-! ### Port queues and front-end frames -/

theorem State.wake_bounded (h : s.Bounded n) (p : Port) : (s.wake p).Bounded n := by
  unfold State.wake
  split <;> exact h

@[simp] theorem State.wake_piq (s : State) (p : Port) : (s.wake p).piq = s.piq := by
  simp

theorem State.overflowDrop_bounded (h : s.Bounded n) (p : Port) : (s.overflowDrop p).Bounded n := by
  unfold State.overflowDrop
  have hdrop := State.modPiq_bounded h p (fun q =>
    { q with episode := true, counters := { q.counters with overflowDrops := sat32 q.counters.overflowDrops 1 } })
    (fun _ hq => hq)
  dsimp only
  split
  · exact hdrop
  · exact State.postAlert_bounded hdrop _

theorem State.arrive_bounded (h : s.Bounded n) (e : ReadEntry) : (s.arrive e).Bounded n := by
  unfold State.arrive
  split
  · exact h
  split
  · exact State.modPiq_bounded h _ _ (fun _ hq => hq)
  split
  · exact State.overflowDrop_bounded h _
  next hlt =>
    have hport : s.piq[e.port].queue.length < 32 := Nat.lt_of_not_le hlt
    refine { State.wake_bounded h e.port with port := fun hn q => ?_ }
    change (modifyAt (s.wake e.port).piq e.port _)[q].queue.length ≤ 32
    rw [getElem_modifyAt, State.wake_piq]
    split
    case isTrue heq =>
      subst heq
      simp only [List.length_append, List.length_singleton]
      omega
    case isFalse => exact h.port hn q

theorem State.emptyPort_bounded (h : s.Bounded n) (p : Port) : (s.emptyPort p).Bounded n := by
  unfold State.emptyPort
  have hempty := State.modPiq_bounded h p (fun q =>
    { q with queue := [], episode := false, counters := { q.counters with purged := sat32 q.counters.purged s.piq[p].queue.length } })
    (fun _ _ => Nat.zero_le _)
  dsimp only
  split <;> exact hempty

theorem State.becomeHeld_bounded (h : s.Bounded n) (p : Port) : (s.becomeHeld p).Bounded n :=
  State.disqualify_bounded (State.emptyPort_bounded h p) p

theorem qholdAssertStep_bounded (h : s.Bounded n) : (qholdAssertStep s).Bounded n := by
  unfold qholdAssertStep
  split
  · exact h
  · refine forPorts_preserves (State.Bounded · n) _ (fun p t ht => ?_) _ h
    split
    · exact State.becomeHeld_bounded ht p
    · exact ht

theorem State.judgeBad_bounded (h : s.Bounded n) (l : Link) : (s.judgeBad l).Bounded n := by
  unfold State.judgeBad
  dsimp only
  split
  · exact h
  · exact State.postAlert_bounded (s := s.modLink l _) h _

theorem State.judgeFrame_bounded (h : s.Bounded n) (l : Link) (got : List Byte) : (s.judgeFrame l got).Bounded n := by
  unfold State.judgeFrame State.judgeGood
  split
  · split
    · exact h
    · exact State.arrive_bounded (s := s.modLink l _) h _
  · exact State.judgeBad_bounded h l

theorem State.frontEndByte_bounded (h : s.Bounded n) (l : Link) (b : Byte) : (s.frontEndByte l b).Bounded n := by
  unfold State.frontEndByte
  dsimp only
  split
  · exact h
  · exact State.judgeBad_bounded (s := s.modLink l _) h l
  · exact State.judgeFrame_bounded (s := s.modLink l _) h l _

theorem frontEndFrameJudgedStep_bounded (h : s.Bounded n) (l : Link) (bytes : List Byte) :
    (frontEndFrameJudgedStep l bytes s).Bounded n :=
  foldl_preserves (State.Bounded · n) _ (fun _ b ht => State.frontEndByte_bounded ht l b) _ _ h

theorem sweepFrameSentStep_bounded (h : s.Bounded n) (l : Link) : (sweepFrameSentStep l s).Bounded n := by
  unfold sweepFrameSentStep
  split <;> exact h

/-! ### Exchanges that change nothing but their queues -/

theorem State.popMgmt_bounded (h : s.Bounded n) : s.popMgmt.Bounded n :=
  { h with mgmt := fun hn => List.length_tail.trans_le ((Nat.sub_le _ _).trans (h.mgmt hn)) }

theorem State.reply_bounded (h : s.Bounded n) (f : MgmtFrame) (r : ResultCode) (l : List Byte) : (s.reply f r l).Bounded n :=
  State.queueReply_bounded h _

theorem State.refuse_bounded (h : s.Bounded n) (f : MgmtFrame) (r : ResultCode) : (s.refuse f r).Bounded n :=
  State.reply_bounded h f r []

theorem State.resetPorts_bounded (h : s.Bounded n) (f : MgmtFrame) (q : Port → Bool) : (s.resetPorts f q).Bounded n := by
  refine State.reply_bounded (forPorts_preserves (State.Bounded · n) _ (fun p t ht => ?_) _ h) f _ _
  split
  · exact State.emptyPort_bounded ht p
  · exact ht

theorem State.dispatch_bounded (h : s.Bounded n) (mine : MgmtFrame → Bool) (act : MgmtFrame → State → State)
    (hact : ∀ f t, t.Bounded n → (act f t).Bounded n) : (s.dispatch mine act).Bounded n := by
  obtain heq | ⟨f, _, _, heq⟩ := s.dispatch_cases mine act
  · rw [heq]
    exact h
  · rw [heq]
    exact hact f _ (State.popMgmt_bounded h)

theorem identifyAct_bounded (f : MgmtFrame) (h : s.Bounded n) : (identifyAct f s).Bounded n := by
  unfold identifyAct
  split
  · exact State.reply_bounded h _ _ _
  · exact State.refuse_bounded h _ _

theorem getParamAct_bounded (f : MgmtFrame) (h : s.Bounded n) : (getParamAct f s).Bounded n := by
  unfold getParamAct
  split
  · exact State.refuse_bounded h _ _
  · split
    · exact State.reply_bounded h _ _ _
    · exact State.refuse_bounded h _ _

theorem readStatusAct_bounded (f : MgmtFrame) (h : s.Bounded n) : (readStatusAct f s).Bounded n := by
  unfold readStatusAct
  split
  · exact State.refuse_bounded h _ _
  · exact State.reply_bounded h _ _ _

theorem resetPortQueuesAct_bounded (f : MgmtFrame) (h : s.Bounded n) : (resetPortQueuesAct f s).Bounded n := by
  unfold resetPortQueuesAct
  split
  · exact State.refuse_bounded h _ _
  · exact State.resetPorts_bounded h _ _
  · exact State.resetPorts_bounded h _ _

/-! ### Sections -/

theorem State.beginClose_bounded (h : s.Bounded n) (x : SectionId) : (s.beginClose x).Bounded n := by
  unfold State.beginClose
  split
  · exact h
  · split
    · exact h
    · exact h
    · exact State.modOpen_bounded h x _
    · exact State.modOpen_bounded h x _

theorem State.enterClosing_bounded (h : s.Bounded n) (x : SectionId) : (s.enterClosing x).Bounded n :=
  State.modOpen_bounded (State.modSection_bounded_of_list h x (fun y => { y with state := .closing }) (fun _ => rfl)
    (fun _ => le_refl _)) x _

theorem State.signalIfClosed_bounded (h : s.Bounded n) : s.signalIfClosed.Bounded n := by
  unfold State.signalIfClosed
  split <;> exact h

theorem State.closeAllSections_bounded (h : s.Bounded n) : s.closeAllSections.Bounded n :=
  State.signalIfClosed_bounded (foldl_preserves (State.Bounded · n) _ (fun _ x ht => State.beginClose_bounded ht x) _ _ h)

theorem State.openSection_bounded (h : s.Bounded n) (r : OpenRequest) (hlen : s.sru.openList.length < 32) :
    (s.openSection r).Bounded n := by
  unfold State.openSection
  have hmod := State.modSection_bounded_of_list h r.sec (fun y => { y with state := .opened, direction := r.direction })
    (fun _ => rfl) (fun _ => le_refl _)
  have hopen : Bounds n s.mfu.ports s.piq s.ulp.mgmt s.ulp.replies s.ulp.reports s.ulp.alerts (s.sru.openList ++ [⟨r.sec, .faced, Tallies.zero, none⟩])
      (s.modSection r.sec (fun y => { y with state := .opened, direction := r.direction })).tst.sections :=
    { hmod with opened := fun _ => List.length_append.trans_le hlen }
  dsimp only
  split
  · exact State.beginClose_bounded hopen _
  · exact hopen

theorem State.leaveSection_bounded (h : s.Bounded n) (x : SectionId) (d : Direction) (b : Bool) :
    (s.leaveSection x d b).Bounded n := by
  unfold State.leaveSection
  split
  · refine State.modOpen_bounded (State.modSection_bounded_of_list h x _ ?_ ?_) x _ <;> intro y
    · rfl
    · exact le_refl _
  · exact h

theorem State.reenterSection_bounded (h : s.Bounded n) (x : SectionId) (d : Direction) : (s.reenterSection x d).Bounded n := by
  refine State.modOpen_bounded (State.modSection_bounded_of_list h x _ ?_ ?_) x _ <;> intro y
  · rfl
  · exact le_refl _

theorem State.tallyFinding_bounded (h : s.Bounded n) (x : SectionId) (k : FindingKind) : (s.tallyFinding x k).Bounded n :=
  State.modOpen_bounded h x _

/-! ### Placement -/

/-- With section IDs not repeated, the list of a section is that of any record with its ID. -/
theorem State.listOf_eq (h : s.Bounded n) (hn : n.lists) {y : Section} (hy : y ∈ s.tst.sections) : s.listOf y.id = y.list := by
  have hfind : findSection s.tst.sections y.id = some y := by
    unfold findSection
    obtain ⟨z, hz⟩ : ∃ z, s.tst.sections.find? (fun z => z.id == y.id) = some z :=
      Option.isSome_iff_exists.mp (List.find?_isSome.mpr ⟨y, hy, beq_self_eq_true _⟩)
    have hid : z.id = y.id := by simpa using List.find?_some hz
    rw [hz, List.inj_on_of_nodup_map (h.ids hn) (List.mem_of_find?_eq_some hz) hy hid]
  simp [State.listOf, hfind]

theorem State.addItem_bounded (h : s.Bounded n) (x : SectionId) (i : Item) (hroom : s.listFull x = false) :
    (s.addItem x i).Bounded n := by
  refine State.modSection_bounded h x _ (fun _ => rfl) (fun hn y hy hx => ?_)
  have hlt : (s.listOf x).length < 96 := Nat.lt_of_not_le (of_decide_eq_false hroom)
  rw [← hx, State.listOf_eq h hn hy] at hlt
  rw [List.length_append]
  exact hlt

theorem State.removeItem_bounded (h : s.Bounded n) (x : SectionId) (k : Nat) : (s.removeItem x k).Bounded n :=
  State.modSection_bounded_of_list h x _ (fun _ => rfl) (fun _ => List.length_filter_le _ _)

theorem State.modItem_bounded (h : s.Bounded n) (x : SectionId) (k : Nat) (f : Item → Item) : (s.modItem x k f).Bounded n :=
  State.modSection_bounded_of_list h x _ (fun _ => rfl) (fun _ => (List.length_map _).le)

theorem State.finishDisposal_bounded (h : s.Bounded n) (k : Nat) : (s.finishDisposal k).Bounded n := by
  unfold State.finishDisposal
  split
  · exact h
  · dsimp only
    split
    · exact State.mark_bounded h _ _
    · exact State.mark_bounded (State.removeItem_bounded h _ _) _ _

theorem State.disposeFull_bounded (h : s.Bounded n) (x : SectionId) (e : Sighting) (k : Confidence) (c : Continuation) :
    (s.disposeFull x e k c).Bounded n := by
  unfold State.disposeFull
  have htally := State.tallyFinding_bounded
    (s := (s.modSection x (fun y => { y with overfull := true })).countSru
      (fun c => { c with overfullItems := sat32 c.overfullItems 1 }))
    (State.modSection_bounded_of_list h x _ (fun _ => rfl) (fun _ => le_refl _)) x
    (findingOf s.tst.holdings e.ref x false).1
  dsimp only
  split
  · exact State.finishDisposal_bounded htally _
  split
  case isTrue hroom => exact State.finishDisposal_bounded (State.writeRecord_bounded_of_hasRoom htally _ hroom) _
  case isFalse => exact htally

theorem State.place_bounded (h : s.Bounded n) (k : Nat) (r : Route) (c : Continuation) : (s.place k r c).Bounded n := by
  unfold State.place
  split
  · exact h
  · split
    · exact h
    · dsimp only
      split
      · exact State.disposeFull_bounded (s := s.countSpe _) h _ _ _ _
      next hroom =>
        exact State.mark_bounded (s := State.modEntry _ _ _)
          (State.addItem_bounded (s := s.countSpe _) h _ _ ((Bool.not_eq_true _).mp hroom)) _ _

theorem State.placeMany_bounded (h : s.Bounded n) (l : List Nat) (r : Route) (c : Continuation) :
    (s.placeMany l r c).Bounded n := by
  refine foldl_preserves (State.Bounded · n) _ (fun t k ht => ?_) _ _ h
  split
  · exact ht
  · exact State.place_bounded ht k r c

theorem State.retireAll_bounded (h : s.Bounded n) (x : SectionId) : (s.retireAll x).Bounded n :=
  foldl_preserves (State.Bounded · n) (fun (t : State) (e : Sighting) => t.mark e.ref .disposed)
    (fun _ e ht => State.mark_bounded ht e.ref .disposed) (s.spe.table.filter (fun e => e.placedIn x)) s h

theorem State.earlyRetire_bounded (h : s.Bounded n) (k : Nat) : (s.earlyRetire k).Bounded n := by
  unfold State.earlyRetire
  split
  · exact h
  · split
    · exact h
    · exact State.mark_bounded (State.modItem_bounded h _ _ _) _ _

theorem State.awaitPlace_bounded (h : s.Bounded n) (r : Option OpenRequest) : (s.awaitPlace r).Bounded n := by
  cases r <;> exact h

theorem State.forcePlaceRun_bounded (h : s.Bounded n) (x : SectionId) (r : Option OpenRequest) :
    (s.forcePlaceRun x r).Bounded n := by
  unfold State.forcePlaceRun
  dsimp only
  split
  · exact State.placeMany_bounded h _ _ _
  · exact State.awaitPlace_bounded (State.retireAll_bounded (State.enterClosing_bounded (State.placeMany_bounded h _ _ _) _) _) _

theorem State.settleRun_bounded (h : s.Bounded n) : s.settleRun.Bounded n := by
  unfold State.settleRun
  dsimp only
  split
  · exact State.placeMany_bounded h _ _ _
  · refine State.closeAllSections_bounded ?_
    exact State.placeMany_bounded h _ _ _

theorem State.makeRoom_bounded (h : s.Bounded n) (r : OpenRequest) : (s.makeRoom r).Bounded n := by
  unfold State.makeRoom
  split
  · exact h
  · refine State.forcePlaceRun_bounded ?_ _ _
    exact State.modOpen_bounded (State.modSection_bounded_of_list h _ (fun y => { y with evicted := true }) (fun _ => rfl)
      (fun _ => le_refl _)) _ _

theorem State.enterSection_bounded (h : s.Bounded n) (x : SectionId) (d : Direction) : (s.enterSection x d).Bounded n := by
  unfold State.enterSection
  split
  · exact h
  · split
    · split
      case isTrue hlen => exact State.openSection_bounded h _ hlen
      case isFalse => exact State.makeRoom_bounded h _
    · exact State.reenterSection_bounded h _ _
    · exact h
    · exact h

theorem State.confirmTest_bounded (h : s.Bounded n) (k : Nat) : (s.confirmTest k).Bounded n := by
  unfold State.confirmTest
  split
  · exact h
  · split
    · exact State.place_bounded h _ _ _
    · exact h

/-- Taking an item out makes no list full. -/
theorem State.listFull_removeItem (s : State) (x y : SectionId) (k : Nat) (h : s.listFull y = false) :
    (s.removeItem x k).listFull y = false := by
  have hlen : ((s.removeItem x k).listOf y).length ≤ (s.listOf y).length := by
    unfold State.listOf State.removeItem State.modSection findSection
    simp only [State.setTst_tst]
    induction s.tst.sections with
    | nil => simp
    | cons z l ih =>
      by_cases hz : z.id = x <;> by_cases hy : z.id = y <;> simp_all [List.length_filter_le]
  simp only [State.listFull, decide_eq_false_iff_not, not_le] at h ⊢
  omega

theorem State.moveEntry_bounded (h : s.Bounded n) (e : Sighting) (x : SectionId) (c : Candidate) :
    (s.moveEntry e x c).Bounded n := by
  unfold State.moveEntry
  dsimp only
  split
  · exact State.disposeFull_bounded (s := s.countSpe _) h _ _ _ _
  next hroom =>
    exact State.addItem_bounded (State.removeItem_bounded (s := s.countSpe _) h _ _) _ _
      (State.listFull_removeItem _ _ _ _ ((Bool.not_eq_true _).mp hroom))

theorem State.freeze_bounded (h : s.Bounded n) (e : Sighting) (x : SectionId) : (s.freeze e x).Bounded n :=
  State.modItem_bounded (s := State.modEntry (s.countSpe _) _ _) h _ _ _

theorem State.moveTest_bounded (h : s.Bounded n) (k : Nat) : (s.moveTest k).Bounded n := by
  unfold State.moveTest
  (repeat' split) <;> first | exact h | exact State.moveEntry_bounded h _ _ _ | exact State.freeze_bounded h _ _

theorem State.endScored_bounded (h : s.Bounded n) : s.endScored.Bounded n := by
  unfold State.endScored
  split <;> exact h

theorem State.endWait_bounded (h : s.Bounded n) : s.endWait.Bounded n := by
  unfold State.endWait
  split <;> exact h

theorem State.makeEntry_bounded (h : s.Bounded n) (r : ItemRead) (ref : Option Nat) : (s.makeEntry r ref).Bounded n := by
  refine State.endScored_bounded (State.confirmTest_bounded ?_ _)
  refine State.mark_bounded ?_ _ _
  exact h

theorem State.evictFor_bounded (h : s.Bounded n) (r : ItemRead) (ref : Option Nat) : (s.evictFor r ref).Bounded n := by
  unfold State.evictFor
  split
  · exact h
  · next v _ =>
    have hevict (u : State) (hu : u.Bounded n) (k : Nat) :
        (if u.waiting then u else (u.earlyRetire k).makeEntry r ref).Bounded n := by
      split
      · exact hu
      · exact State.makeEntry_bounded (State.earlyRetire_bounded hu _) _ _
    refine hevict _ ?_ _
    split
    · exact State.place_bounded (s := s.countSpe _) h _ _ _
    · exact h

theorem State.newEntry_bounded (h : s.Bounded n) (r : ItemRead) (ref : Option Nat) : (s.newEntry r ref).Bounded n := by
  unfold State.newEntry
  split
  · exact State.makeEntry_bounded h _ _
  · exact State.evictFor_bounded h _ _

theorem State.goOn_bounded (h : s.Bounded n) (c : Continuation) : (s.goOn c).Bounded n := by
  cases c with
  | done => exact h
  | forcePlace x after => exact State.forcePlaceRun_bounded h x after
  | settle => exact State.settleRun_bounded h
  | newEntry r ref => exact State.makeEntry_bounded h r ref

/-! ### Facings -/

/-- A facing just gained or changed, and one lost. -/
theorem FacingRecord.sound_fresh (x : Option SectionId) (d : Direction) : FacingRecord.Sound ⟨x, 0, false, d⟩ :=
  ⟨Nat.zero_le _, fun _ => rfl, by simp⟩

theorem State.changeFacing_bounded (h : s.Bounded n) (p : Port) (x : SectionId) (y : Section) :
    (s.changeFacing p x y).Bounded n := by
  unfold State.changeFacing
  refine State.enterSection_bounded (State.leaveSection_bounded ?_ _ _ _) _ _
  exact State.modFacing_bounded (s := s.countMfu _) h _ _ (fun _ => FacingRecord.sound_fresh _ _)

theorem State.firstFacing_bounded (h : s.Bounded n) (p : Port) (y : Section) : (s.firstFacing p y).Bounded n := by
  unfold State.firstFacing
  refine State.enterSection_bounded ?_ _ _
  exact State.modFacing_bounded (s := s.countMfu _) h _ _ (fun _ => FacingRecord.sound_fresh _ _)

theorem State.acceptMarker_bounded (h : s.Bounded n) (p : Port) (y : Section) : (s.acceptMarker p y).Bounded n := by
  unfold State.acceptMarker
  split
  · exact State.firstFacing_bounded h _ _
  · split
    · exact h
    · exact State.changeFacing_bounded h _ _ _

theorem State.markerRead_bounded (h : s.Bounded n) (p : Port) (g : TagCode) (c : Nat) : (s.markerRead p g c).Bounded n := by
  unfold State.markerRead State.testMarker
  split
  · exact h
  · split
    · exact h
    · split
      · exact h
      · exact State.acceptMarker_bounded (s := s.countMfu _) h _ _

theorem State.loseFacing_bounded (h : s.Bounded n) (p : Port) : (s.loseFacing p).Bounded n := by
  unfold State.loseFacing
  split
  · exact h
  · refine State.leaveSection_bounded ?_ _ _ _
    exact State.modFacing_bounded h _ _ (fun _ => FacingRecord.sound_fresh _ _)

/-! ### Activity -/

theorem State.writeActivities_bounded (h : s.Bounded n) : s.writeActivities.Bounded n := by
  unfold State.writeActivities
  split
  · refine forPorts_preserves (State.Bounded · n) _ (fun p t ht => ?_) _ h
    unfold State.activityOf
    split
    · exact State.writeActivity_bounded ht _
    · exact ht
  · exact h

theorem State.judgeWindow_bounded (h : s.Bounded n) (p : Port) : (s.judgeWindow p).Bounded n := by
  unfold State.judgeWindow State.fallSilent
  dsimp only
  split
  · exact h
  split
  · exact h
  split
  · exact State.loseFacing_bounded (State.postAlert_bounded (s := s.modPam p _) h _) p
  · exact h

theorem State.startWindow_bounded (h : s.Bounded n) (k : Nat) : (s.startWindow k).Bounded n :=
  forPorts_preserves (State.Bounded · n) _ (fun p _ ht => State.modPam_bounded ht p _) _ (State.setPam_bounded h _)

theorem activityWindowEndStep_bounded (h : s.Bounded n) : (activityWindowEndStep s).Bounded n := by
  unfold activityWindowEndStep
  split
  · exact h
  · split
    · exact State.startWindow_bounded (forPorts_preserves (State.Bounded · n) _ (fun p _ ht => State.judgeWindow_bounded ht p) _
        (State.writeActivities_bounded h)) _
    · exact h

/-! ### Reads taken -/

theorem State.writePeak_bounded (h : s.Bounded n) (e : Sighting) : (s.writePeak e).Bounded n := by
  unfold State.writePeak
  split
  · exact h
  · split
    · exact h
    · exact State.modItem_bounded h _ _ _

theorem State.scoreEntry_bounded (h : s.Bounded n) (e : Sighting) (r : ItemRead) : (s.scoreEntry e r).Bounded n := by
  unfold State.scoreEntry
  split
  · exact h
  · next l _ =>
    have hpeak (e' : Sighting) : ((s.modEntry e.slot (fun _ => e')).writePeak e').Bounded n :=
      State.writePeak_bounded (s := s.modEntry _ _) h e'
    dsimp only
    split
    · exact State.endScored_bounded (State.confirmTest_bounded (hpeak _) _)
    · exact State.endScored_bounded (State.moveTest_bounded (hpeak _) _)

theorem State.sight_bounded (h : s.Bounded n) (r : ItemRead) : (s.sight r).Bounded n := by
  unfold State.sight
  dsimp only
  split
  · exact h
  · split
    · exact State.scoreEntry_bounded h _ _
    · exact State.newEntry_bounded h _ _

theorem State.classifyRead_bounded (h : s.Bounded n) (e : ReadEntry) : (s.classifyRead e).Bounded n := by
  unfold State.classifyRead State.itemRead
  split
  · exact State.markerRead_bounded h _ _ _
  · exact h
  · split
    · exact h
    · split
      · exact h
      · split
        · exact State.sight_bounded h _
        · exact h

theorem State.countOpen_bounded (h : s.Bounded n) (f : SpeCounters → SpeCounters) : (s.countOpen f).Bounded n := by
  unfold State.countOpen
  split <;> exact h

theorem State.takeIn_bounded (h : s.Bounded n) (e : ReadEntry) (b : Bool) (i : Intake) : (s.takeIn e b i).Bounded n := by
  cases i with
  | drop => exact h
  | unswept => exact State.countOpen_bounded h _
  | errorTagged => exact State.countOpen_bounded h _
  | late => exact State.countOpen_bounded h _
  | settle => exact State.countOpen_bounded h _
  | toScu => cases b <;> exact h
  | classify => exact State.classifyRead_bounded h e

theorem State.dequeue_bounded (h : s.Bounded n) (p : Port) : (s.dequeue p).Bounded n := by
  unfold State.dequeue
  have htail := State.modPiq_bounded h p (fun q => { q with queue := q.queue.tail, episode := false })
    (fun q hq => by rw [List.length_tail]; exact (Nat.sub_le _ _).trans hq)
  dsimp only
  split <;> exact htail

theorem State.pamReport_bounded (h : s.Bounded n) (p : Port) (c : Nat) : (s.pamReport p c).Bounded n := by
  unfold State.pamReport
  dsimp only
  split <;> exact h

theorem State.takeEntry_bounded (h : s.Bounded n) (e : ReadEntry) : (s.takeEntry e).Bounded n :=
  State.takeIn_bounded (State.pamReport_bounded (State.countOpen_bounded (State.dequeue_bounded h _) _) _ _) _ _ _

theorem readTakeStep_bounded (h : s.Bounded n) : (readTakeStep s).Bounded n := by
  unfold readTakeStep
  (repeat' split) <;> first | exact h | exact State.takeEntry_bounded h _

theorem quietExpiryStep_bounded (h : s.Bounded n) : (quietExpiryStep s).Bounded n := by
  unfold quietExpiryStep
  (repeat' split) <;> first | exact h | exact State.place_bounded h _ _ _

theorem forcePlaceAndRetireStep_bounded (h : s.Bounded n) : (forcePlaceAndRetireStep s).Bounded n := by
  unfold forcePlaceAndRetireStep
  split
  · exact State.forcePlaceRun_bounded (State.setSpe_bounded h _) _ _
  · exact h

theorem settleStep_bounded (h : s.Bounded n) : (settleStep s).Bounded n := by
  unfold settleStep
  split
  · exact State.settleRun_bounded h
  · exact h

theorem overfullFindingWriteStep_bounded (h : s.Bounded n) : (overfullFindingWriteStep s).Bounded n := by
  unfold overfullFindingWriteStep
  split
  · split
    case isTrue hroom =>
      refine State.endWait_bounded (State.goOn_bounded (State.finishDisposal_bounded ?_ _) _)
      exact State.writeRecord_bounded_of_hasRoom (s := s.setWork .idle) h _ hroom
    case isFalse => exact h
  · exact h
  · exact h

theorem sectionOpenAfterWaitStep_bounded (h : s.Bounded n) : (sectionOpenAfterWaitStep s).Bounded n := by
  unfold sectionOpenAfterWaitStep
  split
  · split
    case isTrue hlen => exact State.openSection_bounded (s := s.setWork .idle) h _ hlen
    case isFalse => exact h
  · exact h
  · exact h

theorem quietCloseStep_bounded (h : s.Bounded n) (x : SectionId) : (quietCloseStep x s).Bounded n := by
  unfold quietCloseStep
  (repeat' split) <;> first | exact h | exact State.beginClose_bounded h x

theorem drainCompleteStep_bounded (h : s.Bounded n) : (drainCompleteStep s).Bounded n := by
  unfold drainCompleteStep
  split <;> exact h

/-! ### Sweeps -/

theorem State.sendSweep_bounded (h : s.Bounded n) (side : Side) (k d : Nat) : (s.sendSweep side k d).Bounded n := by
  unfold State.sendSweep
  split
  · exact foldl_preserves (State.Bounded · n) _ (fun _ l ht => State.modLink_bounded ht l _) _ _ h
  · exact h

theorem State.countTransit_bounded (h : s.Bounded n) (p : Port) : (s.countTransit p).Bounded n := by
  unfold State.countTransit
  dsimp only
  split
  case isFalse => exact h
  case isTrue hcount =>
    obtain ⟨_, hsome, hlt⟩ := hcount
    have hlt : s.mfu.ports[p].transit < 4095 := hlt
    have hfacing : s.mfu.ports[p].facing ≠ none := Option.isSome_iff_ne_none.mp hsome
    split
    case isTrue hend =>
      have hend : s.mfu.ports[p].transit + 1 = 4095 := hend
      have hstall := State.modFacing_bounded h p (fun r => { r with transit := r.transit + 1, stalled := true })
        (fun _ => ⟨hlt, fun hnone => absurd hnone hfacing, iff_of_true rfl hend⟩)
      split
      · exact State.postAlert_bounded hstall _
      · exact hstall
    case isFalse hend =>
      have hend : s.mfu.ports[p].transit + 1 ≠ 4095 := hend
      refine State.modFacing_bounded h p _ (fun hsound => ⟨hlt, fun hnone => absurd hnone hfacing, ?_⟩)
      obtain ⟨_, _, hstalled⟩ := hsound
      simp only [hstalled]
      omega

theorem State.internalClose_bounded (h : s.Bounded n) (r : EndReason) : (s.internalClose r).Bounded n := by
  unfold State.internalClose
  split <;> exact h

theorem State.rhgTake_bounded (h : s.Bounded n) (k : Nat) : (s.rhgTake k).Bounded n := by
  unfold State.rhgTake
  split
  · exact State.internalClose_bounded (State.setRhg_bounded h _) _
  · exact h

theorem State.rhgPresent_bounded (h : s.Bounded n) (y : Section) (k : Nat) : (s.rhgPresent y k).Bounded n := by
  unfold State.rhgPresent
  dsimp only
  split
  · exact h
  · exact State.arrive_bounded h _

theorem State.rhgAdvance_bounded (h : s.Bounded n) (l : List Side) (k : Nat) : (s.rhgAdvance l k).Bounded n := by
  unfold State.rhgAdvance
  dsimp only
  split
  · exact h
  · split
    · exact State.rhgPresent_bounded h _ _
    · split
      · exact State.rhgTake_bounded (State.rhgPresent_bounded h _ _) _
      · exact State.rhgPresent_bounded (State.rhgTake_bounded (State.rhgPresent_bounded h _ _) _) _ _

theorem State.rhgStart_bounded (h : s.Bounded n) (l : List Side) (k : Nat) (b : Bool) : (s.rhgStart l k b).Bounded n := by
  unfold State.rhgStart
  split
  · split
    · exact State.rhgAdvance_bounded (State.rhgTake_bounded h _) _ _
    · exact h
  · exact State.rhgAdvance_bounded h _ _

theorem State.sweepStarted_bounded (h : s.Bounded n) (l : List Side) (k : Nat) (b : Bool) :
    (s.sweepStarted l k b).Bounded n := by
  refine State.rhgStart_bounded (forPorts_preserves (State.Bounded · n) _ (fun p t ht => ?_) _ h) _ _ _
  split
  · exact State.countTransit_bounded ht p
  · exact ht

theorem State.attemptStart_bounded (h : s.Bounded n) (g : Generator) : (s.attemptStart g).Bounded n := by
  unfold State.attemptStart
  split
  · unfold State.endWindow
    split <;> exact h
  split
  · exact State.internalClose_bounded (s := s.modGen _ _) h _
  split
  · exact h
  · unfold State.withholdStart
    dsimp only
    split
    · exact h
    · exact State.postAlert_bounded (s := State.setSwg _ _) h _
  · split
    · refine State.sweepStarted_bounded ?_ _ _ _
      exact foldl_preserves (State.Bounded · n) _ (fun _ _ ht => State.sendSweep_bounded ht _ _ _) _ _ h
    · refine State.sweepStarted_bounded ?_ _ _ _
      exact foldl_preserves (State.Bounded · n) _ (fun _ _ ht => State.sendSweep_bounded ht _ _ _) _ _ h

theorem State.startIfActive_bounded (h : s.Bounded n) (g : Generator) : (s.startIfActive g).Bounded n := by
  unfold State.startIfActive
  split
  · exact h
  · exact State.attemptStart_bounded h g

theorem State.startGenerators_bounded (h : s.Bounded n) : s.startGenerators.Bounded n :=
  State.startIfActive_bounded (State.startIfActive_bounded (State.setSwg_bounded h _) _) _

theorem State.releaseStart_bounded (h : s.Bounded n) (b : Bool) (g : Generator) : (s.releaseStart b g).Bounded n := by
  unfold State.releaseStart
  split
  · exact State.startIfActive_bounded h g
  · exact h

theorem State.releaseHold_bounded (h : s.Bounded n) : s.releaseHold.Bounded n :=
  State.releaseStart_bounded (State.releaseStart_bounded (s := State.setSwg (s.setUlp { s.ulp with hold := false }) _)
    h _ _) _ _

theorem State.releaseIfLow_bounded (h : s.Bounded n) : s.releaseIfLow.Bounded n := by
  unfold State.releaseIfLow
  split
  · exact State.releaseHold_bounded h
  · exact h

theorem State.retestHold_bounded (h : s.Bounded n) : s.retestHold.Bounded n := by
  unfold State.retestHold
  split
  · exact State.requestHold_bounded h
  · exact State.releaseIfLow_bounded h

theorem sweepStartStep_bounded (h : s.Bounded n) (g : Generator) : (sweepStartStep g s).Bounded n := by
  unfold sweepStartStep
  split
  · exact State.attemptStart_bounded h g
  · exact h

theorem aStartStep_bounded (h : s.Bounded n) : (aStartStep s).Bounded n := by
  unfold aStartStep
  split
  · exact State.attemptStart_bounded h .a
  · exact h

theorem State.makeB_bounded (h : s.Bounded n) (b : BStart) : (s.makeB b).Bounded n := by
  have hsent : (if s.swg.runRight = .off then s else s.sendSweep .right b.sweep b.dwell).Bounded n := by
    split
    · exact h
    · exact State.sendSweep_bounded h _ _ _
  unfold State.makeB
  dsimp only
  refine State.sweepStarted_bounded (State.setSwg_bounded ?_ _) _ _ _
  exact hsent

theorem bStartStep_bounded (h : s.Bounded n) : (bStartStep s).Bounded n := by
  unfold bStartStep
  split
  · exact h
  · split
    · exact State.makeB_bounded h _
    · exact h

theorem clockLimitStep_bounded (h : s.Bounded n) : (clockLimitStep s).Bounded n := by
  unfold clockLimitStep
  split
  · exact State.internalClose_bounded h _
  · exact h

/-! ### The uplink -/

theorem State.sendReport_bounded (h : s.Bounded n) : s.sendReport.Bounded n := by
  refine State.releaseIfLow_bounded ?_
  refine { h with reports := fun hn => ?_ }
  exact List.length_drop.trans_le ((Nat.sub_le _ _).trans (h.reports hn))

theorem State.sendChoice_bounded (h : s.Bounded n) (c : Choice) : (s.sendChoice c).Bounded n := by
  cases c with
  | reply r =>
    refine { h with replies := fun hn => ?_ }
    exact List.length_tail.trans_le ((Nat.sub_le _ _).trans (h.replies hn))
  | alert =>
    refine { h with alerts := fun hn => ?_ }
    exact (h.alerts hn).sublist (List.drop_sublist _ _)
  | report => exact State.sendReport_bounded h
  | nothing => exact h

theorem State.arbitrate_bounded (h : s.Bounded n) : s.arbitrate.Bounded n := by
  unfold State.arbitrate
  split
  · exact State.sendChoice_bounded h _
  · exact h

theorem State.bounded_of_arbitrate_or_eq (h : s.Bounded n) (ht : t = s.arbitrate ∨ t = s) : t.Bounded n := by
  obtain rfl | rfl := ht
  · exact State.arbitrate_bounded h
  · exact h

theorem flushTimeExpiryStep_bounded (h : s.Bounded n) : (flushTimeExpiryStep s).Bounded n := by
  unfold flushTimeExpiryStep
  split
  · exact State.arbitrate_bounded h
  · exact h

theorem uplinkFrameEndStep_bounded (h : s.Bounded n) : (uplinkFrameEndStep s).Bounded n := by
  unfold uplinkFrameEndStep
  split
  · exact h
  · refine State.arbitrate_bounded ?_
    exact h

theorem pauseStep_bounded (h : s.Bounded n) : (pauseStep s).Bounded n :=
  h

theorem resumeStep_bounded (h : s.Bounded n) : (resumeStep s).Bounded n := by
  unfold resumeStep
  split
  · refine State.arbitrate_bounded ?_
    exact h
  · exact h

theorem State.queueFrame_bounded (h : s.Bounded n) (f : MgmtFrame) : (s.queueFrame f).Bounded n := by
  unfold State.queueFrame
  split
  case isTrue hlt =>
    refine { h with mgmt := fun _ => ?_ }
    change (s.ulp.mgmt ++ [f]).length ≤ 4
    rw [List.length_append]
    exact hlt
  case isFalse => exact h

end Sys2Proof.Machine
end

section
/-! SUPPORT. That PSC's, SRU's and SCU's operations and the exchanges keep the bounds of the device. -/

namespace Sys2Proof.Machine

variable {s t : State} {n : Scope}

/-! ### The reporter -/

theorem State.beginReport_bounded (h : s.Bounded n) (x : SectionId) (l : List Nat) : (s.beginReport x l).Bounded n :=
  State.modOpen_bounded h x (fun o => { o with reportPosition := some 1 })

theorem State.takeSection_bounded (h : s.Bounded n) (x : SectionId) (d : Direction) (l : List Item) :
    (s.takeSection x d l).Bounded n := by
  unfold State.takeSection
  split
  · refine State.beginReport_bounded ?_ _ _
    exact State.modSection_bounded_of_list h x (fun y => { y with orderUnchecked := true }) (fun _ => rfl) (fun _ => le_refl _)
  · exact State.beginReport_bounded h _ _

theorem reporterTakeSectionStep_bounded (h : s.Bounded n) : (reporterTakeSectionStep s).Bounded n := by
  unfold reporterTakeSectionStep
  split
  · split
    · exact h
    · exact State.takeSection_bounded h _ _ _
  · exact h

theorem State.reportNext_bounded (h : s.Bounded n) (x : SectionId) : (s.reportNext x).Bounded n :=
  State.modOpen_bounded h x (fun o => { o with reportPosition := o.reportPosition.map (· + 1) })

theorem State.reportItem_bounded (h : s.Bounded n) (r : Reporter) (i : Item) (k : Nat) : (s.reportItem r i k).Bounded n := by
  have hjudged (u : State) (hu : u.Bounded n) (f : FindingKind × Option SectionId) :
      (if u.writes f.1 = false then u.reportNext r.sec
        else if u.hasRoom then (u.writeRecord (itemFinding r.sec i f)).reportNext r.sec else u.reportWait).Bounded n := by
    split
    · exact State.reportNext_bounded hu _
    split
    case isTrue hroom => exact State.reportNext_bounded (State.writeRecord_bounded_of_hasRoom hu _ hroom) _
    case isFalse => exact hu
  refine hjudged _ ?_ _
  split
  · exact h
  · exact State.tallyFinding_bounded h _ _

theorem findingWriteStep_bounded (h : s.Bounded n) : (findingWriteStep s).Bounded n := by
  unfold findingWriteStep
  split
  · exact h
  · dsimp only
    split
    · exact h
    · exact State.reportItem_bounded h _ _ _

theorem State.closeSection_bounded (h : s.Bounded n) (x : SectionId) : (s.closeSection x).Bounded n := by
  unfold State.closeSection
  refine State.signalIfClosed_bounded ?_
  refine { State.modSection_bounded_of_list h x (fun y => { y with state := .closed, list := [] }) (fun _ => rfl)
    (fun _ => Nat.zero_le _) with opened := fun hn => ?_ }
  exact (List.length_filter_le _ _).trans (h.opened hn)

theorem sectionSummaryWriteStep_bounded (h : s.Bounded n) : (sectionSummaryWriteStep s).Bounded n := by
  unfold sectionSummaryWriteStep
  split
  · exact h
  · split
    · split
      case isTrue hroom => exact State.closeSection_bounded (State.writeRecord_bounded_of_hasRoom h _ hroom.2) _
      case isFalse => exact h
    · exact h

/-! ### The PREPARING walk -/

theorem State.countRecord_bounded (h : s.Bounded n) (r : Holding) : (s.countRecord r).Bounded n := by
  unfold State.countRecord
  split
  · exact h
  split
  · exact State.modSection_bounded_of_list h _ (fun y => { y with expected := y.expected + 1 }) (fun _ => rfl)
      (fun _ => le_refl _)
  · exact h

/-- A record taken from the table after one of its places was updated is one of the table or an updated one. -/
theorem mem_modify {α : Type} {l : List α} {i : Nat} {f : α → α} {x : α} (hx : x ∈ l.modify i f) :
    x ∈ l ∨ ∃ y ∈ l, x = f y := by
  obtain ⟨k, hk⟩ := List.mem_iff_getElem?.mp hx
  rw [List.getElem?_modify] at hk
  cases hl : l[k]? with
  | none => simp [hl] at hk
  | some y =>
    have hy : y ∈ l := List.mem_of_getElem? hl
    rw [hl, Option.map_eq_map, Option.map_some, Option.some.injEq] at hk
    split at hk
    · exact .inr ⟨y, hy, hk.symm⟩
    · exact .inl (hk ▸ hy)

theorem State.clearNext_bounded (h : s.Bounded n) : s.clearNext.Bounded n := by
  refine { h with lists := fun hn y hy => ?_, ids := fun hn => ?_ }
  · obtain hy | ⟨z, _, rfl⟩ := mem_modify hy
    · exact h.lists hn y hy
    · exact Nat.zero_le _
  · have hids : (s.tst.sections.modify s.psc.cleared Section.passOpen).map Section.id = s.tst.sections.map Section.id :=
      map_modify_of_eq Section.id Section.passOpen (fun _ => rfl) _ _
    change ((s.tst.sections.modify s.psc.cleared Section.passOpen).map Section.id).Nodup
    rw [hids]
    exact h.ids hn

theorem State.countNext_bounded (h : s.Bounded n) : s.countNext.Bounded n := by
  unfold State.countNext
  split
  · exact h
  · exact State.countRecord_bounded h _

theorem State.walkOne_bounded (h : s.Bounded n) : s.walkOne.Bounded n := by
  unfold State.walkOne
  split
  · exact h
  split
  · exact State.clearNext_bounded h
  · exact State.countNext_bounded h

theorem State.walkRest_bounded (h : s.Bounded n) : s.walkRest.Bounded n :=
  repeated_preserves (State.Bounded · n) _ (fun _ ht => State.walkOne_bounded ht) _ _ h

theorem State.startRhg_bounded (h : s.Bounded n) : s.startRhg.Bounded n := by
  unfold State.startRhg
  split
  · exact h
  · split
    · exact h
    · exact State.rhgTake_bounded h _

theorem State.enterScanning_bounded (h : s.Bounded n) : s.enterScanning.Bounded n := by
  have hentered : ((((s.setPsc { s.psc with state := .scanning, clock := 0 }).latchRun).startWindow 0).startRhg).Bounded n :=
    by
    refine State.startRhg_bounded (State.startWindow_bounded (State.setSwg_bounded (State.setPsc_bounded h _) _) _)
  unfold State.enterScanning
  dsimp only
  split
  · exact State.startGenerators_bounded hentered
  · exact hentered

theorem preparingWalkEndStep_bounded (h : s.Bounded n) : (preparingWalkEndStep s).Bounded n := by
  unfold preparingWalkEndStep
  split
  · refine State.enterScanning_bounded (State.queueReply_bounded ?_ _)
    exact State.walkRest_bounded h
  · exact h

/-! ### The tally walk and the end of a pass -/

theorem State.judge_bounded (h : s.Bounded n) (k : Nat) (o : TallyOutcome) : (s.judge k o).Bounded n := by
  cases o <;> exact State.mark_bounded h (some k) _

theorem State.tallyOne_bounded (h : s.Bounded n) : s.tallyOne.Bounded n := by
  unfold State.tallyOne
  split
  · exact h
  split
  · exact h
  · dsimp only
    split
    · exact State.judge_bounded h _ _
    split
    case isTrue hroom => exact State.writeRecord_bounded_of_hasRoom (State.judge_bounded h _ _) _ hroom
    case isFalse => exact State.judge_bounded h _ _

theorem State.tallyRest_bounded (h : s.Bounded n) : s.tallyRest.Bounded n := by
  refine repeated_preserves (State.Bounded · n) _ (fun t ht => ?_) _ _ h
  split
  · exact ht
  · exact State.tallyOne_bounded ht

theorem tallyFindingWriteStep_bounded (h : s.Bounded n) : (tallyFindingWriteStep s).Bounded n := by
  unfold tallyFindingWriteStep
  split
  · exact h
  · split
    case isTrue hroom => exact State.writeRecord_bounded_of_hasRoom h _ hroom.2
    case isFalse => exact h

theorem State.writePassEnd_bounded (h : s.Bounded n) (r : PassEndReason) (hroom : n.queues → s.ulp.reports.length < n.reports) :
    (s.writePassEnd r).Bounded n := State.writeRecord_bounded h _ hroom

theorem State.abortWalk_bounded (h : s.Bounded n) : s.abortWalk.Bounded n := by
  unfold State.abortWalk
  split
  · refine State.queueReply_bounded ?_ _
    exact h
  all_goals exact h

theorem State.dropMarks_bounded (h : s.Bounded n) : s.dropMarks.Bounded n := by
  refine { h with lists := fun hn y hy => ?_, ids := fun hn => ?_ }
  · obtain ⟨z, _, rfl⟩ := List.mem_map.mp hy
    exact Nat.zero_le _
  · change ((s.tst.sections.map (fun y => { y with list := [] })).map Section.id).Nodup
    rw [List.map_map]
    exact h.ids hn

theorem State.clearSru_bounded (h : s.Bounded n) : s.clearSru.Bounded n := { h with opened := fun _ => Nat.zero_le _ }

theorem State.clearFacings_bounded (h : s.Bounded n) : s.clearFacings.Bounded n := by
  refine { h with facing := fun _ p => ?_ }
  change (Vector.replicate 16 FacingRecord.reset)[p].Sound
  rw [Fin.getElem_fin, Vector.getElem_replicate]
  exact FacingRecord.sound_fresh _ _

theorem State.abortScu_bounded (h : s.Bounded n) : s.abortScu.Bounded n := by
  unfold State.abortScu
  split <;> exact h

theorem State.endWork_bounded (h : s.Bounded n) : s.endWork.Bounded n := by
  unfold State.endWork
  refine State.setPsc_bounded (State.dropMarks_bounded (State.setRhg_bounded ?_ _)) _
  have habort := State.abortScu_bounded (s := (s.abortWalk).stopGenerators) (State.abortWalk_bounded h)
  exact State.clearSru_bounded (s := (State.clearSpe _).clearStale) habort

theorem State.queueReply_reports (s : State) (r : Reply) : (s.queueReply r).ulp.reports = s.ulp.reports := by
  unfold State.queueReply
  split <;> rfl

theorem State.abortWalk_reports (s : State) : s.abortWalk.ulp.reports = s.ulp.reports := by
  unfold State.abortWalk
  split
  · exact State.queueReply_reports _ _
  all_goals rfl

theorem State.endWork_reports (s : State) : s.endWork.ulp.reports = s.ulp.reports := by
  have hulp : s.endWork.ulp = s.abortWalk.ulp := by
    simp [State.endWork, State.dropMarks]
  rw [hulp, State.abortWalk_reports]

theorem State.abort_bounded (h : s.Bounded n) (tag : Byte)
    (hroom : n.queues → s.psc.state ≠ .idle → s.ulp.reports.length < n.reports) : (s.abort tag).Bounded n := by
  unfold State.abort
  split
  · exact State.queueReply_bounded h _
  next hidle =>
    refine State.queueReply_bounded ?_ _
    refine State.writePassEnd_bounded (State.endWork_bounded h) _ (fun hn => ?_)
    rw [State.endWork_reports]
    exact hroom hn hidle

theorem tallyWalkEndStep_bounded (h : s.Bounded n)
    (hroom : n.queues → s.tallyRest.ulp.reports.length < n.reports) : (tallyWalkEndStep s).Bounded n := by
  unfold tallyWalkEndStep
  split
  · dsimp only
    split
    · exact State.tallyRest_bounded h
    · exact State.writePassEnd_bounded (State.tallyRest_bounded h) _ hroom
  · exact h

theorem State.restartWork_bounded (h : s.Bounded n) : s.restartWork.Bounded n := by
  unfold State.restartWork
  split
  · exact { h with reports := fun _ => Nat.zero_le _ }
  · refine State.writePassEnd_bounded ?_ _ (fun hn => ?_)
    · exact { State.endWork_bounded h with reports := fun _ => Nat.zero_le _ }
    · exact (Nat.succ_pos 510).trans_le (h.room hn)

theorem State.restartQueues_bounded (h : s.Bounded n) : s.restartQueues.Bounded n := by
  refine { h with port := fun _ p => ?_, mgmt := fun _ => Nat.zero_le _ }
  change (mapAll (_ : PortQueue → PortQueue) s.piq)[p].queue.length ≤ 32
  rw [getElem_mapAll]
  exact Nat.zero_le _

theorem State.clearPassCounters_bounded (h : s.Bounded n) : s.clearPassCounters.Bounded n := by
  refine { h with port := fun hn p => ?_ }
  change (mapAll (_ : PortQueue → PortQueue) s.piq)[p].queue.length ≤ 32
  rw [getElem_mapAll]
  exact h.port hn p

theorem State.restartBlocks_bounded (h : s.Bounded n) : s.restartBlocks.Bounded n := by
  unfold State.restartBlocks
  refine State.setPsc_bounded (State.setRhg_bounded (State.setPam_bounded (State.clearSru_bounded (State.clearFacings_bounded ?_))
    _) _) _
  exact h

theorem State.restart_bounded (h : s.Bounded n) (tag : Byte) : (s.restart tag).Bounded n := by
  refine State.queueReply_bounded (State.restartBlocks_bounded (State.clearPassCounters_bounded ?_)) _
  exact State.restartQueues_bounded (State.restartWork_bounded h)

/-! ### Runs that begin -/

theorem State.setUpPass_bounded (h : s.Bounded n) (source : PassSource) (verbose : Bool) (pace displacement : Option Nat) :
    (s.setUpPass source verbose pace displacement).Bounded n := by
  unfold State.setUpPass
  refine State.setPsc_bounded (State.setRhg_bounded (State.setPam_bounded (State.clearSru_bounded (State.clearFacings_bounded ?_))
    _) _) _
  refine forPorts_preserves (State.Bounded · n) _ (fun _ _ ht => State.setSpe_bounded ht _) _ (State.setSpe_bounded ?_ _)
  exact State.clearPassCounters_bounded h

theorem State.openBy_bounded (h : s.Bounded n) (f : MgmtFrame) (source : PassSource) (verbose : Bool)
    (pace displacement : Option Nat) : (s.openBy f source verbose pace displacement).Bounded n := by
  have hset := State.setUpPass_bounded h source verbose pace displacement
  unfold State.openBy
  dsimp only
  generalize s.setUpPass source verbose pace displacement = u at hset ⊢
  exact hset

theorem openPassAct_bounded (f : MgmtFrame) (h : s.Bounded n) : (openPassAct f s).Bounded n := by
  unfold openPassAct
  split
  · exact State.refuse_bounded h _ _
  split
  · exact State.refuse_bounded h _ _
  split
  · exact State.refuse_bounded h _ _
  · exact State.openBy_bounded h _ _ _ _ _

theorem rehearseAct_bounded (f : MgmtFrame) (h : s.Bounded n) : (rehearseAct f s).Bounded n := by
  unfold rehearseAct
  split
  · exact State.refuse_bounded h _ _
  split
  · exact State.refuse_bounded h _ _
  split
  · exact State.refuse_bounded h _ _
  split
  · exact State.refuse_bounded h _ _
  · exact State.openBy_bounded h _ _ _ _ _

theorem State.setScu_bounded (h : s.Bounded n) (v : Scu) : (s.setScu v).Bounded n := h

theorem State.startScu_bounded (h : s.Bounded n) (near far : TagCode) : (s.startScu near far).Bounded n :=
  forPorts_preserves (State.Bounded · n) _ (fun _ _ ht => State.setScu_bounded ht _) _ (State.setScu_bounded h _)

theorem calibrateAct_bounded (f : MgmtFrame) (h : s.Bounded n) : (calibrateAct f s).Bounded n := by
  unfold calibrateAct
  split
  · exact State.refuse_bounded h _ _
  split
  · exact State.refuse_bounded h _ _
  · refine State.reply_bounded (State.startGenerators_bounded (State.setPsc_bounded (State.setSwg_bounded
      (State.setSwg_bounded (State.setSpe_bounded ?_ _) _) _) _)) _ _ _
    exact State.startScu_bounded h _ _

theorem closePassAct_bounded (f : MgmtFrame) (h : s.Bounded n) : (closePassAct f s).Bounded n := by
  unfold closePassAct
  split
  · exact State.refuse_bounded h _ _
  split
  · exact State.reply_bounded h f .done []
  · exact State.refuse_bounded h _ _

theorem calibrationCompleteStep_bounded (h : s.Bounded n) : (calibrationCompleteStep s).Bounded n := by
  unfold calibrationCompleteStep
  split
  · refine State.setPsc_bounded (State.setScu_bounded (State.setSwg_bounded ?_ _) _) _
    exact forPorts_preserves (State.Bounded · n) _ (fun _ _ ht => State.setScu_bounded ht _) _ h
  · exact h

/-! ### Exchanges -/

theorem State.setPortMode_bounded (h : s.Bounded n) (m : PortMode) (p : Port) : (s.setPortMode m p).Bounded n := by
  have hmode := State.modPiq_bounded h p (fun q => { q with mode := m }) (fun _ hq => hq)
  cases m with
  | active => exact hmode
  | muted => exact State.disqualify_bounded hmode p

theorem State.setFollows_bounded (h : s.Bounded n) (v : Bool) (p : Port) : (s.setFollows v p).Bounded n := by
  have hfollows := State.modPiq_bounded h p (fun q => { q with follows := v }) (fun _ hq => hq)
  unfold State.setFollows
  dsimp only
  split
  · exact State.becomeHeld_bounded hfollows p
  · exact hfollows

theorem State.setPortParam_bounded (h : s.Bounded n) (id v : Nat) (p : Port) : (s.setPortParam id v p).Bounded n := by
  unfold State.setPortParam
  split
  · exact State.setPortMode_bounded h _ p
  · exact State.setFollows_bounded h _ p

theorem State.setParams_bounded (h : s.Bounded n) (q : Params) : (s.setParams q).Bounded n := h

theorem State.applyParam_bounded (h : s.Bounded n) (id selector v : Nat) : (s.applyParam id selector v).Bounded n := by
  unfold State.applyParam
  split
  · exact foldl_preserves (State.Bounded · n) _ (fun _ p ht => State.setPortParam_bounded ht id v p) _ _ h
  split
  · exact State.retestHold_bounded (State.setParams_bounded h _)
  split
  · exact State.arbitrate_bounded (State.setParams_bounded h _)
  · exact h

theorem setParamAct_bounded (f : MgmtFrame) (h : s.Bounded n) : (setParamAct f s).Bounded n := by
  unfold setParamAct
  split
  · exact State.refuse_bounded h _ _
  split
  · exact State.refuse_bounded h _ _
  · exact State.reply_bounded (State.applyParam_bounded h _ _ _) _ _ _

theorem State.beginLoad_bounded (h : s.Bounded n) (f : MgmtFrame) (size : Nat) (hold : List (List Byte) → Exchange) :
    (s.beginLoad f size hold).Bounded n := by
  unfold State.beginLoad
  split
  · exact State.refuse_bounded h _ _
  split
  · exact State.refuse_bounded h _ _
  split
  · exact State.refuse_bounded h _ _
  · exact h

theorem clearTablesAct_bounded (f : MgmtFrame) (h : s.Bounded n) : (clearTablesAct f s).Bounded n := by
  unfold clearTablesAct
  split
  · exact State.refuse_bounded h _ _
  split
  · exact State.refuse_bounded h _ _
  next holdings sections _ _ =>
    refine State.reply_bounded ?_ f _ _
    cases sections with
    | true => exact { h with lists := fun _ _ hy => (List.not_mem_nil hy).elim, ids := fun _ => List.nodup_nil }
    | false => exact h

/-- The tables a load changes aside, LOAD_COMPLETE keeps the bounds. -/
theorem loadCompleteStep_bounded (h : s.Bounded n) (hlists : ¬n.lists) : (loadCompleteStep s).Bounded n := by
  unfold loadCompleteStep
  split
  · refine State.queueReply_bounded ?_ _
    exact h
  · refine State.queueReply_bounded ?_ _
    exact { h with lists := fun hn => absurd hn hlists, ids := fun hn => absurd hn hlists }
  all_goals exact h

/-! ### Time -/

theorem State.advanceClocks_bounded (h : s.Bounded n) : s.advanceClocks.Bounded n := by
  unfold State.advanceClocks
  dsimp only
  split <;> exact h

theorem State.tick_bounded (h : s.Bounded n) : s.tick.Bounded n := by
  unfold State.tick State.walkStep
  split
  · exact State.walkOne_bounded (State.advanceClocks_bounded h)
  split
  · exact State.tallyOne_bounded (State.advanceClocks_bounded h)
  · exact State.advanceClocks_bounded h

theorem idle_bounded (h : s.Bounded n) : (idle s).Bounded n := by
  unfold idle
  split
  · exact h
  split
  next f hf =>
    obtain ⟨g, rfl⟩ | rfl | rfl | rfl | rfl | ⟨x, rfl⟩ | rfl | rfl := s.dueEvent_cases f hf
    · exact sweepStartStep_bounded h g
    · exact bStartStep_bounded h
    · exact aStartStep_bounded h
    · exact activityWindowEndStep_bounded h
    · exact clockLimitStep_bounded h
    · exact quietCloseStep_bounded h x
    · exact quietExpiryStep_bounded h
    · exact flushTimeExpiryStep_bounded h
  · exact State.tick_bounded h

/-! ### The uplink -/

/-- A frame does what its kind says; ABORT-PASS alone may add a record to the queue. -/
theorem State.sortFrame_bounded (h : s.Bounded n) (f : MgmtFrame)
    (habort : f.kind = kindAbortPass → (s.abort f.tag).Bounded n) : (s.sortFrame f).Bounded n := by
  unfold State.sortFrame
  split
  case isTrue hkind => exact habort hkind
  split
  · exact State.restart_bounded h _
  split
  · exact pauseStep_bounded h
  split
  · exact resumeStep_bounded h
  · exact State.queueFrame_bounded h f

/-- A byte taken in changes the receiver and its counters, and a good frame that it ends is sorted. -/
theorem State.uplinkByte_cases (s : State) (b : Byte) : ∃ u : State, u.psc = s.psc ∧ (∀ n, s.Bounded n → u.Bounded n) ∧
    (s.uplinkByte b = u ∨ ∃ f, s.uplinkByte b = u.sortFrame f) := by
  unfold State.uplinkByte
  dsimp only
  split
  · refine ⟨_, ?_, ?_, .inl rfl⟩
    · rfl
    · exact fun _ h => h
  · refine ⟨_, ?_, ?_, .inl rfl⟩
    · rfl
    · exact fun _ h => h
  · unfold State.judgeUplink
    split
    · refine ⟨_, ?_, ?_, .inr ⟨_, rfl⟩⟩
      · rfl
      · exact fun _ h => h
    · refine ⟨_, ?_, ?_, .inl rfl⟩
      · rfl
      · exact fun _ h => h

theorem uplinkFrameJudgedStep_bounded (h : s.Bounded n) (hn : ¬n.queues) (bytes : List Byte) :
    (uplinkFrameJudgedStep bytes s).Bounded n := by
  refine foldl_preserves (State.Bounded · n) _ (fun t b ht => ?_) _ _ h
  obtain ⟨u, _, hu, heq | ⟨f, heq⟩⟩ := t.uplinkByte_cases b
  · rw [heq]
    exact hu n ht
  · rw [heq]
    exact State.sortFrame_bounded (hu n ht) f (fun _ => State.abort_bounded (hu n ht) _ (fun hq => absurd hq hn))

/-! ### Every command -/

theorem reset_bounded (h : s.Bounded n) : State.reset.Bounded n where
  facing := fun _ p => by
    change (Vector.replicate 16 FacingRecord.reset)[p].Sound
    rw [Fin.getElem_fin, Vector.getElem_replicate]
    exact FacingRecord.sound_fresh _ _
  port := fun _ p => by
    change (Vector.replicate 16 PortQueue.reset)[p].queue.length ≤ 32
    rw [Fin.getElem_fin, Vector.getElem_replicate]
    exact Nat.zero_le _
  mgmt := fun _ => Nat.zero_le _
  replies := fun _ => Nat.zero_le _
  reports := fun _ => Nat.zero_le _
  alerts := fun _ => List.Pairwise.nil
  room := h.room
  opened := fun _ => Nat.zero_le _
  lists := fun _ _ hy => (List.not_mem_nil hy).elim
  ids := fun _ => List.nodup_nil

theorem live_bounded {f : State → State} (hlive : live s f = .next t) (h : s.Bounded n) (hf : (f s).Bounded n) :
    t.Bounded n := by
  unfold live at hlive
  cases hlive
  split
  · exact h
  · exact hf

theorem live_dispatch_bounded {mine : MgmtFrame → Bool} {act : MgmtFrame → State → State}
    (hlive : live s (State.dispatch · mine act) = .next t) (h : s.Bounded n)
    (hact : ∀ (f : MgmtFrame) (u : State), u.Bounded n → (act f u).Bounded n) : t.Bounded n :=
  live_bounded hlive h (State.dispatch_bounded h mine act hact)

/-- The commands whose action may write a PASS-END. -/
def MayEndPass : Instr → Prop
  | .abortPass _ => True
  | .tallyWalkEnd => True
  | .uplinkFrameJudged _ => True
  | _ => False

/-- Every command keeps the bounds; a PASS-END that goes past them, and the tables a load changes, are told apart. -/
theorem exec_bounded (c : Instr) (hlive : exec c s = .next t) (h : s.Bounded n) (hload : c = .loadComplete → ¬n.lists)
    (hend : MayEndPass c → ¬n.queues) : t.Bounded n := by
  cases c with
  | powerOn => cases hlive; exact reset_bounded h
  | resetLine => cases hlive; exact reset_bounded h
  | resetLineRelease => cases hlive; exact h
  | qholdRelease => cases hlive; exact h
  | qholdAssert =>
    cases hlive
    split
    · exact h
    · exact qholdAssertStep_bounded h
  | frontEndFrameJudged link bytes => exact live_bounded hlive h (frontEndFrameJudgedStep_bounded h link bytes)
  | sweepFrameSent link => exact live_bounded hlive h (sweepFrameSentStep_bounded h link)
  | sweepStart g => exact live_bounded hlive h (sweepStartStep_bounded h g)
  | aStart => exact live_bounded hlive h (aStartStep_bounded h)
  | bStart => exact live_bounded hlive h (bStartStep_bounded h)
  | readTake => exact live_bounded hlive h (readTakeStep_bounded h)
  | sectionOpenAfterWait => exact live_bounded hlive h (sectionOpenAfterWaitStep_bounded h)
  | overfullFindingWrite => exact live_bounded hlive h (overfullFindingWriteStep_bounded h)
  | quietExpiry => exact live_bounded hlive h (quietExpiryStep_bounded h)
  | quietClose sec => exact live_bounded hlive h (quietCloseStep_bounded h sec)
  | forcePlaceAndRetire => exact live_bounded hlive h (forcePlaceAndRetireStep_bounded h)
  | reporterTakeSection => exact live_bounded hlive h (reporterTakeSectionStep_bounded h)
  | findingWrite => exact live_bounded hlive h (findingWriteStep_bounded h)
  | sectionSummaryWrite => exact live_bounded hlive h (sectionSummaryWriteStep_bounded h)
  | drainComplete => exact live_bounded hlive h (drainCompleteStep_bounded h)
  | settle => exact live_bounded hlive h (settleStep_bounded h)
  | tallyFindingWrite => exact live_bounded hlive h (tallyFindingWriteStep_bounded h)
  | tallyWalkEnd => exact live_bounded hlive h (tallyWalkEndStep_bounded h (fun hn => absurd hn (hend trivial)))
  | clockLimit => exact live_bounded hlive h (clockLimitStep_bounded h)
  | preparingWalkEnd => exact live_bounded hlive h (preparingWalkEndStep_bounded h)
  | calibrationComplete => exact live_bounded hlive h (calibrationCompleteStep_bounded h)
  | activityWindowEnd => exact live_bounded hlive h (activityWindowEndStep_bounded h)
  | uplinkFrameJudged bytes => exact live_bounded hlive h (uplinkFrameJudgedStep_bounded h (hend trivial) bytes)
  | abortPass tag => exact live_bounded (f := (State.abort · tag)) hlive h (State.abort_bounded h tag (fun hn => absurd hn (hend trivial)))
  | restart tag => exact live_bounded (f := (State.restart · tag)) hlive h (State.restart_bounded h tag)
  | pause => exact live_bounded hlive h (pauseStep_bounded h)
  | resume => exact live_bounded hlive h (resumeStep_bounded h)
  | loadComplete => exact live_bounded hlive h (loadCompleteStep_bounded h (hload rfl))
  | replyFrame => exact live_bounded hlive h (State.bounded_of_arbitrate_or_eq h (replyFrameStep_eq s))
  | alertFrame => exact live_bounded hlive h (State.bounded_of_arbitrate_or_eq h (alertFrameStep_eq s))
  | reportFrame => exact live_bounded hlive h (State.bounded_of_arbitrate_or_eq h (reportFrameStep_eq s))
  | flushTimeExpiry => exact live_bounded hlive h (flushTimeExpiryStep_bounded h)
  | uplinkFrameEnd => exact live_bounded hlive h (uplinkFrameEndStep_bounded h)
  | identify => exact live_dispatch_bounded hlive h (fun f _ hu => identifyAct_bounded f hu)
  | setParam => exact live_dispatch_bounded hlive h (fun f _ hu => setParamAct_bounded f hu)
  | getParam => exact live_dispatch_bounded hlive h (fun f _ hu => getParamAct_bounded f hu)
  | readStatusPass => exact live_dispatch_bounded hlive h (fun f _ hu => readStatusAct_bounded f hu)
  | readStatusPorts => exact live_dispatch_bounded hlive h (fun f _ hu => readStatusAct_bounded f hu)
  | readStatusCalibration => exact live_dispatch_bounded hlive h (fun f _ hu => readStatusAct_bounded f hu)
  | readStatusCounters => exact live_dispatch_bounded hlive h (fun f _ hu => readStatusAct_bounded f hu)
  | readStatusLinks => exact live_dispatch_bounded hlive h (fun f _ hu => readStatusAct_bounded f hu)
  | resetPortQueues => exact live_dispatch_bounded hlive h (fun f _ hu => resetPortQueuesAct_bounded f hu)
  | resetPortQueuesGlobal => exact live_dispatch_bounded hlive h (fun f _ hu => resetPortQueuesAct_bounded f hu)
  | clearTables => exact live_dispatch_bounded hlive h (fun f _ hu => clearTablesAct_bounded f hu)
  | calibrate => exact live_dispatch_bounded hlive h (fun f _ hu => calibrateAct_bounded f hu)
  | openPass => exact live_dispatch_bounded hlive h (fun f _ hu => openPassAct_bounded f hu)
  | rehearse => exact live_dispatch_bounded hlive h (fun f _ hu => rehearseAct_bounded f hu)
  | closePass => exact live_dispatch_bounded hlive h (fun f _ hu => closePassAct_bounded f hu)
  | loadHoldings => exact live_dispatch_bounded hlive h (fun f _ hu => State.beginLoad_bounded hu f _ _)
  | loadSections => exact live_dispatch_bounded hlive h (fun f _ hu => State.beginLoad_bounded hu f _ _)
  | badKind => exact live_dispatch_bounded hlive h (fun f _ hu => State.reply_bounded hu f _ _)

end Sys2Proof.Machine
end

section
/-! SUPPORT. The queues keep within their capacities (R18, R149, R153 to R155, R158, R168); settles O52. -/

namespace Sys2Proof.Machine

variable {s t : State} {n : Scope}

/-- The queues alone, with at most `k` records in the report queue. -/
def queueScope (k : Nat) : Scope := ⟨False, True, False, k⟩

/-- The report queue has 512 places, and keeps the last of them for a PASS-END while the device is not in IDLE (R155). -/
structure State.Stored (s : State) : Prop where
  whole : s.Bounded (queueScope 512)
  spare : s.psc.state ≠ .idle → s.Bounded (queueScope 511)

theorem State.queuesInv_iff (s : State) : s.QueuesInv ↔ s.Stored := by
  constructor
  · rintro ⟨hport, hmgmt, hreplies, hreports, hspare, halerts⟩
    have hbounds (k : Nat) (hk : 511 ≤ k) (hlen : s.ulp.reports.length ≤ k) : s.Bounded (queueScope k) :=
      ⟨False.elim, fun _ => hport, fun _ => hmgmt, fun _ => hreplies, fun _ => hlen, fun _ => halerts, fun _ => hk, False.elim,
        False.elim, False.elim⟩
    exact ⟨hbounds 512 (by decide) hreports, fun hs => hbounds 511 (by decide) (hspare hs)⟩
  · intro h
    exact ⟨h.whole.port trivial, h.whole.mgmt trivial, h.whole.replies trivial, h.whole.reports trivial,
      fun hs => (h.spare hs).reports trivial, h.whole.alerts trivial⟩

/-- What keeps the bounds and does not leave IDLE. -/
theorem State.Stored.keep (h : s.Stored) (hkeep : ∀ n, s.Bounded n → t.Bounded n)
    (hstate : s.psc.state = .idle → t.psc.state = .idle) : t.Stored :=
  ⟨hkeep _ h.whole, fun ht => hkeep _ (h.spare (fun hs => ht (hstate hs)))⟩

/-- A row that ends in IDLE, where the PASS-END has its place. -/
theorem State.Stored.of_idle (h : t.Bounded (queueScope 512)) (hstate : t.psc.state = .idle) : t.Stored :=
  ⟨h, fun ht => absurd hstate ht⟩

/-- While the device is not in IDLE there is room for one record more. -/
theorem State.Stored.length_lt (h : s.Stored) (hs : s.psc.state ≠ .idle) : s.ulp.reports.length < 512 :=
  Nat.lt_succ_of_le ((h.spare hs).reports trivial)

/-! ### The rows that write PASS-END -/

theorem State.abort_stored (h : s.Stored) (tag : Byte) : (s.abort tag).Stored := by
  refine .of_idle (State.abort_bounded h.whole tag (fun _ hs => h.length_lt hs)) ?_
  have hstate : (s.abort tag).phase.state = .idle := by
    rw [State.abort_phase]
    split
    case isTrue hidle => exact hidle
    case isFalse => rfl
  exact hstate

theorem tallyWalkEndStep_stored (h : s.Stored) : (tallyWalkEndStep s).Stored := by
  by_cases hwalk : s.psc.state = .tallying ∧ s.psc.tallyWait = none
  · have hbusy : s.psc.state ≠ .idle := by simp [hwalk.1]
    have hrest := State.tallyRest_bounded (h.spare hbusy)
    have hstate : s.tallyRest.psc.state = .tallying := (congrArg Phase.state s.tallyRest_phase).trans hwalk.1
    unfold tallyWalkEndStep
    rw [if_pos hwalk]
    dsimp only
    split
    · exact ⟨State.tallyRest_bounded h.whole, fun _ => hrest⟩
    · refine .of_idle ?_ rfl
      exact State.writePassEnd_bounded (State.tallyRest_bounded h.whole) _ (fun _ => Nat.lt_succ_of_le (hrest.reports trivial))
  · rw [tallyWalkEndStep, if_neg hwalk]
    exact h

theorem State.sortFrame_stored (h : s.Stored) (f : MgmtFrame) : (s.sortFrame f).Stored := by
  have hbounded (n : Scope) (habort : f.kind ≠ kindAbortPass) (hs : s.Bounded n) : (s.sortFrame f).Bounded n :=
    State.sortFrame_bounded hs f (fun hkind => absurd hkind habort)
  by_cases hkind : f.kind = kindAbortPass
  · rw [State.sortFrame, if_pos hkind]
    exact State.abort_stored h _
  · refine h.keep (fun n => hbounded n hkind) (fun hs => ?_)
    obtain hsweeps | hidle := (s.sortFrame_received f).cases
    · obtain hsame | ⟨hscan, _⟩ := hsweeps.edge
      · exact hsame.trans hs
      · exact absurd (hs.symm.trans hscan) (by decide)
    · exact hidle

theorem uplinkFrameJudgedStep_stored (h : s.Stored) (bytes : List Byte) : (uplinkFrameJudgedStep bytes s).Stored := by
  refine foldl_preserves State.Stored _ (fun t b ht => ?_) _ _ h
  obtain ⟨u, hpsc, hu, heq | ⟨f, heq⟩⟩ := t.uplinkByte_cases b
  · rw [heq]
    exact ht.keep hu (fun hs => hpsc ▸ hs)
  · rw [heq]
    exact State.sortFrame_stored (ht.keep hu (fun hs => hpsc ▸ hs)) f

/-! ### The rows that leave IDLE -/

/-- The commands whose action may leave IDLE (R128, R29, R179). -/
def LeavesIdle : Instr → Prop
  | .calibrate => True
  | .openPass => True
  | .rehearse => True
  | _ => False

theorem Phase.Row.idle_of_idle {c : Instr} {p q : Phase} (h : Phase.Row c p q) (hc : ¬LeavesIdle c) (hp : p.state = .idle) :
    q.state = .idle := by
  have hsweeps {q : Phase} (h : p.Sweeps q) : q.state = .idle := by
    obtain hsame | ⟨hscan, _⟩ := h.edge
    · exact hsame.trans hp
    · exact absurd (hp.symm.trans hscan) (by decide)
  cases h with
  | sweeps h => exact hsweeps h
  | received _ h =>
    obtain h | hidle := h.cases
    · exact hsweeps h
    · exact hidle
  | resets _ => rfl
  | opens hopen _ =>
    obtain rfl | rfl := hopen
    · exact absurd trivial hc
    · exact absurd trivial hc
  | calibrates => exact absurd trivial hc
  | scans hprep => exact absurd (hp.symm.trans hprep) (by decide)
  | tallies _ hsettle => exact absurd (hp.symm.trans hsettle) (by decide)
  | passEnds htally => exact absurd (hp.symm.trans htally) (by decide)
  | completes hcal => exact absurd (hp.symm.trans hcal) (by decide)
  | loads _ _ => exact hp
  | stores _ _ => exact hp
  | clears _ => exact hp
  | sets _ _ _ h =>
    obtain hsame | ⟨hscan, _⟩ := h.edge
    · exact hsame.trans hp
    · exact absurd (hp.symm.trans hscan) (by decide)

/-- A frame that is held back at a full report queue finds a place free when it is dispatched (R128, R150). -/
theorem State.Stored.dispatch (h : s.Stored) (mine : MgmtFrame → Bool) (act : MgmtFrame → State → State)
    (hact : ∀ n f (u : State), u.Bounded n → (act f u).Bounded n)
    (hheld : ∀ f, mine f = true → 512 ≤ s.ulp.reports.length → s.heldBack f = true) : (s.dispatch mine act).Stored := by
  obtain heq | ⟨f, hf, hmine, heq⟩ := s.dispatch_cases mine act
  · rw [heq]
    exact h
  · obtain ⟨_, _, _, _, hfree⟩ := s.dispatchable_eq_some hf
    have hlt : s.ulp.reports.length < 512 := by
      by_contra hle
      simp [hheld f hmine (Nat.le_of_not_lt hle)] at hfree
    have hspare : s.popMgmt.Bounded (queueScope 511) :=
      { State.popMgmt_bounded h.whole with reports := fun _ => Nat.le_of_lt_succ hlt, room := fun _ => le_refl _ }
    rw [heq]
    exact ⟨hact _ f _ (State.popMgmt_bounded h.whole), fun _ => hact _ f _ hspare⟩

theorem State.heldBack_of_full (s : State) (f : MgmtFrame)
    (hf : f.kind = kindOpenPass ∨ f.kind = kindRehearse ∨ f.kind = kindCalibrate) (hfull : 512 ≤ s.ulp.reports.length) :
    s.heldBack f = true := by
  have hfull : Config.reportCapacity ≤ s.ulp.reports.length := hfull
  unfold State.heldBack
  dsimp only
  split
  · simp [hfull]
  next hnot =>
    obtain hopen | hrehearse | hcalibrate := hf
    · exact absurd (.inl hopen) hnot
    · exact absurd (.inr hrehearse) hnot
    · simp [hcalibrate, hfull]

theorem live_stored {f : State → State} (hlive : live s f = .next t) (h : s.Stored) (hf : (f s).Stored) : t.Stored := by
  unfold live at hlive
  cases hlive
  split
  · exact h
  · exact hf

/-! ### Every step -/

theorem exec_stored (c : Instr) (hlive : exec c s = .next t) (h : s.Stored) : t.Stored := by
  by_cases hend : MayEndPass c
  · cases c with
    | abortPass tag => exact live_stored (f := (State.abort · tag)) hlive h (State.abort_stored h tag)
    | tallyWalkEnd => exact live_stored hlive h (tallyWalkEndStep_stored h)
    | uplinkFrameJudged bytes => exact live_stored hlive h (uplinkFrameJudgedStep_stored h bytes)
    | _ => exact hend.elim
  by_cases hleaves : LeavesIdle c
  · cases c with
    | calibrate =>
      exact live_stored hlive h (h.dispatch _ _ (fun _ f _ => calibrateAct_bounded f)
        (fun f hf => s.heldBack_of_full f (.inr (.inr (beq_iff_eq.mp hf)))))
    | openPass =>
      exact live_stored hlive h (h.dispatch _ _ (fun _ f _ => openPassAct_bounded f)
        (fun f hf => s.heldBack_of_full f (.inl (beq_iff_eq.mp hf))))
    | rehearse =>
      exact live_stored hlive h (h.dispatch _ _ (fun _ f _ => rehearseAct_bounded f)
        (fun f hf => s.heldBack_of_full f (.inr (.inl (beq_iff_eq.mp hf)))))
    | _ => exact hleaves.elim
  · refine ⟨?_, fun ht => ?_⟩
    · exact exec_bounded c hlive h.whole (fun _ => id) (fun hc => absurd hc hend)
    · have hbusy : s.psc.state ≠ .idle := fun hs => ht ((exec_row c s t hlive).idle_of_idle hleaves hs)
      exact exec_bounded c hlive (h.spare hbusy) (fun _ => id) (fun hc => absurd hc hend)

theorem idle_stored (h : s.Stored) : (idle s).Stored := by
  refine h.keep (fun n => idle_bounded) (fun hs => ?_)
  obtain hsame | ⟨hscan, _⟩ := (idle_sweeps s).edge
  · exact hsame.trans hs
  · exact absurd (hs.symm.trans hscan) (by decide)

/-- Settles O52: every operation keeps the bounds of the queues, and a PASS-END is written on the way to IDLE, where the 512th
place may be taken; the exchanges that leave IDLE are held back at a full queue. -/
theorem stepsKeepTheQueuesWithinCapacity : Obligations.StepsKeepTheQueuesWithinCapacity := by
  intro s t hs hstep
  rw [State.queuesInv_iff] at hs ⊢
  obtain ⟨_, rfl⟩ | ⟨c, rest, _, hexec⟩ := step_cases hstep
  · exact idle_stored hs
  · have hrest : (s.setPending rest).Stored := hs.keep (fun _ h => h) id
    exact exec_stored c hexec hrest

end Sys2Proof.Machine
end

section
/-! SUPPORT. The tables keep within their capacities, free of repeats, and the lists within theirs (R60, R62, R64, R66, R110,
R113); settles O54. -/

namespace Sys2Proof.Machine

variable {s t : State} {n : Scope}

/-- The lists alone. -/
def listScope : Scope := ⟨False, False, True, 0⟩

/-- The tables of a phase: what the loads give them. -/
structure Phase.Tabled (p : Phase) : Prop where
  holdings : p.holdings.length ≤ 16384
  tags : (p.holdings.map (fun h => h.1)).Nodup
  homes : ∀ h ∈ p.holdings, h.2.2.1 ≤ 4095
  sections : p.sections.length ≤ 1024
  ids : ∀ y ∈ p.sections, y.1 ≤ 4095
  levels : ∀ y ∈ p.sections, 1 ≤ y.2.2 ∧ y.2.2 ≤ 8

theorem State.tablesInv_iff (s : State) : s.TablesInv ↔ s.phase.Tabled ∧ s.Bounded listScope := by
  have htags : s.phase.holdings.map (fun h => h.1) = s.tst.holdings.map Holding.tag := by
    simp [State.phase, Holding.loaded, Function.comp_def]
  constructor
  · rintro ⟨hholdings, hnodup, hhomes, hsections, hids, hranges, hopened⟩
    refine ⟨⟨?_, htags ▸ hnodup, ?_, ?_, ?_, ?_⟩, False.elim, False.elim, False.elim, False.elim, False.elim, False.elim,
      False.elim, fun _ => hopened, fun _ y hy => (hranges y hy).2.2.2, fun _ => hids⟩
    · simpa [State.phase] using hholdings
    · simpa [State.phase, Holding.loaded] using hhomes
    · simpa [State.phase] using hsections
    · simpa [State.phase, Section.loaded] using fun y hy => (hranges y hy).1
    · simpa [State.phase, Section.loaded] using fun y hy => ⟨(hranges y hy).2.1, (hranges y hy).2.2.1⟩
  · rintro ⟨⟨hholdings, hnodup, hhomes, hsections, hids, hlevels⟩, hbounded⟩
    simp only [State.phase, List.length_map] at hholdings hsections
    refine ⟨hholdings, htags ▸ hnodup, fun h hh => hhomes _ (List.mem_map_of_mem hh), hsections, hbounded.ids trivial,
      fun y hy => ?_, hbounded.opened trivial⟩
    have hlevel := hlevels _ (List.mem_map_of_mem hy)
    exact ⟨hids _ (List.mem_map_of_mem hy), hlevel.1, hlevel.2, hbounded.lists trivial y hy⟩

/-! ### A block stored -/

/-- A block stored keeps what each stored record keeps. -/
theorem storeBlock_preserves {ρ α : Type} (P : List α → Prop) (test : List α → ρ → Except ResultCode α)
    (h : ∀ table r x, P table → test table r = .ok x → P (table ++ [x])) (block : List ρ) (table : List α) (n : Nat)
    (ht : P table) : P (storeBlock test table block n).1 := by
  induction block generalizing table n with
  | nil => exact ht
  | cons r block ih =>
    unfold storeBlock
    split
    · exact ht
    next x hx => exact ih _ _ (h _ _ _ ht hx)

/-- The holdings table as a load keeps it (R60, R64). -/
def HoldingsSound (table : List Holding) : Prop :=
  table.length ≤ 16384 ∧ (table.map Holding.tag).Nodup ∧ ∀ h ∈ table, h.home ≤ 4095

/-- The section table as a load keeps it (R62, R66, R113). -/
def SectionsSound (table : List Section) : Prop :=
  table.length ≤ 1024 ∧ (table.map Section.id).Nodup ∧
    ∀ y ∈ table, y.id ≤ 4095 ∧ 1 ≤ y.level ∧ y.level ≤ 8 ∧ y.list.length ≤ 96

theorem tablesInv_iff_sound (s : State) :
    s.TablesInv ↔ HoldingsSound s.tst.holdings ∧ SectionsSound s.tst.sections ∧ s.sru.openList.length ≤ 32 := by
  unfold State.TablesInv HoldingsSound SectionsSound
  tauto

/-- A list without repeats keeps so when what is added is not in it. -/
theorem nodup_map_append_singleton {α β : Type} {f : α → β} {l : List α} {x : α} (h : (l.map f).Nodup)
    (hx : ∀ y ∈ l, f y ≠ f x) : ((l ++ [x]).map f).Nodup := by
  rw [List.map_append, List.nodup_append]
  refine ⟨h, List.nodup_singleton _, ?_⟩
  intro a ha b hb
  obtain ⟨y, hy, rfl⟩ := List.mem_map.mp ha
  obtain rfl := List.mem_singleton.mp hb
  exact hx y hy

theorem findHolding_isSome_iff {table : List Holding} {tag : TagCode} :
    (findHolding table tag).isSome = true ↔ ∃ h ∈ table, h.tag = tag := by
  simp [findHolding, List.findIdx?_isSome]

theorem findSection_isSome_iff {table : List Section} {x : SectionId} :
    (findSection table x).isSome = true ↔ ∃ y ∈ table, y.id = x := by
  simp [findSection]

/-- The tests of R64 that a stored record has passed. -/
theorem testHolding_eq_ok {q : Params} {table : List Holding} {r : RawHolding} {h : Holding}
    (hok : testHolding q table r = .ok h) :
    h.tag = r.tag ∧ h.home ≤ 4095 ∧ (∀ g ∈ table, g.tag ≠ h.tag) ∧ table.length < 16384 := by
  unfold testHolding at hok
  split at hok
  · cases hok
  split at hok
  · cases hok
  split at hok
  · cases hok
  next hhome =>
    split at hok
    · cases hok
    next hfind =>
      split at hok
      · cases hok
      next hfull =>
        cases hok
        exact ⟨rfl, Nat.le_of_not_lt hhome, fun g hg htag => hfind (findHolding_isSome_iff.mpr ⟨g, hg, htag⟩),
          Nat.lt_of_not_le hfull⟩

/-- The tests of R66 that a stored record has passed. -/
theorem testSection_eq_ok {table : List Section} {r : RawSection} {y : Section} (hok : testSection table r = .ok y) :
    y.list = [] ∧ y.id ≤ 4095 ∧ 1 ≤ y.level ∧ y.level ≤ 8 ∧ (∀ z ∈ table, z.id ≠ y.id) ∧ table.length < 1024 := by
  unfold testSection at hok
  split at hok
  · cases hok
  next hid =>
    split at hok
    · cases hok
    split at hok
    · cases hok
    next hlevel =>
      split at hok
      · cases hok
      next hfind =>
        split at hok
        · cases hok
        next hfull =>
          cases hok
          have hlow : 1 ≤ r.level := by omega
          have hhigh : r.level ≤ 8 := by omega
          exact ⟨rfl, Nat.le_of_not_lt hid, hlow, hhigh, fun z hz hzid => hfind (findSection_isSome_iff.mpr ⟨z, hz, hzid⟩),
            Nat.lt_of_not_le hfull⟩

theorem storeHoldings_sound (q : Params) (block : List RawHolding) (table : List Holding) (h : HoldingsSound table) :
    HoldingsSound (storeBlock (testHolding q) table block 0).1 := by
  refine storeBlock_preserves HoldingsSound _ (fun l r x hl hok => ?_) _ _ _ h
  obtain ⟨hlen, hnodup, hhomes⟩ := hl
  obtain ⟨_, hhome, hnew, hroom⟩ := testHolding_eq_ok hok
  refine ⟨List.length_append.trans_le hroom, nodup_map_append_singleton hnodup hnew, fun g hg => ?_⟩
  obtain hg | hg := List.mem_append.mp hg
  · exact hhomes g hg
  · exact List.mem_singleton.mp hg ▸ hhome

theorem storeSections_sound (block : List RawSection) (table : List Section) (h : SectionsSound table) :
    SectionsSound (storeBlock testSection table block 0).1 := by
  refine storeBlock_preserves SectionsSound _ (fun l r x hl hok => ?_) _ _ _ h
  obtain ⟨hlen, hnodup, hranges⟩ := hl
  obtain ⟨hlist, hid, hlow, hhigh, hnew, hroom⟩ := testSection_eq_ok hok
  refine ⟨List.length_append.trans_le hroom, nodup_map_append_singleton hnodup hnew, fun y hy => ?_⟩
  obtain hy | hy := List.mem_append.mp hy
  · exact hranges y hy
  · obtain rfl := List.mem_singleton.mp hy
    exact ⟨hid, hlow, hhigh, by simp [hlist]⟩

theorem loadCompleteStep_tables (h : s.TablesInv) : (loadCompleteStep s).TablesInv := by
  rw [tablesInv_iff_sound] at h ⊢
  obtain ⟨hholdings, hsections, hopened⟩ := h
  unfold loadCompleteStep
  split
  · simp only [State.endLoad, State.queueReply_frame]
    exact ⟨storeHoldings_sound _ _ _ hholdings, hsections, hopened⟩
  · simp only [State.endLoad, State.queueReply_frame]
    exact ⟨hholdings, storeSections_sound _ _ hsections, hopened⟩
  · exact ⟨hholdings, hsections, hopened⟩
  · exact ⟨hholdings, hsections, hopened⟩

theorem clearTablesAct_tables (f : MgmtFrame) (h : s.TablesInv) : (clearTablesAct f s).TablesInv := by
  rw [tablesInv_iff_sound] at h ⊢
  obtain ⟨hholdings, hsections, hopened⟩ := h
  have hnoHoldings : HoldingsSound [] := ⟨Nat.zero_le _, List.nodup_nil, fun _ hh => (List.not_mem_nil hh).elim⟩
  have hnoSections : SectionsSound [] := ⟨Nat.zero_le _, List.nodup_nil, fun _ hy => (List.not_mem_nil hy).elim⟩
  unfold clearTablesAct
  split
  · rw [State.refuse, State.reply]
    simp only [State.queueReply_frame]
    exact ⟨hholdings, hsections, hopened⟩
  split
  · rw [State.refuse, State.reply]
    simp only [State.queueReply_frame]
    exact ⟨hholdings, hsections, hopened⟩
  next holdings sections _ _ =>
    rw [State.reply]
    simp only [State.queueReply_frame]
    refine ⟨?_, ?_, hopened⟩
    · cases holdings with
      | true => exact hnoHoldings
      | false => exact hholdings
    · cases sections with
      | true => exact hnoSections
      | false => exact hsections

/-! ### Every step -/

theorem Phase.Tabled.congr {p q : Phase} (h : p.Tabled) (hholdings : q.holdings = p.holdings) (hsections : q.sections = p.sections) :
    q.Tabled where
  holdings := hholdings ▸ h.holdings
  tags := hholdings ▸ h.tags
  homes := hholdings ▸ h.homes
  sections := hsections ▸ h.sections
  ids := hsections ▸ h.ids
  levels := hsections ▸ h.levels

theorem live_tables {f : State → State} (hlive : live s f = .next t) (h : s.TablesInv) (hf : (f s).TablesInv) :
    t.TablesInv := by
  unfold live at hlive
  cases hlive
  split
  · exact h
  · exact hf

theorem exec_tables (c : Instr) (hlive : exec c s = .next t) (h : s.TablesInv) : t.TablesInv := by
  obtain ⟨hholdings, hsections⟩ | ⟨rfl, _⟩ | ⟨rfl, _⟩ | rfl | rfl := (exec_row c s t hlive).loaded
  · by_cases hc : c = .loadComplete
    · subst hc
      exact live_tables hlive h (loadCompleteStep_tables h)
    · rw [State.tablesInv_iff] at h ⊢
      exact ⟨h.1.congr hholdings hsections, exec_bounded c hlive h.2 (fun hload => absurd hload hc) (fun _ => id)⟩
  · exact live_tables hlive h (loadCompleteStep_tables h)
  · refine live_tables hlive h ?_
    obtain heq | ⟨f, _, _, heq⟩ := s.dispatch_cases (ofKind kindClearTables) clearTablesAct
    · rw [clearTablesStep, heq]
      exact h
    · rw [clearTablesStep, heq]
      exact clearTablesAct_tables f h
  · cases hlive
    exact reset_tablesInv
  · cases hlive
    exact reset_tablesInv

/-- Settles O54: the loaded fields change by a load, which tests each record against the table as it stands, and by a clear;
every operation keeps the lists within their limits. -/
theorem stepsKeepTheTables : Obligations.StepsKeepTheTables := by
  intro s t hs hstep
  obtain ⟨_, rfl⟩ | ⟨c, rest, _, hexec⟩ := step_cases hstep
  · rw [State.tablesInv_iff] at hs ⊢
    exact ⟨hs.1.congr (idle_sweeps s).holdings (idle_sweeps s).sections, idle_bounded hs.2⟩
  · exact exec_tables c hexec hs

end Sys2Proof.Machine
end

section
/-! SUPPORT. The parameters, the calibration values, the sweep counts and the transits keep in their ranges (R13, R36, R37, R52,
R55, R169); settles O55. -/

namespace Sys2Proof.Machine

variable {s t : State} {n : Scope}

/-! ### Parameters -/

/-- Every number of R169 in its range, and the two special classes apart; the named values of the other parameters are in range
by their kind. -/
structure Params.InRange (q : Params) : Prop where
  periodA : 2 ≤ q.periodA ∧ q.periodA ≤ 250
  periodB : 2 ≤ q.periodB ∧ q.periodB ≤ 250
  markerClass : 0 ≤ q.markerClass ∧ q.markerClass ≤ 255
  referenceClass : 0 ≤ q.referenceClass ∧ q.referenceClass ≤ 255
  readFloor : 0 ≤ q.readFloor ∧ q.readFloor ≤ 254
  markerThreshold : 0 ≤ q.markerThreshold ∧ q.markerThreshold ≤ 255
  minReads : 1 ≤ q.minReads ∧ q.minReads ≤ 15
  confirmScore : 0 ≤ q.confirmScore ∧ q.confirmScore ≤ 65535
  margin : 1 ≤ q.margin ∧ q.margin ≤ 65535
  quietTime : 50 ≤ q.quietTime ∧ q.quietTime ≤ 5000
  orderTolerance : 0 ≤ q.orderTolerance ∧ q.orderTolerance ≤ 15
  minTransit : 1 ≤ q.minTransit ∧ q.minTransit ≤ 4095
  calWindow : 8 ≤ q.calWindow ∧ q.calWindow ≤ 64
  tNear : 0 ≤ q.tNear ∧ q.tNear ≤ 255
  tFar : 0 ≤ q.tFar ∧ q.tFar ≤ 255
  highMark : 64 ≤ q.highMark ∧ q.highMark ≤ 496
  lowMark : 0 ≤ q.lowMark ∧ q.lowMark ≤ q.highMark - 16
  flushTime : 5 ≤ q.flushTime ∧ q.flushTime ≤ 500
  activityWindow : 100 ≤ q.activityWindow ∧ q.activityWindow ≤ 10000
  hotThreshold : 0 ≤ q.hotThreshold ∧ q.hotThreshold ≤ 255
  classes : q.markerClass ≠ q.referenceClass

theorem Assign.code_le (side : Assign) : side.code ≤ 2 := by cases side <;> decide

theorem SweepMode.code_le (m : SweepMode) : m.code ≤ 1 := by cases m <;> decide

theorem Params.inRange_iff (q : Params) : q.InRange ↔
    (∀ id, 1 ≤ id → id ≤ 26 → (paramRange q id).1 ≤ q.get id ∧ q.get id ≤ (paramRange q id).2) ∧
      q.markerClass ≠ q.referenceClass := by
  constructor
  · intro h
    refine ⟨fun id hlow hhigh => ?_, h.classes⟩
    interval_cases id
    · exact h.periodA
    · exact h.periodB
    · exact ⟨Nat.zero_le _, q.assignLeft.code_le⟩
    · exact ⟨Nat.zero_le _, q.assignRight.code_le⟩
    · exact ⟨Nat.zero_le _, q.sweepMode.code_le⟩
    · exact ⟨Nat.zero_le _, Nat.zero_le _⟩
    · exact ⟨Nat.zero_le _, Nat.zero_le _⟩
    · exact h.markerClass
    · exact h.referenceClass
    · exact h.readFloor
    · exact h.markerThreshold
    · exact h.minReads
    · exact h.confirmScore
    · exact h.margin
    · exact h.quietTime
    · exact h.orderTolerance
    · exact h.minTransit
    · exact h.calWindow
    · exact h.tNear
    · exact h.tFar
    · exact h.highMark
    · exact h.lowMark
    · exact h.flushTime
    · exact h.activityWindow
    · exact h.hotThreshold
    · exact ⟨Nat.zero_le _, Bool.toNat_le _⟩
  · rintro ⟨h, hclasses⟩
    have hid (id : Nat) (hnamed : 1 ≤ id ∧ id ≤ 26) := h id hnamed.1 hnamed.2
    exact {
      periodA := hid 1 (by decide)
      periodB := hid 2 (by decide)
      markerClass := hid 8 (by decide)
      referenceClass := hid 9 (by decide)
      readFloor := hid 10 (by decide)
      markerThreshold := hid 11 (by decide)
      minReads := hid 12 (by decide)
      confirmScore := hid 13 (by decide)
      margin := hid 14 (by decide)
      quietTime := hid 15 (by decide)
      orderTolerance := hid 16 (by decide)
      minTransit := hid 17 (by decide)
      calWindow := hid 18 (by decide)
      tNear := hid 19 (by decide)
      tFar := hid 20 (by decide)
      highMark := hid 21 (by decide)
      lowMark := hid 22 (by decide)
      flushTime := hid 23 (by decide)
      activityWindow := hid 24 (by decide)
      hotThreshold := hid 25 (by decide)
      classes := hclasses }

theorem paramRange_le (q : Params) (id : Nat) : (paramRange q id).1 ≤ (paramRange q id).2 := by
  unfold paramRange
  split <;> simp

theorem clampNat_mem {low high : Nat} (h : low ≤ high) (v : Nat) : low ≤ clampNat low high v ∧ clampNat low high v ≤ high := by
  unfold clampNat
  omega

/-- A parameter set to a value of its range leaves every parameter in range; a new high mark lowers the low mark with it (R157,
R169). -/
theorem Params.InRange.set {q : Params} (h : q.InRange) {id w : Nat}
    (hrange : (paramRange q id).1 ≤ w ∧ w ≤ (paramRange q id).2) (hmarker : id = 8 → w ≠ q.referenceClass)
    (hreference : id = 9 → w ≠ q.markerClass) : (q.set id w).InRange := by
  unfold Params.set
  split
  · exact { h with periodA := hrange }
  · exact { h with periodB := hrange }
  · exact { h with }
  · exact { h with }
  · exact { h with }
  · exact { h with markerClass := hrange, classes := hmarker rfl }
  · exact { h with referenceClass := hrange, classes := (hreference rfl).symm }
  · exact { h with readFloor := hrange }
  · exact { h with markerThreshold := hrange }
  · exact { h with minReads := hrange }
  · exact { h with confirmScore := hrange }
  · exact { h with margin := hrange }
  · exact { h with quietTime := hrange }
  · exact { h with orderTolerance := hrange }
  · exact { h with minTransit := hrange }
  · exact { h with calWindow := hrange }
  · exact { h with tNear := hrange }
  · exact { h with tFar := hrange }
  · exact { h with highMark := hrange, lowMark := ⟨Nat.zero_le _, Nat.min_le_right _ _⟩ }
  · exact { h with lowMark := hrange }
  · exact { h with flushTime := hrange }
  · exact { h with activityWindow := hrange }
  · exact { h with hotThreshold := hrange }
  · exact { h with }
  · exact h

theorem Params.InRange.set_clamp {q : Params} (h : q.InRange) {id v : Nat} (hclass : classClash q id v = false) :
    (q.set id (clampParam q id v)).InRange := by
  refine h.set (clampNat_mem (paramRange_le q id) v) ?_ ?_ <;> rintro rfl <;> simpa [classClash] using hclass

/-! ### The values of the phase -/

/-- The parameters, the sweep counts and generator B's run in their ranges (R169, R13, R6). -/
structure Phase.Ranged (p : Phase) : Prop where
  params : p.params.InRange
  countA : p.countA ≤ Config.sweepLimit
  countB : p.countB ≤ Config.sweepLimit
  haltB : p.mode = .interleaved → p.haltB = true

theorem Phase.Sweeps.ranged {p q : Phase} (h : p.Sweeps q) (hp : p.Ranged) : q.Ranged where
  params := h.params ▸ hp.params
  countA := h.limitA hp.haltB hp.countA
  countB := h.limitB hp.countB
  haltB := fun hmode => h.haltB (hp.haltB (h.mode ▸ hmode))

theorem Phase.Ended.ranged {p q : Phase} (h : p.Ended q) (hp : p.Ranged) : q.Ranged where
  params := h.params ▸ hp.params
  countA := h.countA ▸ hp.countA
  countB := h.countB ▸ hp.countB
  haltB := fun hmode => by
    by_cases hidle : p.state = .idle
    · obtain ⟨_, hB, _⟩ := h.idle hidle
      exact hB.trans (hp.haltB (h.mode ▸ hmode))
    · exact (h.busy hidle).2.1

theorem Phase.Received.ranged {p q : Phase} (h : p.Received q) (hp : p.Ranged) : q.Ranged := by
  induction h with
  | refl => exact hp
  | tail _ hstep ih =>
    obtain h | h := hstep
    · exact h.ranged ih
    · exact h.ranged ih

/-- The generators started in the mode in force (R6, R7). -/
theorem Phase.Ranged.begun {p : Phase} (h : p.Ranged) (state : PassState) {b : Bool}
    (hb : p.params.sweepMode = .interleaved → b = true) : (p.begun state b).Ranged :=
  ⟨h.params, h.countA, h.countB, hb⟩

theorem Phase.Row.ranged {c : Instr} {p q : Phase} (h : Phase.Row c p q) (hreset : State.reset.phase.Ranged) (hp : p.Ranged) :
    q.Ranged := by
  cases h with
  | sweeps h => exact h.ranged hp
  | received _ h => exact h.ranged hp
  | resets _ => exact hreset
  | opens _ _ => exact { hp with countA := Nat.zero_le _, countB := Nat.zero_le _ }
  | calibrates _ _ hb h => exact h.ranged { hp.begun .calibrating hb with countA := Nat.zero_le _, countB := Nat.zero_le _ }
  | scans _ hb h => exact h.ranged { hp.begun .scanning hb with }
  | tallies _ _ => exact { hp with }
  | passEnds _ => exact { hp with }
  | completes _ => exact { hp with haltB := fun _ => rfl }
  | loads _ _ => exact { hp with }
  | stores _ _ => exact { hp with }
  | clears _ => exact { hp with }
  | sets _ _ hclass h => exact h.ranged { hp with params := hp.params.set_clamp hclass }

/-! ### The calibration values -/

/-- Offset and gain in range (R36, R37). -/
def ScuPort.Fitted (c : ScuPort) : Prop := -128 ≤ c.offset ∧ c.offset ≤ 127 ∧ 256 ≤ c.gain ∧ c.gain ≤ 4095

/-- Every port's offset and gain in range. -/
def State.Fitted (s : State) : Prop := ∀ p : Port, s.scu.ports[p].Fitted

theorem ScuPort.Fitted.outcome {c : ScuPort} (h : c.Fitted) (k tNear tFar : Nat) : (c.outcome k tNear tFar).Fitted := by
  unfold ScuPort.outcome
  split
  · exact h
  split
  · split
    · exact h
    · refine ⟨?_, ?_, (clampNat_mem (by decide) _).1, (clampNat_mem (by decide) _).2⟩
      · exact le_max_left _ _
      · exact max_le (by decide) (min_le_left _ _)
  · exact h

theorem State.portOutcome_fitted (s : State) (p : Port) {c : ScuPort} (h : c.Fitted) : (s.portOutcome p c).Fitted := by
  unfold State.portOutcome
  split
  · exact h.outcome _ _ _
  · exact h

theorem State.applyOutcomes_fitted (h : s.Fitted) : s.applyOutcomes.Fitted := by
  refine forPorts_preserves State.Fitted _ (fun p t ht q => ?_) _ h
  change (modifyAt t.scu.ports p (s.portOutcome p))[q].Fitted
  rw [getElem_modifyAt]
  split
  case isTrue hpq => exact s.portOutcome_fitted p (ht q)
  case isFalse => exact ht q

theorem calibrationCompleteStep_fitted (h : s.Fitted) : (calibrationCompleteStep s).Fitted := by
  have happlied := State.applyOutcomes_fitted h
  unfold calibrationCompleteStep
  dsimp only
  generalize s.applyOutcomes = u at happlied ⊢
  split
  · exact happlied
  · exact h

theorem State.fitted_of_calibrationOf (h : s.Fitted) (heq : calibrationOf t.scu.ports = calibrationOf s.scu.ports) :
    t.Fitted := by
  intro p
  obtain ⟨hoffset, hgain⟩ := (calibrationOf_eq_iff _ _).mp heq p
  unfold ScuPort.Fitted
  rw [hoffset, hgain]
  exact h p

theorem exec_fitted (c : Instr) (hlive : exec c s = .next t) (hreset : State.reset.Fitted) (h : s.Fitted) : t.Fitted := by
  by_cases hon : c = .powerOn
  · subst hon
    cases hlive
    exact hreset
  by_cases hline : c = .resetLine
  · subst hline
    cases hlive
    exact hreset
  by_cases hrun : c = .calibrationComplete
  · subst hrun
    change live s calibrationCompleteStep = .next t at hlive
    unfold live at hlive
    cases hlive
    split
    · exact h
    · exact calibrationCompleteStep_fitted h
  · exact State.fitted_of_calibrationOf h (exec_calibration c s t hlive hon hline (fun hc => absurd hc hrun))

/-! ### Every step -/

/-- The facing table alone. -/
def facingScope : Scope := ⟨True, False, False, 0⟩

theorem State.valuesInv_iff (s : State) : s.ValuesInv ↔ s.phase.Ranged ∧ s.Fitted ∧ s.Bounded facingScope := by
  have hhalt : s.phase.haltB = true ↔ s.swg.genB.run = .stopped := by simp [State.phase]
  constructor
  · rintro ⟨hranges, hclasses, hfitted, hA, hB, hmode, hfacings⟩
    exact ⟨⟨(Params.inRange_iff _).mpr ⟨hranges, hclasses⟩, hA, hB, fun h => hhalt.mpr (hmode h)⟩, hfitted, fun _ => hfacings,
      False.elim, False.elim, False.elim, False.elim, False.elim, False.elim, False.elim, False.elim, False.elim⟩
  · rintro ⟨hranged, hfitted, hbounded⟩
    obtain ⟨hranges, hclasses⟩ := (Params.inRange_iff _).mp hranged.params
    exact ⟨hranges, hclasses, hfitted, hranged.countA, hranged.countB, fun h => hhalt.mp (hranged.haltB h),
      hbounded.facing trivial⟩

/-- Settles O55: the parameters change by SET-PARAM within their ranges, offset and gain by a completed run within their clamps,
the sweep counts below their limit, and the facing table by operations that keep each record sound. -/
theorem stepsKeepTheValuesInRange : Obligations.StepsKeepTheValuesInRange := by
  intro s t hs hstep
  rw [State.valuesInv_iff] at hs ⊢
  obtain ⟨hranged, hfitted, hbounded⟩ := hs
  obtain ⟨hresetRanged, hresetFitted, _⟩ := (State.valuesInv_iff _).mp reset_valuesInv
  obtain ⟨_, rfl⟩ | ⟨c, rest, _, hexec⟩ := step_cases hstep
  · refine ⟨(idle_sweeps s).ranged hranged, ?_, idle_bounded hbounded⟩
    rw [State.Fitted, idle_scu]
    exact hfitted
  · have hrow := exec_row c (s.setPending rest) t hexec
    rw [State.setPending_phase] at hrow
    exact ⟨hrow.ranged hresetRanged hranged, exec_fitted c hexec hresetFitted hfitted,
      exec_bounded c hexec hbounded (fun _ => id) (fun _ => id)⟩

end Sys2Proof.Machine
end

section
/-! SUPPORT. The front-end links, the port queues and the QHOLD line: what an arrival, a received frame and an asserted line do;
settles O6 to O9 and O11. -/

namespace Sys2Proof.Machine

variable {s t : State}

/-! ### Vectors and folds over the ports -/

theorem modifyAt_eq_set {α : Type} {k : Nat} (v : Vector α k) (i : Fin k) (f : α → α) : modifyAt v i f = v.set i (f v[i]) := rfl

theorem mem_allPorts (p : Port) : p ∈ allPorts := by
  revert p
  decide

theorem nodup_allPorts : allPorts.Nodup := by decide

/-- A fold over ports each of which has its own part of the state: each part changes once, by its own port. -/
theorem foldl_view {β : Type} (I : State → Prop) (view : Port → State → β) (f : Port → State → State) (G : Port → β → β)
    (hI : ∀ p u, I u → I (f p u)) (h : ∀ p u q, I u → view q (f p u) = if q = p then G q (view q u) else view q u)
    (l : List Port) (hl : l.Nodup) (s : State) (hs : I s) (q : Port) :
    view q (l.foldl (fun u p => f p u) s) = if q ∈ l then G q (view q s) else view q s := by
  induction l generalizing s with
  | nil => simp
  | cons p l ih =>
    obtain ⟨hp, hl⟩ := List.nodup_cons.mp hl
    rw [List.foldl_cons, ih hl _ (hI p s hs), h p s q hs]
    by_cases hq : q = p
    · subst hq
      simp [hp]
    · simp [hq]

theorem forPorts_view {β : Type} (I : State → Prop) (view : Port → State → β) (f : Port → State → State) (G : Port → β → β)
    (hI : ∀ p u, I u → I (f p u)) (h : ∀ p u q, I u → view q (f p u) = if q = p then G q (view q u) else view q u)
    (s : State) (hs : I s) (q : Port) : view q (s.forPorts f) = G q (view q s) := by
  have hview := foldl_view I view f G hI h allPorts nodup_allPorts s hs q
  rw [if_pos (mem_allPorts q)] at hview
  exact hview

/-! ### Arrivals (R19, R20) -/

theorem State.arrive_of_muted (e : ReadEntry) (h : s.piq[e.port].mode = .muted) : s.arrive e = s := by
  rw [State.arrive, if_pos h]

theorem State.portHeld_iff (s : State) (p : Port) : s.portHeld p = true ↔ s.qhold = true ∧ s.piq[p].follows = true := by
  simp [State.portHeld]

theorem State.arrive_of_held (e : ReadEntry) (h : s.piq[e.port].mode = .active) (hheld : s.portHeld e.port = true) :
    s.arrive e = s.modPiq e.port
      (fun q => { q with counters := { q.counters with heldDrops := sat32 q.counters.heldDrops 1 } }) := by
  rw [State.arrive, if_neg (by rw [h]; decide), if_pos hheld]

theorem State.arrive_of_full (e : ReadEntry) (h : s.piq[e.port].mode = .active) (hheld : s.portHeld e.port = false)
    (hfull : 32 ≤ s.piq[e.port].queue.length) : s.arrive e = s.overflowDrop e.port := by
  rw [State.arrive, if_neg (by rw [h]; decide), if_neg (by rw [hheld]; decide), show Config.portQueueCapacity = 32 from rfl, if_pos hfull]

theorem State.arrive_of_room (e : ReadEntry) (h : s.piq[e.port].mode = .active) (hheld : s.portHeld e.port = false)
    (hroom : s.piq[e.port].queue.length < 32) : s.arrive e = (s.wake e.port).modPiq e.port
      (fun q => { q with queue := q.queue ++ [e], counters := { q.counters with entered := sat32 q.counters.entered 1 } }) := by
  rw [State.arrive, if_neg (by rw [h]; decide), if_neg (by rw [hheld]; decide), show Config.portQueueCapacity = 32 from rfl,
    if_neg (Nat.not_le_of_lt hroom)]

theorem State.overflowDrop_eq (s : State) (p : Port) : s.overflowDrop p = { s with
    piq := s.piq.set p { s.piq[p] with
      episode := true
      counters := { s.piq[p].counters with overflowDrops := up32 s.piq[p].counters.overflowDrops } }
    ulp := if s.piq[p].episode then s.ulp else { s.ulp with alerts := insertAlert (.portOverflow p) s.ulp.alerts } } := by
  unfold State.overflowDrop
  dsimp only
  split <;> rfl

theorem State.wake_eq (s : State) (p : Port) :
    s.wake p = { s with spe := { s.spe with woken := if s.speWaits then some p else s.spe.woken } } := by
  unfold State.wake
  split <;> rfl

/-- Settles O7: the four branches of the arrival, in the order of R19. -/
theorem arrivalFollowsTheFourCases : Obligations.ArrivalFollowsTheFourCases := by
  intro s e
  refine ⟨fun hmuted => State.arrive_of_muted e hmuted, fun hactive hheld => ?_, fun hactive hfree hfull => ?_,
    fun hactive hfree hroom => ?_⟩
  · rw [State.arrive_of_held e hactive ((s.portHeld_iff _).mpr hheld)]
    rfl
  · rw [State.arrive_of_full e hactive (Bool.eq_false_iff.mpr (mt (s.portHeld_iff _).mp hfree)) hfull, State.overflowDrop_eq]
  · rw [State.arrive_of_room e hactive (Bool.eq_false_iff.mpr (mt (s.portHeld_iff _).mp hfree)) hroom, State.wake_eq]
    rfl

/-! ### The QHOLD line (R23, R24) -/

/-- What a queue reset makes of the port's own records (R22, R32, R76). -/
theorem State.emptyPort_eq (s : State) (p : Port) : s.emptyPort p = { s with
    piq := s.piq.set p { s.piq[p] with
      queue := [], episode := false
      counters := { s.piq[p].counters with purged := sat32 s.piq[p].counters.purged s.piq[p].queue.length } }
    scu := { s.scu with ports := s.scu.ports.set p { s.scu.ports[p] with carryOver := 0 } }
    spe := { s.spe with
      stale := s.spe.stale.set p 0, woken := if s.spe.woken = some p then none else s.spe.woken } } := by
  unfold State.emptyPort
  dsimp only
  split
  case isTrue h =>
    have h : s.spe.woken = some p := h
    rw [if_pos h]
    rfl
  case isFalse h =>
    have h : ¬s.spe.woken = some p := h
    rw [if_neg h]
    rfl

theorem State.disqualify_eq (s : State) (p : Port) : s.disqualify p = { s with
    pam := { s.pam with ports := if s.pam.window = none then s.pam.ports
      else s.pam.ports.set p { s.pam.ports[p] with disqualified := true } } } := by
  unfold State.disqualify
  split
  next h =>
    rw [if_pos h]
  next w h =>
    rw [if_neg (by rw [h]; exact Option.some_ne_none w)]
    rfl

/-- The records of one port in PIQ, SPE, SCU and PAM. -/
def State.portView (q : Port) (u : State) : PortQueue × Nat × ScuPort × PamPort :=
  (u.piq[q], u.spe.stale[q], u.scu.ports[q], u.pam.ports[q])

/-- The records of a port that becomes held, with PAM's window running or not. -/
def heldView (runs : Prop) [Decidable runs] : PortQueue × Nat × ScuPort × PamPort → PortQueue × Nat × ScuPort × PamPort
  | (a, b, c, d) =>
    if a.follows then
      ({ a with queue := [], episode := false, counters := { a.counters with purged := sat32 a.counters.purged a.queue.length } },
        0, { c with carryOver := 0 }, if runs then { d with disqualified := true } else d)
    else (a, b, c, d)

theorem heldView_of_follows (runs : Prop) [Decidable runs] (v : PortQueue × Nat × ScuPort × PamPort) (h : v.1.follows = true) :
    heldView runs v =
      ({ v.1 with
          queue := [], episode := false, counters := { v.1.counters with purged := sat32 v.1.counters.purged v.1.queue.length } },
        0, { v.2.2.1 with carryOver := 0 }, if runs then { v.2.2.2 with disqualified := true } else v.2.2.2) := by
  obtain ⟨a, b, c, d⟩ := v
  exact if_pos h

theorem heldView_of_not_follows (runs : Prop) [Decidable runs] (v : PortQueue × Nat × ScuPort × PamPort)
    (h : ¬v.1.follows = true) : heldView runs v = v := by
  obtain ⟨a, b, c, d⟩ := v
  exact if_neg h

theorem State.becomeHeld_eq (s : State) (p : Port) : s.becomeHeld p = { s with
    piq := (s.becomeHeld p).piq, pam := { s.pam with ports := (s.becomeHeld p).pam.ports }
    scu := { s.scu with ports := (s.becomeHeld p).scu.ports }
    spe := { s.spe with stale := (s.becomeHeld p).spe.stale, woken := (s.becomeHeld p).spe.woken } } := by
  unfold State.becomeHeld
  rw [State.disqualify_eq, State.emptyPort_eq]

theorem State.becomeHeld_window (s : State) (p : Port) : (s.becomeHeld p).pam.window = s.pam.window := by
  rw [State.becomeHeld_eq]

theorem State.portView_becomeHeld (s : State) (p q : Port) (hfollows : s.piq[p].follows = true) :
    (s.becomeHeld p).portView q = if q = p then heldView (s.pam.window ≠ none) (s.portView q) else s.portView q := by
  unfold State.becomeHeld
  rw [State.disqualify_eq, State.emptyPort_eq]
  unfold State.portView
  by_cases hq : q = p
  · subst hq
    have hfollows : s.piq[q.val].follows = true := hfollows
    by_cases hw : s.pam.window = none <;> simp [heldView, hw, hfollows]
  · have hne : p.val ≠ q.val := fun hv => hq (Fin.ext hv.symm)
    by_cases hw : s.pam.window = none <;> simp [hq, hw, hne]

theorem qholdAssertStep_of_free (h : s.qhold = false) :
    qholdAssertStep s = (s.setQhold true).forPorts (fun p t => if t.piq[p].follows then t.becomeHeld p else t) := by
  rw [qholdAssertStep, if_neg (by rw [h]; decide)]

/-- The QHOLD line makes each follows-global port held, and leaves the others. -/
theorem qholdAssertStep_portView (h : s.qhold = false) (q : Port) :
    (qholdAssertStep s).portView q = heldView (s.pam.window ≠ none) (s.portView q) := by
  have hview := forPorts_view (fun u => u.pam.window = s.pam.window) State.portView
    (fun p t => if t.piq[p].follows then t.becomeHeld p else t) (fun _ => heldView (s.pam.window ≠ none))
    (fun p u hu => by
      split
      · rw [State.becomeHeld_window]
        exact hu
      · exact hu)
    (fun p u q hu => by
      split
      case isTrue hf =>
        rw [State.portView_becomeHeld _ _ _ hf]
        simp only [hu]
      case isFalse hf =>
        split
        case isTrue hq =>
          subst hq
          exact (heldView_of_not_follows _ (u.portView q) hf).symm
        case isFalse => rfl) (s.setQhold true) rfl q
  rw [qholdAssertStep_of_free h]
  exact hview

/-- The QHOLD line touches the records of ports in PIQ, SPE, SCU and PAM, and nothing else. -/
theorem qholdAssertStep_form (h : s.qhold = false) : ∃ piq pam scu stale woken, qholdAssertStep s = { s with
    qhold := true, piq := piq, pam := { s.pam with ports := pam }, scu := { s.scu with ports := scu }
    spe := { s.spe with stale := stale, woken := woken } } := by
  rw [qholdAssertStep_of_free h]
  refine forPorts_preserves (fun u => ∃ piq pam scu stale woken, u = { s with
    qhold := true, piq := piq, pam := { s.pam with ports := pam }, scu := { s.scu with ports := scu }
    spe := { s.spe with stale := stale, woken := woken } }) _ (fun p u hu => ?_) _ ⟨_, _, _, _, _, rfl⟩
  obtain ⟨piq, pam, scu, stale, woken, rfl⟩ := hu
  split
  · exact ⟨_, _, _, _, _, State.becomeHeld_eq _ _⟩
  · exact ⟨_, _, _, _, _, rfl⟩

/-- Settles O6: the line makes each follows-global port held in turn, and each touches its own records alone. -/
theorem qholdLineEmptiesTheFollowingPorts : Obligations.QholdLineEmptiesTheFollowingPorts := by
  refine ⟨fun s hline hfree => ?_, fun s => ⟨fun hheld => ?_, rfl⟩⟩
  · have hexec : exec .qholdAssert s = .next (qholdAssertStep s) := by
      change Host.Outcome.next (if s.resetLine then s.setQhold true else qholdAssertStep s) = _
      rw [if_neg (by rw [hline]; decide)]
    obtain ⟨piq, pam, scu, stale, woken, hform⟩ := qholdAssertStep_form hfree
    refine ⟨_, hexec, by rw [hform], fun p => ?_, by rw [hform], by rw [hform]⟩
    have hview := qholdAssertStep_portView hfree p
    by_cases hf : s.piq[p].follows = true
    · obtain ⟨hpiq, hrest⟩ := Prod.mk.inj (hview.trans (heldView_of_follows _ _ hf))
      obtain ⟨hstale, hrest⟩ := Prod.mk.inj hrest
      obtain ⟨hscu, hpam⟩ := Prod.mk.inj hrest
      rw [if_pos hf, if_pos hf, if_pos hf, hpam]
      exact ⟨hpiq, hstale, hscu, if_congr (and_iff_right hf).symm rfl rfl⟩
    · obtain ⟨hpiq, hrest⟩ := Prod.mk.inj (hview.trans (heldView_of_not_follows _ _ hf))
      obtain ⟨hstale, hrest⟩ := Prod.mk.inj hrest
      obtain ⟨hscu, hpam⟩ := Prod.mk.inj hrest
      rw [if_neg hf, if_neg hf, if_neg hf, if_neg (fun h => hf h.1)]
      exact ⟨hpiq, hstale, hscu, hpam⟩
  · change Host.Outcome.next (if s.resetLine then s.setQhold true else qholdAssertStep s) = _
    have hset : s.setQhold true = s := by
      calc s.setQhold true = s.setQhold s.qhold := by rw [hheld]
        _ = s := rfl
    rw [hset, qholdAssertStep, if_pos hheld, ite_self]

/-! ### Sweep stamps (R16, R17) -/

theorem rebuildSweep_iff {latest echo n : Nat} (hecho : echo < 256) :
    rebuildSweep (some latest) echo = some n ↔ IsGreatest {m | m ≤ latest ∧ m % 256 = echo} n ∧ latest - n ≤ 3 := by
  have hdist : stampDistance latest echo = (latest % 256 + 256 - echo) % 256 := by
    rw [stampDistance, Nat.mod_eq_of_lt hecho]
  simp only [rebuildSweep]
  constructor
  · intro h
    split at h
    case isFalse => cases h
    case isTrue hnear =>
      obtain ⟨hle, hthree⟩ := hnear
      cases h
      refine ⟨⟨⟨Nat.sub_le _ _, ?_⟩, fun m hm => ?_⟩, ?_⟩
      · omega
      · obtain ⟨hmle, hmod⟩ := hm
        omega
      · omega
  · rintro ⟨⟨⟨hle, hmod⟩, _⟩, hthree⟩
    rw [if_pos (by omega)]
    congr 1
    omega

/-- Settles O11: the distance back to the echoed byte is its difference modulo 256. -/
theorem sweepStampsAreRebuilt : Obligations.SweepStampsAreRebuilt := by
  refine ⟨fun latest echo n hecho => rebuildSweep_iff hecho, fun _ => rfl, fun _ => rfl, fun n => ⟨?_, ?_⟩⟩
  · simp [stampOf]
  · simp [stampOf]

/-! ### Front-end links (R1 to R3) -/

/-- What received bytes leave of the state: the other links, this link's transmit side, and the blocks behind them. -/
structure State.ReceivedOn (l : Link) (s t : State) : Prop where
  others : ∀ k : Link, k ≠ l → t.links[k] = s.links[k]
  sending : t.links[l].sending = s.links[l].sending
  waiting : t.links[l].waiting = s.links[l].waiting
  sweepsSent : t.links[l].sweepsSent = s.links[l].sweepsSent
  superseded : t.links[l].superseded = s.links[l].superseded
  swg : t.swg = s.swg
  tst : t.tst = s.tst
  psc : t.psc = s.psc
  scu : t.scu = s.scu
  mfu : t.mfu = s.mfu
  params : t.params = s.params

theorem State.ReceivedOn.refl (l : Link) (s : State) : s.ReceivedOn l s :=
  ⟨fun _ _ => rfl, rfl, rfl, rfl, rfl, rfl, rfl, rfl, rfl, rfl, rfl⟩

theorem State.ReceivedOn.trans {l : Link} {s t u : State} (h : s.ReceivedOn l t) (k : t.ReceivedOn l u) : s.ReceivedOn l u where
  others := fun j hj => (k.others j hj).trans (h.others j hj)
  sending := k.sending.trans h.sending
  waiting := k.waiting.trans h.waiting
  sweepsSent := k.sweepsSent.trans h.sweepsSent
  superseded := k.superseded.trans h.superseded
  swg := k.swg.trans h.swg
  tst := k.tst.trans h.tst
  psc := k.psc.trans h.psc
  scu := k.scu.trans h.scu
  mfu := k.mfu.trans h.mfu
  params := k.params.trans h.params

/-- What touches no link and none of the blocks behind them. -/
theorem State.ReceivedOn.of_frame {l : Link} {s t : State} (hlinks : t.links = s.links) (hswg : t.swg = s.swg)
    (htst : t.tst = s.tst) (hpsc : t.psc = s.psc) (hscu : t.scu = s.scu) (hmfu : t.mfu = s.mfu) (hparams : t.params = s.params) :
    s.ReceivedOn l t := by
  constructor <;> simp [*]

/-- An update of the receive side of a link. -/
theorem State.modLink_receivedOn (l : Link) (s : State) (f : LinkState → LinkState) (hsending : ∀ k, (f k).sending = k.sending)
    (hwaiting : ∀ k, (f k).waiting = k.waiting) (hsent : ∀ k, (f k).sweepsSent = k.sweepsSent)
    (hsuperseded : ∀ k, (f k).superseded = k.superseded) : s.ReceivedOn l (s.modLink l f) := by
  have hsame : (s.modLink l f).links[l] = f s.links[l] := by
    change (modifyAt s.links l f)[l] = _
    rw [getElem_modifyAt, if_pos rfl]
  refine ⟨fun k hk => ?_, ?_, ?_, ?_, ?_, rfl, rfl, rfl, rfl, rfl, rfl⟩
  · change (modifyAt s.links l f)[k] = _
    rw [getElem_modifyAt, if_neg hk.symm]
  · rw [hsame]; exact hsending _
  · rw [hsame]; exact hwaiting _
  · rw [hsame]; exact hsent _
  · rw [hsame]; exact hsuperseded _

theorem State.judgeBad_receivedOn (l : Link) (s : State) : s.ReceivedOn l (s.judgeBad l) := by
  have hbad := State.modLink_receivedOn l s (fun k => { k with badFrames := sat32 k.badFrames 1, errorLatch := true })
    (fun _ => rfl) (fun _ => rfl) (fun _ => rfl) (fun _ => rfl)
  unfold State.judgeBad
  dsimp only
  split
  · exact hbad
  · exact hbad.trans (.of_frame rfl rfl rfl rfl rfl rfl rfl)

theorem State.arrive_receivedOn (l : Link) (s : State) (e : ReadEntry) : s.ReceivedOn l (s.arrive e) := by
  apply State.ReceivedOn.of_frame <;> simp

theorem State.judgeGood_receivedOn (l : Link) (s : State) (f : ReadFrame) : s.ReceivedOn l (s.judgeGood l f) := by
  unfold State.judgeGood
  split
  · exact State.modLink_receivedOn l s _ (fun _ => rfl) (fun _ => rfl) (fun _ => rfl) (fun _ => rfl)
  · refine State.ReceivedOn.trans ?_ (State.arrive_receivedOn l _ _)
    refine State.modLink_receivedOn l s _ ?_ ?_ ?_ ?_ <;> intro _ <;> rfl

theorem State.frontEndByte_receivedOn (l : Link) (s : State) (b : Byte) : s.ReceivedOn l (s.frontEndByte l b) := by
  have hrx (r : Rx) : s.ReceivedOn l (s.modLink l (fun k => { k with rx := r })) :=
    State.modLink_receivedOn l s _ (fun _ => rfl) (fun _ => rfl) (fun _ => rfl) (fun _ => rfl)
  unfold State.frontEndByte
  dsimp only
  split
  · exact hrx _
  · exact State.ReceivedOn.trans (hrx _) (State.judgeBad_receivedOn l _)
  · refine State.ReceivedOn.trans (hrx (rxByte readLengthOk s.links[l].rx b).1) ?_
    unfold State.judgeFrame
    split
    · exact State.judgeGood_receivedOn l _ _
    · exact State.judgeBad_receivedOn l _

/-- Settles O9, byte by byte. -/
theorem frontEndLinksAreIndependent : Obligations.FrontEndLinksAreIndependent := by
  intro l bytes s t h
  have hreceived : s.ReceivedOn l t := by
    change live s (frontEndFrameJudgedStep l bytes) = .next t at h
    unfold live at h
    cases h
    split
    · exact .refl l s
    · exact foldl_preserves (fun u => s.ReceivedOn l u) _ (fun u b hu => hu.trans (u.frontEndByte_receivedOn l b)) _ _
        (.refl l s)
  exact ⟨hreceived.others, hreceived.sending, hreceived.waiting, hreceived.sweepsSent, hreceived.superseded, hreceived.swg,
    hreceived.tst, hreceived.psc, hreceived.scu, hreceived.mfu, hreceived.params⟩

end Sys2Proof.Machine
end

section
/-! SUPPORT. The receiver of a link (R1, R148): what it makes of the bytes of a frame; settles O8, O44 and O47. -/

namespace Sys2Proof.Machine

variable {s t : State} {l : Link} {r : Rx}

/-! ### Bytes and numbers (Chapter 11) -/

@[simp] theorem length_bytesOf (k n : Nat) : (bytesOf k n).length = k := by
  induction k with
  | zero => rfl
  | succ k ih => simp [bytesOf, ih]

theorem foldl_bytes (l : List Byte) (a : Nat) :
    l.foldl (fun acc b => acc * 256 + b.toNat) a = a * 256 ^ l.length + natOf l := by
  induction l generalizing a with
  | nil => simp [natOf]
  | cons b l ih =>
    rw [natOf, List.foldl_cons, List.foldl_cons, ih, ih, List.length_cons, pow_succ]
    ring

theorem natOf_cons (b : Byte) (l : List Byte) : natOf (b :: l) = b.toNat * 256 ^ l.length + natOf l := by
  rw [natOf, List.foldl_cons, foldl_bytes]
  ring

/-- The bytes of a number spell its low digits, most significant byte first. -/
theorem natOf_bytesOf (k n : Nat) : natOf (bytesOf k n) = n % 256 ^ k := by
  induction k with
  | zero => simp [bytesOf, natOf, Nat.mod_one]
  | succ k ih =>
    have hdigits : n % (256 ^ k * 256) = n % 256 ^ k + 256 ^ k * (n / 256 ^ k % 256) := Nat.mod_mul
    rw [bytesOf, natOf_cons, ih, length_bytesOf, BitVec.toNat_ofNat, pow_succ 256 k, hdigits, Nat.mul_comm, Nat.add_comm]

theorem natOf_pair (hi lo : Byte) : natOf [hi, lo] = hi.toNat * 256 + lo.toNat := by simp [natOf]

/-! ### The receiver -/

theorem rxByte_of_ne (lengthOk : Nat → Bool) {b : Byte} (hb : b ≠ 0xA5#8) :
    rxByte lengthOk .hunting b = (.hunting, .none) := by
  rw [rxByte, if_neg hb]

theorem rxByte_sync (lengthOk : Nat → Bool) : rxByte lengthOk .hunting 0xA5#8 = (.receiving [], .none) := rfl

/-- A byte that leaves the frame unfinished. -/
theorem rxByte_collect {lengthOk : Nat → Bool} {got : List Byte} {b : Byte} {n : Nat} (hok : lengthOk n = true)
    (hn : 2 ≤ (got ++ [b]).length → rxLength (got ++ [b]) = n) (hlt : (got ++ [b]).length < n + 2) :
    rxByte lengthOk (.receiving got) b = (.receiving (got ++ [b]), .none) := by
  simp only [rxByte]
  split
  · rfl
  next htwo =>
    rw [hn (Nat.le_of_not_lt htwo), if_neg (by rw [hok]; decide), if_pos (by omega)]

/-- The byte that ends a frame. -/
theorem rxByte_end {lengthOk : Nat → Bool} {got : List Byte} {b : Byte} {n : Nat} (hok : lengthOk n = true)
    (hn : rxLength (got ++ [b]) = n) (hlen : (got ++ [b]).length = n + 2) :
    rxByte lengthOk (.receiving got) b = (.hunting, .frame (got ++ [b])) := by
  simp only [rxByte]
  rw [if_neg (by omega), hn, if_neg (by rw [hok]; decide), if_neg (by omega)]

/-- A length outside the link's range is bad as soon as it is in. -/
theorem rxByte_badLength {lengthOk : Nat → Bool} {hi lo : Byte} (hbad : lengthOk (natOf [hi, lo]) = false) :
    rxByte lengthOk (.receiving [hi]) lo = (.hunting, .badLength) := by
  simp only [rxByte, List.singleton_append, rxLength]
  rw [if_neg (by simp)]
  exact if_pos hbad

/-! ### Whatever takes bytes by the receiver -/

section Receiving

variable {σ : Type} {lengthOk : Nat → Bool} {F : σ → Byte → σ} {state : Rx → Nat → σ}

/-- Bytes outside a frame, none of them the sync byte, are discarded. -/
theorem foldl_hunting (hF : ∀ rx b rx' k, rxByte lengthOk rx b = (rx', .none) → F (state rx k) b = state rx' (k + 1))
    (l : List Byte) (hl : 0xA5#8 ∉ l) (k : Nat) : l.foldl F (state .hunting k) = state .hunting (k + l.length) := by
  induction l generalizing k with
  | nil => rfl
  | cons b l ih =>
    obtain ⟨hb, hl⟩ := List.ne_and_not_mem_of_not_mem_cons hl
    rw [List.foldl_cons, hF _ _ _ _ (rxByte_of_ne lengthOk hb.symm), ih hl, List.length_cons]
    congr 1
    omega

/-- The bytes of a frame before its last are collected. -/
theorem foldl_collect (hF : ∀ rx b rx' k, rxByte lengthOk rx b = (rx', .none) → F (state rx k) b = state rx' (k + 1)) {n : Nat}
    (hok : lengthOk n = true) (l got : List Byte) (k : Nat)
    (hn : 2 ≤ (got ++ l).length → natOf ((got ++ l).take 2) = n) (hlt : (got ++ l).length < n + 2) :
    l.foldl F (state (.receiving got) k) = state (.receiving (got ++ l)) (k + l.length) := by
  induction l generalizing got k with
  | nil => simp
  | cons b l ih =>
    have happend : got ++ b :: l = (got ++ [b]) ++ l := by simp
    have hprefix (htwo : 2 ≤ (got ++ [b]).length) : rxLength (got ++ [b]) = n := by
      rw [← hn (by rw [happend, List.length_append]; omega), happend, rxLength, List.take_append_of_le_length htwo]
    have hshort : (got ++ [b]).length < n + 2 := by
      rw [happend, List.length_append] at hlt
      omega
    rw [List.foldl_cons, hF _ _ _ _ (rxByte_collect hok hprefix hshort), ih _ _ (by rw [← happend]; exact hn)
      (by rw [← happend]; exact hlt), ← happend, List.length_cons]
    congr 1
    omega

/-- A whole frame: it comes down to the taking of its last byte. -/
theorem foldl_frame (hF : ∀ rx b rx' k, rxByte lengthOk rx b = (rx', .none) → F (state rx k) b = state rx' (k + 1)) {n : Nat}
    (hok : lengthOk n = true) (hlow : 1 ≤ n) (got : List Byte) (hn : natOf (got.take 2) = n) (hlen : got.length = n + 2) :
    ∃ init last, got = init ++ [last] ∧ rxByte lengthOk (.receiving init) last = (.hunting, .frame got) ∧
      (0xA5#8 :: got).foldl F (state .hunting 0) = F (state (.receiving init) (n + 2)) last := by
  obtain ⟨init, last, rfl⟩ : ∃ init last, got = init ++ [last] := by
    refine ⟨got.dropLast, got.getLast ?_, (List.dropLast_append_getLast _).symm⟩
    rintro rfl
    simp at hlen
  have hinit : init.length = n + 1 := by simpa using hlen
  have htake : (init ++ [last]).take 2 = init.take 2 := List.take_append_of_le_length (by omega)
  refine ⟨init, last, rfl, rxByte_end hok hn hlen, ?_⟩
  rw [List.foldl_cons, hF _ _ _ _ (rxByte_sync lengthOk), List.foldl_append,
    foldl_collect hF hok init [] 1 (fun _ => by rw [List.nil_append, ← htake]; exact hn) (by simp [hinit])]
  rw [List.nil_append, hinit, Nat.add_comm 1]
  rfl

end Receiving

/-! ### Frames read back (R192) -/

/-- The frame a receiver finds in the bytes built for a kind, a tag and a payload. -/
def wireBody (kind tag : Byte) (payload : List Byte) : List Byte :=
  bytesOf 2 (payload.length + 4) ++ kind :: tag :: payload

def wireFrame (kind tag : Byte) (payload : List Byte) : List Byte :=
  wireBody kind tag payload ++ bytesOf 2 (crc16 (wireBody kind tag payload)).toNat

theorem wireBytes_eq (kind tag : Byte) (payload : List Byte) :
    wireBytes kind tag payload = 0xA5#8 :: wireFrame kind tag payload := rfl

@[simp] theorem length_wireBody (kind tag : Byte) (payload : List Byte) :
    (wireBody kind tag payload).length = payload.length + 4 := by
  simp [wireBody]
  omega

@[simp] theorem length_wireFrame (kind tag : Byte) (payload : List Byte) :
    (wireFrame kind tag payload).length = payload.length + 4 + 2 := by
  simp [wireFrame]

theorem natOf_take_wireFrame (kind tag : Byte) (payload : List Byte) (h : payload.length ≤ 1196) :
    natOf ((wireFrame kind tag payload).take 2) = payload.length + 4 := by
  have htake : (wireFrame kind tag payload).take 2 = bytesOf 2 (payload.length + 4) := by
    rw [wireFrame, wireBody, List.append_assoc, List.take_left' (length_bytesOf _ _)]
  rw [htake, natOf_bytesOf, Nat.mod_eq_of_lt (by omega)]

theorem crcMatches_wireFrame (kind tag : Byte) (payload : List Byte) : crcMatches (wireFrame kind tag payload) = true := by
  have hlen : (wireFrame kind tag payload).length - 2 = (wireBody kind tag payload).length := by simp
  rw [crcMatches, decide_eq_true_iff, hlen, wireFrame, List.drop_left, List.take_left, natOf_bytesOf]
  exact Nat.mod_eq_of_lt (BitVec.isLt _)

theorem framePayload_wireFrame (kind tag : Byte) (payload : List Byte) :
    framePayload (wireFrame kind tag payload) = payload := by
  simp [framePayload, wireFrame, wireBody, bytesOf]

/-- Settles O47: the bytes before the last are collected, and the last ends the frame. -/
theorem framesReadBackAsTheyWereBuilt : Obligations.FramesReadBackAsTheyWereBuilt := by
  refine ⟨fun k n => ⟨length_bytesOf k n, natOf_bytesOf k n⟩, fun kind tag payload lengthOk hlen hok => ?_⟩
  refine ⟨?_, wireFrame kind tag payload, ?_, crcMatches_wireFrame _ _ _, rfl, rfl, framePayload_wireFrame _ _ _⟩
  · rw [wireBytes_eq, List.length_cons, length_wireFrame]
  · obtain ⟨init, last, hgot, hend, hfold⟩ := foldl_frame (lengthOk := lengthOk)
      (F := fun (r : Rx × List RxEvent) (b : Byte) => ((rxByte lengthOk r.1 b).1, r.2 ++ [(rxByte lengthOk r.1 b).2]))
      (state := fun rx k => (rx, List.replicate k .none))
      (fun rx b rx' k h => by rw [h, List.replicate_succ']) hok (by omega) (wireFrame kind tag payload)
      (natOf_take_wireFrame kind tag payload hlen) (length_wireFrame kind tag payload)
    rw [wireBytes_eq]
    refine hfold.trans ?_
    rw [hend]

/-! ### Front-end frames (R1 to R3) -/

/-- Link `l` with its receiver in state `rx`. -/
def State.withRx (s : State) (l : Link) (rx : Rx) : State := s.modLink l (fun k => { k with rx := rx })

theorem modifyAt_modifyAt {α : Type} {k : Nat} (v : Vector α k) (i : Fin k) (f g : α → α) :
    modifyAt (modifyAt v i f) i g = modifyAt v i (fun x => g (f x)) := by
  refine Vector.ext (fun j hj => ?_)
  have hat := getElem_modifyAt (modifyAt v i f) i ⟨j, hj⟩ g
  have hat' := getElem_modifyAt v i ⟨j, hj⟩ f
  have hboth := getElem_modifyAt v i ⟨j, hj⟩ (fun x => g (f x))
  simp only [Fin.getElem_fin] at hat hat' hboth
  rw [hat, hat', hboth]
  split <;> rfl

theorem modifyAt_self {α : Type} {k : Nat} (v : Vector α k) (i : Fin k) {f : α → α} (h : f v[i] = v[i]) :
    modifyAt v i f = v := by
  refine Vector.ext (fun j hj => ?_)
  have hat := getElem_modifyAt v i ⟨j, hj⟩ f
  simp only [Fin.getElem_fin] at hat
  rw [hat]
  split
  case isTrue hij => subst hij; exact h
  case isFalse => rfl

theorem State.withRx_withRx (s : State) (l : Link) (r q : Rx) : (s.withRx l r).withRx l q = s.withRx l q := by
  unfold State.withRx State.modLink
  rw [State.setLinks_links, modifyAt_modifyAt]
  rfl

theorem State.withRx_self (h : s.links[l].rx = r) : s.withRx l r = s := by
  subst h
  unfold State.withRx State.modLink
  rw [modifyAt_self _ _ rfl]
  rfl

theorem State.rx_withRx (s : State) (l : Link) (r : Rx) : (s.withRx l r).links[l].rx = r := by
  change (modifyAt s.links l _)[l].rx = r
  rw [getElem_modifyAt, if_pos rfl]

/-- A byte that ends nothing moves the receiver alone. -/
theorem State.frontEndByte_of_none {l : Link} {b : Byte} {r q : Rx} (h : rxByte readLengthOk r b = (q, .none)) :
    (s.withRx l r).frontEndByte l b = s.withRx l q := by
  unfold State.frontEndByte
  rw [State.rx_withRx, h]
  exact State.withRx_withRx s l r q

theorem State.frontEndByte_of_frame {l : Link} {b : Byte} {r : Rx} {got : List Byte}
    (h : rxByte readLengthOk r b = (.hunting, .frame got)) (hunts : s.links[l].rx = .hunting) :
    (s.withRx l r).frontEndByte l b = s.judgeFrame l got := by
  unfold State.frontEndByte
  rw [State.rx_withRx, h]
  change ((s.withRx l r).withRx l .hunting).judgeFrame l got = _
  rw [State.withRx_withRx, State.withRx_self hunts]

theorem State.frontEndByte_of_badLength {l : Link} {b : Byte} {r : Rx}
    (h : rxByte readLengthOk r b = (.hunting, .badLength)) (hunts : s.links[l].rx = .hunting) :
    (s.withRx l r).frontEndByte l b = s.judgeBad l := by
  unfold State.frontEndByte
  rw [State.rx_withRx, h]
  change ((s.withRx l r).withRx l .hunting).judgeBad l = _
  rw [State.withRx_withRx, State.withRx_self hunts]

theorem exec_frontEndFrameJudged (h : s.resetLine = false) (l : Link) (bytes : List Byte) :
    exec (.frontEndFrameJudged l bytes) s = .next (bytes.foldl (State.frontEndByte l) s) :=
  live_of_released h (frontEndFrameJudgedStep l bytes)

/-- The fields of a READ frame, read where section 11.2 puts them. -/
theorem readFields_framePayload {got : List Byte} (hlen : got.length = 21) :
    readFields (framePayload got) = ⟨⟨(got.getD 4 0).toNat % 4, Nat.mod_lt _ (by decide)⟩, (got.getD 4 0).getLsbD 6,
      (got.getD 4 0).getLsbD 7, BitVec.ofNat 96 (natOf ((got.drop 5).take 12)), (got.getD 17 0).toNat, (got.getD 18 0).toNat⟩ := by
  have hat (k : Nat) (hk : k < 15) : (framePayload got).getD k 0 = got.getD (k + 4) 0 := by
    simp only [framePayload, hlen, List.getD_eq_getElem?_getD]
    rw [List.getElem?_take_of_lt hk, List.getElem?_drop, Nat.add_comm]
  have htag : ((framePayload got).drop 1).take 12 = (got.drop 5).take 12 := by
    simp only [framePayload, hlen, List.drop_take, List.drop_drop, List.take_take]
    rfl
  rw [readFields, hat 13 (by decide), hat 14 (by decide), htag]
  simp only [hat 0 (by decide)]
  rfl

/-- A frame of length 19 comes down to its judgement. -/
theorem exec_frontEndFrame (h : s.resetLine = false) {l : Link} (hunts : s.links[l].rx = .hunting) {got : List Byte}
    (hlen : got.length = 21) (hn : natOf (got.take 2) = 19) :
    exec (.frontEndFrameJudged l (0xA5#8 :: got)) s = .next (s.judgeFrame l got) := by
  obtain ⟨init, last, _, hend, hfold⟩ := foldl_frame (lengthOk := readLengthOk) (F := State.frontEndByte l)
    (state := fun rx _ => s.withRx l rx) (fun _ _ _ _ hrx => State.frontEndByte_of_none hrx) (n := 19) rfl (by decide) got hn hlen
  rw [exec_frontEndFrameJudged h]
  have hself : s.withRx l .hunting = s := State.withRx_self hunts
  simp only [hself] at hfold
  rw [hfold, State.frontEndByte_of_frame hend hunts]

theorem State.judgeBad_eq (s : State) (l : Link) : s.judgeBad l = { s with
    links := s.links.set l { s.links[l] with badFrames := up32 s.links[l].badFrames, errorLatch := true }
    ulp := if s.links[l].errorLatch then s.ulp else { s.ulp with alerts := insertAlert (.linkError l) s.ulp.alerts } } := by
  unfold State.judgeBad
  dsimp only
  split <;> rfl

/-- Settles O8: hunting discards, a wrong length is bad at once, and a whole frame is judged by its kind and CRC. -/
theorem frontEndFramesAreJudged : Obligations.FrontEndFramesAreJudged := by
  intro l s hline hunts
  have hself : s.withRx l .hunting = s := State.withRx_self hunts
  refine ⟨fun bytes hbytes => ?_, fun hi lo hne => ?_, fun got hlen hn => ?_⟩
  · have hfold := foldl_hunting (lengthOk := readLengthOk) (F := State.frontEndByte l) (state := fun rx _ => s.withRx l rx)
      (fun _ _ _ _ hrx => State.frontEndByte_of_none hrx) bytes hbytes 0
    simp only [hself] at hfold
    rw [exec_frontEndFrameJudged hline, hfold]
  · have hbad : readLengthOk (natOf [hi, lo]) = false := by
      rw [natOf_pair, readLengthOk]
      simpa using hne
    rw [exec_frontEndFrameJudged hline, List.foldl_cons, List.foldl_cons, List.foldl_cons, List.foldl_nil]
    nth_rewrite 1 [← hself]
    rw [State.frontEndByte_of_none (rxByte_sync _), State.frontEndByte_of_none (q := .receiving [hi]) rfl,
      State.frontEndByte_of_badLength (rxByte_badLength hbad) hunts, State.judgeBad_eq]
  · have hsound : (frameKind got = kindRead ∧ crcMatches got = true) ↔
        (got.getD 2 0 = 0x10#8 ∧ natOf (got.drop 19) = (crc16 (got.take 19)).toNat) := by
      rw [crcMatches, decide_eq_true_iff, hlen]
      rfl
    refine ⟨fun hbad => ?_, fun hgood hsource => ?_, fun hgood hsource => ?_⟩
    · rw [exec_frontEndFrame hline hunts hlen hn, State.judgeFrame, if_neg (mt hsound.mp hbad), State.judgeBad_eq]
    · rw [exec_frontEndFrame hline hunts hlen hn, State.judgeFrame, if_pos (hsound.mpr hgood), State.judgeGood, hsource]
      rw [State.readEntry, readFields_framePayload hlen]
      rfl
    · rw [exec_frontEndFrame hline hunts hlen hn, State.judgeFrame, if_pos (hsound.mpr hgood), State.judgeGood, hsource]
      rfl

/-! ### Uplink frames (R148, R149, R152) -/

/-- The uplink receiver in state `rx`. -/
def State.withUpRx (s : State) (rx : Rx) : State := s.setUlp { s.ulp with rx := rx }

theorem State.withUpRx_self (h : s.ulp.rx = .hunting) : s.withUpRx .hunting = s := by
  rw [State.withUpRx, ← h]
  rfl

theorem State.uplinkByte_of_none {b : Byte} {r q : Rx} (h : rxByte uplinkLengthOk r b = (q, .none)) :
    (s.withUpRx r).uplinkByte b = s.withUpRx q := by
  have hrx : (s.withUpRx r).ulp.rx = r := rfl
  unfold State.uplinkByte
  rw [hrx, h]
  rfl

theorem State.uplinkByte_of_frame {b : Byte} {r : Rx} {got : List Byte} (h : rxByte uplinkLengthOk r b = (.hunting, .frame got))
    (hunts : s.ulp.rx = .hunting) : (s.withUpRx r).uplinkByte b = s.judgeUplink got := by
  have hrx : (s.withUpRx r).ulp.rx = r := rfl
  unfold State.uplinkByte
  rw [hrx, h]
  change (s.withUpRx .hunting).judgeUplink got = _
  rw [State.withUpRx_self hunts]

theorem State.uplinkByte_of_badLength {b : Byte} {r : Rx} (h : rxByte uplinkLengthOk r b = (.hunting, .badLength))
    (hunts : s.ulp.rx = .hunting) :
    (s.withUpRx r).uplinkByte b = s.countUlp (fun c => { c with badLength := sat32 c.badLength 1 }) := by
  have hrx : (s.withUpRx r).ulp.rx = r := rfl
  unfold State.uplinkByte
  rw [hrx, h]
  change (s.withUpRx .hunting).countUlp _ = _
  rw [State.withUpRx_self hunts]

theorem exec_uplinkFrameJudged (h : s.resetLine = false) (bytes : List Byte) :
    exec (.uplinkFrameJudged bytes) s = .next (bytes.foldl State.uplinkByte s) :=
  live_of_released h (uplinkFrameJudgedStep bytes)

theorem uplinkLengthOk_iff (n : Nat) : uplinkLengthOk n = true ↔ 4 ≤ n ∧ n ≤ 1200 := by
  simp [uplinkLengthOk]

/-- A frame of a length in range comes down to its judgement. -/
theorem exec_uplinkFrame (h : s.resetLine = false) (hunts : s.ulp.rx = .hunting) {n : Nat} (hlow : 4 ≤ n) (hhigh : n ≤ 1200)
    {got : List Byte} (hlen : got.length = n + 2) (hn : natOf (got.take 2) = n) :
    exec (.uplinkFrameJudged (0xA5#8 :: got)) s = .next (s.judgeUplink got) := by
  obtain ⟨init, last, _, hend, hfold⟩ := foldl_frame (lengthOk := uplinkLengthOk) (F := State.uplinkByte)
    (state := fun rx _ => s.withUpRx rx) (fun _ _ _ _ hrx => State.uplinkByte_of_none hrx)
    ((uplinkLengthOk_iff n).mpr ⟨hlow, hhigh⟩) (by omega) got hn hlen
  rw [exec_uplinkFrameJudged h]
  have hself : s.withUpRx .hunting = s := State.withUpRx_self hunts
  simp only [hself] at hfold
  rw [hfold, State.uplinkByte_of_frame hend hunts]

section Sorting

variable {f : MgmtFrame}

theorem State.sortFrame_abort (h : f.kind = kindAbortPass) : s.sortFrame f = s.abort f.tag := if_pos h

theorem State.sortFrame_restart (h : f.kind = kindRestart) : s.sortFrame f = s.restart f.tag := by
  rw [State.sortFrame, if_neg (by rw [h]; decide), if_pos h]

theorem State.sortFrame_pause (h : f.kind = kindPause) : s.sortFrame f = pauseStep s := by
  rw [State.sortFrame, if_neg (by rw [h]; decide), if_neg (by rw [h]; decide), if_pos h]

theorem State.sortFrame_resume (h : f.kind = kindResume) : s.sortFrame f = resumeStep s := by
  rw [State.sortFrame, if_neg (by rw [h]; decide), if_neg (by rw [h]; decide), if_neg (by rw [h]; decide), if_pos h]

theorem State.sortFrame_queued (habort : f.kind ≠ kindAbortPass) (hrestart : f.kind ≠ kindRestart)
    (hpause : f.kind ≠ kindPause) (hresume : f.kind ≠ kindResume) : s.sortFrame f = s.queueFrame f := by
  rw [State.sortFrame, if_neg habort, if_neg hrestart, if_neg hpause, if_neg hresume]

end Sorting

/-- Settles O44: hunting discards, a wrong length is bad at once, and a whole frame is judged by its CRC and sorted by its
kind. -/
theorem uplinkFramesAreJudged : Obligations.UplinkFramesAreJudged := by
  intro s hline hunts
  have hself : s.withUpRx .hunting = s := State.withUpRx_self hunts
  refine ⟨fun bytes hbytes => ?_, fun hi lo hrange => ?_, fun n got hlow hhigh hn hlen => ?_⟩
  · have hfold := foldl_hunting (lengthOk := uplinkLengthOk) (F := State.uplinkByte) (state := fun rx _ => s.withUpRx rx)
      (fun _ _ _ _ hrx => State.uplinkByte_of_none hrx) bytes hbytes 0
    simp only [hself] at hfold
    rw [exec_uplinkFrameJudged hline, hfold]
  · have hbad : uplinkLengthOk (natOf [hi, lo]) = false := by
      rw [natOf_pair, Bool.eq_false_iff, ne_eq, uplinkLengthOk_iff]
      omega
    rw [exec_uplinkFrameJudged hline, List.foldl_cons, List.foldl_cons, List.foldl_cons, List.foldl_nil]
    nth_rewrite 1 [← hself]
    rw [State.uplinkByte_of_none (rxByte_sync _), State.uplinkByte_of_none (q := .receiving [hi]) rfl,
      State.uplinkByte_of_badLength (rxByte_badLength hbad) hunts]
    rfl
  · have hsound : crcMatches got = true ↔ natOf (got.drop n) = (crc16 (got.take n)).toNat := by
      rw [crcMatches, decide_eq_true_iff, hlen, Nat.add_sub_cancel]
    have hpayload : framePayload got = (got.drop 4).take (n - 4) := by
      rw [framePayload, hlen]
      rfl
    have hjudged : natOf (got.drop n) = (crc16 (got.take n)).toNat → s.judgeUplink got =
        (s.countUlp (fun c => { c with goodFrames := sat32 c.goodFrames 1 })).sortFrame
          ⟨got.getD 2 0, got.getD 3 0, (got.drop 4).take (n - 4)⟩ := by
      intro hcrc
      rw [State.judgeUplink, if_pos (hsound.mpr hcrc), hpayload]
      rfl
    have hlive (f : State → State) : live (s.countUlp (fun c => { c with goodFrames := sat32 c.goodFrames 1 })) f =
        .next (f (s.countUlp (fun c => { c with goodFrames := sat32 c.goodFrames 1 }))) := by
      refine live_of_released ?_ f
      exact hline
    rw [exec_uplinkFrame hline hunts hlow hhigh hlen hn]
    refine ⟨fun hnot => ?_, fun hcrc hkind => ?_, fun hcrc hkind => ?_, fun hcrc hkind => ?_, fun hcrc hkind => ?_,
      fun hcrc hkind => ?_⟩
    · rw [State.judgeUplink, if_neg (mt hsound.mp hnot)]
      rfl
    · rw [hjudged hcrc, State.sortFrame_abort hkind]
      exact (hlive (State.abort · (got.getD 3 0))).symm
    · rw [hjudged hcrc, State.sortFrame_restart hkind]
      exact (hlive (State.restart · (got.getD 3 0))).symm
    · rw [hjudged hcrc, State.sortFrame_pause hkind]
      exact (hlive pauseStep).symm
    · rw [hjudged hcrc, State.sortFrame_resume hkind]
      exact (hlive resumeStep).symm
    · simp only [List.mem_cons, List.not_mem_nil, or_false, not_or] at hkind
      obtain ⟨habort, hrestart, hpause, hresume⟩ := hkind
      rw [hjudged hcrc, State.sortFrame_queued habort hrestart hpause hresume, State.queueFrame]
      split
      case isTrue hroom => exact congrArg _ (if_pos hroom).symm
      case isFalse hroom => exact congrArg _ (if_neg hroom).symm

end Sys2Proof.Machine
end

section
/-! SUPPORT. Exchanges: what the dispatch of a frame at the head of the queue comes down to (R150, R151), and the operations over
all ports; settles O39 and O50. -/

namespace Sys2Proof.Machine

variable {s t : State} {f : MgmtFrame} {rest : List MgmtFrame}

/-! ### Operations over all ports -/

theorem getElem_ofFn_port {α : Type} (g : Port → α) (p : Port) : (Vector.ofFn g)[p] = g p := by simp

theorem ofFn_getElem_port {α : Type} (v : Vector α 16) : Vector.ofFn (fun p : Port => v[p]) = v := by
  refine Vector.ext (fun i hi => ?_)
  simp

/-- One place of a vector that is written down by its places. -/
theorem ofFn_set_update {α : Type} (g : Port → Bool → α) (v : Port → Bool) (p : Port) {x : α} (hx : x = g p true) :
    (Vector.ofFn (fun q => g q (v q))).set p x = Vector.ofFn (fun q => g q (Function.update v p true q)) := by
  subst hx
  refine Vector.ext (fun i hi => ?_)
  rw [Vector.getElem_set, Vector.getElem_ofFn, Vector.getElem_ofFn]
  by_cases h : p.val = i
  · subst h
    simp
  · have hne : (⟨i, hi⟩ : Port) ≠ p := fun hp => h (congrArg Fin.val hp).symm
    simp [h, Function.update_of_ne hne]

theorem foldl_visited (build : (Port → Bool) → State) (f : Port → State → State)
    (h : ∀ p v, v p = false → f p (build v) = build (Function.update v p true)) (l : List Port) (hl : l.Nodup) (v : Port → Bool)
    (hv : ∀ p ∈ l, v p = false) : l.foldl (fun u p => f p u) (build v) = build (fun p => v p || decide (p ∈ l)) := by
  induction l generalizing v with
  | nil => simp
  | cons p l ih =>
    obtain ⟨hp, hl⟩ := List.nodup_cons.mp hl
    rw [List.foldl_cons, h p v (hv p List.mem_cons_self), ih hl]
    · congr 1
      funext q
      by_cases hq : q = p
      · subst hq
        simp
      · simp [hq]
    · intro q hq
      have hne : q ≠ p := fun he => hp (he ▸ hq)
      rw [Function.update_of_ne hne]
      exact hv q (List.mem_cons_of_mem _ hq)

/-- An operation over all ports, given by the state after some of them have been visited. -/
theorem forPorts_visited (build : (Port → Bool) → State) (f : Port → State → State)
    (h : ∀ p v, v p = false → f p (build v) = build (Function.update v p true)) :
    (build (fun _ => false)).forPorts f = build (fun _ => true) := by
  have hfold := foldl_visited build f h allPorts nodup_allPorts (fun _ => false) (fun _ _ => rfl)
  refine hfold.trans ?_
  congr 1
  funext p
  simp [mem_allPorts]

theorem mapAll_eq_ofFn {α β : Type} (g : α → β) (v : Vector α 16) : mapAll g v = Vector.ofFn (fun p : Port => g v[p]) := by
  refine Vector.ext (fun i hi => ?_)
  have hat := getElem_mapAll v g ⟨i, hi⟩
  simpa using hat

/-! ### Dispatch (R150, R151) -/

theorem State.popMgmt_eq (h : s.ulp.mgmt = f :: rest) : s.popMgmt = s.withMgmt rest := by
  rw [State.popMgmt, h]
  rfl

/-- A frame at the head that is not held back is dispatched by the step that is its own. -/
theorem State.dispatch_of_atHead (h : s.AtHead f rest) (hheld : s.heldBack f = false) {mine : MgmtFrame → Bool}
    (hmine : mine f = true) (act : MgmtFrame → State → State) : s.dispatch mine act = act f (s.withMgmt rest) := by
  obtain ⟨_, hmgmt, hhand, hroom⟩ := h
  have hdispatchable : s.dispatchable = some f := by
    rw [State.dispatchable, hmgmt]
    exact if_pos ⟨hhand, hroom, hheld⟩
  rw [State.dispatch, hdispatchable, ← State.popMgmt_eq hmgmt]
  exact if_pos hmine

theorem State.dispatch_of_heldBack (h : s.AtHead f rest) (hheld : s.heldBack f = true) (mine : MgmtFrame → Bool)
    (act : MgmtFrame → State → State) : s.dispatch mine act = s := by
  obtain ⟨_, hmgmt, _, _⟩ := h
  have hdispatchable : s.dispatchable = none := by
    rw [State.dispatchable, hmgmt]
    exact if_neg (fun hcond => by rw [hheld] at hcond; exact absurd hcond.2.2 (by decide))
  rw [State.dispatch, hdispatchable]

theorem live_dispatch (h : s.AtHead f rest) (hheld : s.heldBack f = false) {mine : MgmtFrame → Bool} (hmine : mine f = true)
    (act : MgmtFrame → State → State) : live s (State.dispatch · mine act) = .next (act f (s.withMgmt rest)) := by
  rw [live_of_released h.1, State.dispatch_of_atHead h hheld hmine]

theorem live_dispatch_of_heldBack (h : s.AtHead f rest) (hheld : s.heldBack f = true) (mine : MgmtFrame → Bool)
    (act : MgmtFrame → State → State) : live s (State.dispatch · mine act) = .next s := by
  rw [live_of_released h.1, State.dispatch_of_heldBack h hheld]

theorem ofKind_iff (k : Byte) (f : MgmtFrame) : ofKind k f = true ↔ f.kind = k := beq_iff_eq

/-- A reply finds room while the queue holds fewer than 8 (R151). -/
theorem State.reply_of_room (h : s.ulp.replies.length < 8) (f : MgmtFrame) (r : ResultCode) (payload : List Byte) :
    s.reply f r payload = s.withReply f r payload := by
  rw [State.reply, State.queueReply]
  exact if_pos h

/-- The reply to a dispatched frame of an exchange that changes nothing else. -/
theorem State.reply_withMgmt (h : s.AtHead f rest) (r : ResultCode) (payload : List Byte) :
    (s.withMgmt rest).reply f r payload = s.answered f rest r payload :=
  State.reply_of_room (s := s.withMgmt rest) h.2.2.2 f r payload

theorem State.refuse_withMgmt (h : s.AtHead f rest) (r : ResultCode) :
    (s.withMgmt rest).refuse f r = s.answered f rest r [] := State.reply_withMgmt h r []

theorem State.heldBack_of_opening (s : State) (h : f.kind = kindOpenPass ∨ f.kind = kindRehearse) :
    s.heldBack f = true ↔ s.psc.state = .settling ∨ s.psc.state = .tallying ∨ 512 ≤ s.ulp.reports.length := by
  unfold State.heldBack
  simp only [h, if_true, Bool.or_eq_true, beq_iff_eq, decide_eq_true_eq, or_assoc]
  exact Iff.rfl

theorem State.heldBack_of_calibrate (s : State) (h : f.kind = kindCalibrate) :
    s.heldBack f = true ↔ 512 ≤ s.ulp.reports.length := by
  unfold State.heldBack
  simp only [h, if_neg (by decide : ¬(kindCalibrate = kindOpenPass ∨ kindCalibrate = kindRehearse)), if_true, decide_eq_true_eq]
  exact Iff.rfl

/-- No other kind is held back. -/
theorem State.heldBack_of_other (s : State) (hopen : f.kind ≠ kindOpenPass) (hrehearse : f.kind ≠ kindRehearse)
    (hcalibrate : f.kind ≠ kindCalibrate) : s.heldBack f = false := by
  unfold State.heldBack
  rw [if_neg (not_or_intro hopen hrehearse), if_neg hcalibrate]

/-! ### A pass opened (R128, R129, R179) -/

theorem State.markStale_eq (s : State) : s.markStale =
    { s with spe := { s.spe with stale := Vector.ofFn (fun p : Port => s.piq[p].queue.length) } } := by
  have hvisited := forPorts_visited
    (fun v => { s with spe := { s.spe with
      stale := Vector.ofFn (fun p => if v p then s.piq[p].queue.length else s.spe.stale[p]) } })
    (fun p t => t.setStale p s.piq[p].queue.length) (fun p v _ => by
      have hset := ofFn_set_update (fun q b => if b then s.piq[q].queue.length else s.spe.stale[q]) v p
        (x := s.piq[p].queue.length) rfl
      unfold State.setStale
      rw [modifyAt_eq_set, hset]
      rfl)
  simp only [Bool.false_eq_true, if_false, if_true, ofFn_getElem_port] at hvisited
  exact hvisited

theorem State.setUpPass_eq (s : State) (source : PassSource) (verbose : Bool) (pace displacement : Option Nat) :
    s.setUpPass source verbose pace displacement = s.preparing source verbose pace displacement := by
  have hpiq : mapAll (fun q : PortQueue => { q with counters := PiqCounters.zero }) s.piq =
      Vector.ofFn (fun p : Port => { s.piq[p] with counters := ⟨0, 0, 0, 0⟩ }) := mapAll_eq_ofFn _ _
  have hstale : (fun p : Port => (((s.clearSweeps).clearPassCounters).clearSpe).piq[p].queue.length) =
      fun p => s.piq[p].queue.length := by
    funext p
    change (mapAll (fun q : PortQueue => { q with counters := PiqCounters.zero }) s.piq)[p].queue.length = _
    rw [getElem_mapAll]
  unfold State.setUpPass
  dsimp only
  rw [State.markStale_eq, hstale]
  simp only [State.preparing, ← hpiq, State.clearSweeps, State.clearPassCounters, State.clearSpe, State.clearFacings,
    State.clearSru, State.setPsc, State.setRhg, State.setPam, State.setSwg, State.setPiq, State.countMfu, State.countSpe,
    State.countSru, State.countPsc, State.setMfu, State.setSpe, State.setSru]
  rfl

/-! ### OPEN-PASS, REHEARSE and CLOSE-PASS -/

theorem yesNo_of_le {n : Nat} (h : n ≤ 1) : yesNo n = some (n == 1) := by
  interval_cases n <;> rfl

theorem yesNo_of_lt {n : Nat} (h : 1 < n) : yesNo n = none := by
  rw [yesNo, if_neg (by omega), if_neg (by omega)]

theorem openPassFields_of_shaped {payload : List Byte} (h : payload.length = 1 ∧ (payload.getD 0 0).toNat ≤ 1) :
    openPassFields payload = some ((payload.getD 0 0).toNat == 1) := by
  rw [openPassFields, if_pos h.1, yesNo_of_le h.2]

theorem openPassFields_of_unshaped {payload : List Byte} (h : ¬(payload.length = 1 ∧ (payload.getD 0 0).toNat ≤ 1)) :
    openPassFields payload = none := by
  rw [openPassFields]
  split
  case isTrue hlen => exact yesNo_of_lt (Nat.lt_of_not_le (fun hle => h ⟨hlen, hle⟩))
  case isFalse => rfl

theorem rehearseFields_of_shaped {payload : List Byte} (h : payload.length = 3 ∧ (payload.getD 2 0).toNat ≤ 1) :
    rehearseFields payload =
      some ((payload.getD 0 0).toNat, (payload.getD 1 0).toNat, (payload.getD 2 0).toNat == 1) := by
  rw [rehearseFields, if_pos h.1, yesNo_of_le h.2]

theorem rehearseFields_of_unshaped {payload : List Byte} (h : ¬(payload.length = 3 ∧ (payload.getD 2 0).toNat ≤ 1)) :
    rehearseFields payload = none := by
  rw [rehearseFields]
  split
  case isTrue hlen => rw [yesNo_of_lt (Nat.lt_of_not_le (fun hle => h ⟨hlen, hle⟩))]
  case isFalse => rfl

/-- A pass opened by a frame that has left the queue. -/
theorem State.openBy_withMgmt (s : State) (f : MgmtFrame) (rest : List MgmtFrame) (source : PassSource) (verbose : Bool)
    (pace displacement : Option Nat) : (s.withMgmt rest).openBy f source verbose pace displacement =
      { s.preparing source verbose pace displacement with
        ulp := { s.ulp with mgmt := rest, inHand := some (.walk f.kind f.tag) } } := by
  unfold State.openBy
  dsimp only
  rw [State.setUpPass_eq]
  rfl

theorem State.passStateTaken_iff (s : State) : s.passStateTaken = true ↔ s.psc.state ≠ .idle := by
  simp [State.passStateTaken]

theorem State.tableEmpty_iff (s : State) : s.tableEmpty = true ↔ s.tst.holdings = [] ∨ s.tst.sections = [] := by
  simp [State.tableEmpty]

/-- Settles O39: the frame is held back, or its tests are made in order. -/
theorem passesOpenAndClose : Obligations.PassesOpenAndClose := by
  intro s f rest hhead
  refine ⟨fun hkind => ?_, fun hkind => ?_, fun hkind => ?_⟩
  · have hmine : ofKind kindOpenPass f = true := (ofKind_iff _ _).mpr hkind
    have hheld := s.heldBack_of_opening (f := f) (.inl hkind)
    have hrun (hfree : ¬(s.psc.state = .settling ∨ s.psc.state = .tallying ∨ 512 ≤ s.ulp.reports.length)) :
        exec .openPass s = .next (openPassAct f (s.withMgmt rest)) :=
      live_dispatch hhead (Bool.eq_false_iff.mpr (mt hheld.mp hfree)) hmine openPassAct
    refine ⟨fun hback => live_dispatch_of_heldBack hhead (hheld.mpr hback) _ _, fun hfree hshape => ?_,
      fun hfree hshape hstate => ?_, fun hfree hshape hstate hempty => ?_, fun hfree hshape hstate hfull => ?_⟩
    · rw [hrun hfree, openPassAct, openPassFields_of_unshaped hshape, State.refuse_withMgmt hhead]
    · rw [hrun hfree, openPassAct, openPassFields_of_shaped hshape]
      exact congrArg _ ((if_pos ((State.passStateTaken_iff _).mpr hstate)).trans (State.refuse_withMgmt hhead _))
    · rw [hrun hfree, openPassAct, openPassFields_of_shaped hshape]
      exact congrArg _ ((if_neg (fun h => (State.passStateTaken_iff _).mp h hstate)).trans
        ((if_pos ((State.tableEmpty_iff _).mpr hempty)).trans (State.refuse_withMgmt hhead _)))
    · rw [hrun hfree, openPassAct, openPassFields_of_shaped hshape]
      exact congrArg _ ((if_neg (fun h => (State.passStateTaken_iff _).mp h hstate)).trans
        ((if_neg (mt (State.tableEmpty_iff _).mp hfull)).trans (State.openBy_withMgmt _ _ _ _ _ _ _)))
  · have hmine : ofKind kindRehearse f = true := (ofKind_iff _ _).mpr hkind
    have hheld := s.heldBack_of_opening (f := f) (.inr hkind)
    have hrun (hfree : ¬(s.psc.state = .settling ∨ s.psc.state = .tallying ∨ 512 ≤ s.ulp.reports.length)) :
        exec .rehearse s = .next (rehearseAct f (s.withMgmt rest)) :=
      live_dispatch hhead (Bool.eq_false_iff.mpr (mt hheld.mp hfree)) hmine rehearseAct
    refine ⟨fun hback => live_dispatch_of_heldBack hhead (hheld.mpr hback) _ _, fun hfree hshape => ?_,
      fun hfree hshape hstate => ?_, fun hfree hshape hstate hpace => ?_, fun hfree hshape hstate hpace hempty => ?_,
      fun hfree hshape hstate hpace hfull => ?_⟩
    · rw [hrun hfree, rehearseAct, rehearseFields_of_unshaped hshape, State.refuse_withMgmt hhead]
    · rw [hrun hfree, rehearseAct, rehearseFields_of_shaped hshape]
      exact congrArg _ ((if_pos ((State.passStateTaken_iff _).mpr hstate)).trans (State.refuse_withMgmt hhead _))
    · rw [hrun hfree, rehearseAct, rehearseFields_of_shaped hshape]
      exact congrArg _ ((if_neg (fun h => (State.passStateTaken_iff _).mp h hstate)).trans
        ((if_pos hpace).trans (State.refuse_withMgmt hhead _)))
    · rw [hrun hfree, rehearseAct, rehearseFields_of_shaped hshape]
      exact congrArg _ ((if_neg (fun h => (State.passStateTaken_iff _).mp h hstate)).trans
        ((if_neg (Nat.not_lt_of_le hpace)).trans
          ((if_pos ((State.tableEmpty_iff _).mpr hempty)).trans (State.refuse_withMgmt hhead _))))
    · rw [hrun hfree, rehearseAct, rehearseFields_of_shaped hshape]
      exact congrArg _ ((if_neg (fun h => (State.passStateTaken_iff _).mp h hstate)).trans
        ((if_neg (Nat.not_lt_of_le hpace)).trans
          ((if_neg (mt (State.tableEmpty_iff _).mp hfull)).trans (State.openBy_withMgmt _ _ _ _ _ _ _))))
  · have hmine : ofKind kindClosePass f = true := (ofKind_iff _ _).mpr hkind
    have hrun : exec .closePass s = .next (closePassAct f (s.withMgmt rest)) :=
      live_dispatch hhead (State.heldBack_of_other s (by rw [hkind]; decide) (by rw [hkind]; decide) (by rw [hkind]; decide))
        hmine closePassAct
    have hact (act : State) (h : closePassAct f (s.withMgmt rest) = act) : exec .closePass s = .next act := hrun.trans (h ▸ rfl)
    refine ⟨fun hshape => hact _ ?_, fun hshape hscan => hact _ ?_, fun hshape hstate => hact _ ?_⟩
    · exact (if_pos hshape).trans (State.refuse_withMgmt hhead _)
    · refine (if_neg (not_not_intro hshape)).trans ((if_pos hscan).trans ?_)
      rw [State.reply_withMgmt hhead]
      rfl
    · exact (if_neg (not_not_intro hshape)).trans ((if_neg hstate).trans (State.refuse_withMgmt hhead _))

/-! ### RESET-PORT-QUEUES (R22, R23, R177) -/

/-- The state after the ports in a set were emptied. -/
def State.emptied (s : State) (e : Port → Bool) : State :=
  { s with
    piq := Vector.ofFn (fun p => if e p then { s.piq[p] with
        queue := [], episode := false
        counters := { s.piq[p].counters with purged := sat32 s.piq[p].counters.purged s.piq[p].queue.length } }
      else s.piq[p])
    spe := { s.spe with
      stale := Vector.ofFn (fun p => if e p then 0 else s.spe.stale[p])
      woken := match s.spe.woken with
        | none => none
        | some p => if e p then none else some p }
    scu := { s.scu with
      ports := Vector.ofFn (fun p => if e p then { s.scu.ports[p] with carryOver := 0 } else s.scu.ports[p]) } }

theorem State.emptied_none (s : State) : s.emptied (fun _ => false) = s := by
  unfold State.emptied
  simp only [Bool.false_eq_true, if_false, ofFn_getElem_port]
  cases hw : s.spe.woken <;> simp only [← hw]

/-- One port more. -/
theorem State.emptyPort_emptied (s : State) (e : Port → Bool) (p : Port) (hp : e p = false) :
    (s.emptied e).emptyPort p = s.emptied (Function.update e p true) := by
  have hpiq : (s.emptied e).piq[p] = s.piq[p] := (getElem_ofFn_port _ p).trans (if_neg (by rw [hp]; decide))
  have hscu : (s.emptied e).scu.ports[p] = s.scu.ports[p] := (getElem_ofFn_port _ p).trans (if_neg (by rw [hp]; decide))
  have hwoken : (if (s.emptied e).spe.woken = some p then none else (s.emptied e).spe.woken) =
      (s.emptied (Function.update e p true)).spe.woken := by
    cases hw : s.spe.woken with
    | none => simp [State.emptied, hw]
    | some q =>
      by_cases hq : q = p
      · subst hq
        simp [State.emptied, hw, hp]
      · by_cases he : e q = true <;> simp [State.emptied, hw, hq, he]
  rw [State.emptyPort_eq, hpiq, hscu, hwoken]
  have hqueues := ofFn_set_update (fun q b => if b then { s.piq[q] with
      queue := [], episode := false
      counters := { s.piq[q].counters with purged := sat32 s.piq[q].counters.purged s.piq[q].queue.length } }
    else s.piq[q]) e p rfl
  have hstale := ofFn_set_update (fun q b => if b then 0 else s.spe.stale[q]) e p rfl
  have hcarry := ofFn_set_update (fun q b => if b then { s.scu.ports[q] with carryOver := 0 } else s.scu.ports[q]) e p rfl
  simp only [State.emptied] at hqueues hstale hcarry ⊢
  rw [← hqueues, ← hstale, ← hcarry]
  rfl

/-- The ports that satisfy `which` emptied. -/
theorem State.forPorts_emptyPort (s : State) (which : Port → Bool) :
    s.forPorts (fun q t => if which q then t.emptyPort q else t) = s.emptied which := by
  have hvisited := forPorts_visited (fun v => s.emptied (fun p => v p && which p))
    (fun q t => if which q then t.emptyPort q else t) (fun p v hv => by
      cases hp : which p with
      | false =>
        rw [if_neg (by decide)]
        congr 1
        funext q
        by_cases hq : q = p
        · subst hq
          simp [hp]
        · simp [hq]
      | true =>
        rw [if_pos rfl, State.emptyPort_emptied s _ p (by rw [hv]; rfl)]
        congr 1
        funext q
        by_cases hq : q = p
        · subst hq
          simp [hp]
        · simp [hq])
  simp only [Bool.false_and, Bool.true_and, State.emptied_none] at hvisited
  exact hvisited

theorem resetTarget_eq (payload : List Byte) : resetTarget payload =
    if payload.length = 3 then
      if (payload.getD 0 0).toNat = 0 then
        if natOf (payload.drop 1) = 0 then none else some (.named (natOf (payload.drop 1)))
      else if (payload.getD 0 0).toNat = 1 then some .global else none
    else none := by
  unfold resetTarget
  split
  · split
    next h => rw [if_pos h]
    next h => rw [if_neg (by omega), if_pos h]
    next hzero hone => rw [if_neg hzero, if_neg hone]
  · rfl

theorem finRange_eq_allPorts : List.finRange 16 = allPorts := by decide

/-- The reply of a reset, and the ports emptied. -/
theorem State.resetPorts_withMgmt (h : s.AtHead f rest) (which : Port → Bool) : (s.withMgmt rest).resetPorts f which =
    ((s.emptied which).withMgmt rest).withReply f .done
      (bytesOf 2 ((List.finRange 16).map (fun p : Port => if which p then 2 ^ p.val else 0)).sum ++
        (List.finRange 16).flatMap (fun p : Port => bytesOf 1 (if which p then s.piq[p].queue.length else 0))) := by
  rw [State.resetPorts, State.forPorts_emptyPort, finRange_eq_allPorts]
  exact State.reply_of_room (s := (s.withMgmt rest).emptied which) h.2.2.2 f _ _

/-- Settles O50: the request is read by its mode, and each port named is emptied in turn. -/
theorem portQueuesAreReset : Obligations.PortQueuesAreReset := by
  intro s f rest hhead hkind
  have hfree : s.heldBack f = false :=
    State.heldBack_of_other s (by rw [hkind]; decide) (by rw [hkind]; decide) (by rw [hkind]; decide)
  have hmine : ofKind kindResetPortQueues f = true := (ofKind_iff _ _).mpr hkind
  refine ⟨fun hlen hmode hmask => ?_, fun hlen hmode => ?_, fun hbad => ?_⟩
  · have htarget : resetTarget f.payload = some (.named (natOf (f.payload.drop 1))) := by
      rw [resetTarget_eq, if_pos hlen, if_pos hmode, if_neg hmask]
    have hrun : exec .resetPortQueues s = .next (resetPortQueuesAct f (s.withMgmt rest)) :=
      live_dispatch hhead hfree (by rw [isNamedReset, hmine, htarget]; rfl) _
    rw [hrun, resetPortQueuesAct, htarget]
    exact congrArg _ (State.resetPorts_withMgmt hhead _)
  · have htarget : resetTarget f.payload = some .global := by
      rw [resetTarget_eq, if_pos hlen, if_neg (by omega), if_pos hmode]
    have hrun : exec .resetPortQueuesGlobal s = .next (resetPortQueuesAct f (s.withMgmt rest)) :=
      live_dispatch hhead hfree (by rw [isGlobalReset, hmine, htarget]; rfl) _
    rw [hrun, resetPortQueuesAct, htarget]
    exact congrArg _ (State.resetPorts_withMgmt hhead _)
  · have htarget : resetTarget f.payload = none := by
      rw [resetTarget_eq]
      obtain hlen | ⟨hmode, hmask⟩ | hmode := hbad
      · exact if_neg hlen
      · rw [if_pos hmode, if_pos hmask, ite_self]
      · have hzero : ¬(f.payload.getD 0 0).toNat = 0 := by omega
        have hone : ¬(f.payload.getD 0 0).toNat = 1 := by omega
        rw [if_neg hzero, if_neg hone, ite_self]
    have hnamed : exec .resetPortQueues s = .next (resetPortQueuesAct f (s.withMgmt rest)) :=
      live_dispatch hhead hfree (by rw [isNamedReset, hmine, htarget]; rfl) _
    have hglobal : exec .resetPortQueuesGlobal s = .next (resetPortQueuesAct f (s.withMgmt rest)) :=
      live_dispatch hhead hfree (by rw [isGlobalReset, hmine, htarget]; rfl) _
    have hact : resetPortQueuesAct f (s.withMgmt rest) = s.answered f rest .badParam [] := by
      rw [resetPortQueuesAct, htarget]
      exact State.refuse_withMgmt hhead _
    exact ⟨hact ▸ hnamed, hact ▸ hglobal⟩

end Sys2Proof.Machine
end

section
/-! SUPPORT. The sweep generators: what a start hands to the links and counts, and the starts that are not made (section 1.2);
settles O13 to O15 and O18. -/

namespace Sys2Proof.Machine

variable {s t : State}

/-! ### Transits at a sweep start (R50, R52) -/

theorem State.countTransit_form (s : State) (p : Port) : ∃ ports alerts, s.countTransit p = { s with
    mfu := { s.mfu with ports := ports }, ulp := { s.ulp with alerts := alerts } } := by
  unfold State.countTransit
  dsimp only
  split
  · split
    · split
      · exact ⟨_, _, rfl⟩
      · exact ⟨_, _, rfl⟩
    · exact ⟨_, _, rfl⟩
  · exact ⟨_, _, rfl⟩

/-- A facing record that counts, and one that holds. -/
theorem FacingRecord.swept_of_counts {r : FacingRecord} (hfacing : r.facing ≠ none) (hlt : r.transit < 4095) :
    r.swept = { r with transit := r.transit + 1, stalled := r.stalled || r.transit == 4094 } := by
  rw [FacingRecord.swept, if_neg (not_or_intro hfacing (Nat.not_le_of_lt hlt))]

theorem State.countTransit_of_holds {p : Port}
    (h : ¬(s.psc.state = .scanning ∧ s.mfu.ports[p].facing.isSome = true ∧ s.mfu.ports[p].transit < 4095)) :
    s.countTransit p = s := by
  unfold State.countTransit
  exact if_neg h

theorem State.countTransit_of_limit {p : Port} (hscan : s.psc.state = .scanning) (hfacing : s.mfu.ports[p].facing.isSome = true)
    (hlimit : s.mfu.ports[p].transit = 4094) : s.countTransit p =
      if s.piq[p].mode = .active then
        (s.modFacing p (fun r => { r with transit := r.transit + 1, stalled := true })).postAlert (.portStalled p)
      else s.modFacing p (fun r => { r with transit := r.transit + 1, stalled := true }) := by
  have hcond : s.psc.state = .scanning ∧ s.mfu.ports[p].facing.isSome = true ∧ s.mfu.ports[p].transit < Config.transitLimit := by
    rw [hlimit]
    exact ⟨hscan, hfacing, by decide⟩
  have hend : s.mfu.ports[p].transit + 1 = Config.transitLimit := by
    rw [hlimit]
    rfl
  unfold State.countTransit
  dsimp only
  rw [if_pos hcond, if_pos hend]

theorem State.countTransit_of_below {p : Port} (hscan : s.psc.state = .scanning) (hfacing : s.mfu.ports[p].facing.isSome = true)
    (hlt : s.mfu.ports[p].transit < 4094) :
    s.countTransit p = s.modFacing p (fun r => { r with transit := r.transit + 1 }) := by
  have hcond : s.psc.state = .scanning ∧ s.mfu.ports[p].facing.isSome = true ∧ s.mfu.ports[p].transit < Config.transitLimit :=
    ⟨hscan, hfacing, hlt.trans (by decide)⟩
  have hend : ¬s.mfu.ports[p].transit + 1 = Config.transitLimit := by
    change ¬s.mfu.ports[p].transit + 1 = 4095
    omega
  unfold State.countTransit
  dsimp only
  rw [if_pos hcond, if_neg hend]

/-- The condition under which the count of a port posts PORT-STALLED. -/
def State.Stalls (s : State) (p : Port) : Prop :=
  s.psc.state = .scanning ∧ s.mfu.ports[p].facing ≠ none ∧ s.mfu.ports[p].transit = 4094 ∧ s.piq[p].mode = .active

theorem State.modFacing_ports (s : State) (p q : Port) (g : FacingRecord → FacingRecord) :
    (s.modFacing p g).mfu.ports[q] = if q = p then g s.mfu.ports[q] else s.mfu.ports[q] := by
  change (modifyAt s.mfu.ports p g)[q] = _
  rw [getElem_modifyAt]
  exact if_congr eq_comm rfl rfl

/-- What one count does: the record of the port, and its alert. -/
theorem State.countTransit_spec (s : State) (p : Port) :
    (∀ q, (s.countTransit p).mfu.ports[q] =
      if q = p ∧ s.psc.state = .scanning then s.mfu.ports[q].swept else s.mfu.ports[q]) ∧
    ∀ x, x ∈ (s.countTransit p).ulp.alerts ↔ x ∈ s.ulp.alerts ∨ x = .portStalled p ∧ s.Stalls p := by
  by_cases hcond : s.psc.state = .scanning ∧ s.mfu.ports[p].facing.isSome = true ∧ s.mfu.ports[p].transit < 4095
  · obtain ⟨hscan, hsome, hlt⟩ := hcond
    have hfacing : s.mfu.ports[p].facing ≠ none := Option.isSome_iff_ne_none.mp hsome
    have hswept := FacingRecord.swept_of_counts hfacing hlt
    by_cases hlimit : s.mfu.ports[p].transit = 4094
    · have hports (q : Port) : (s.modFacing p (fun r => { r with transit := r.transit + 1, stalled := true })).mfu.ports[q] =
          if q = p ∧ s.psc.state = .scanning then s.mfu.ports[q].swept else s.mfu.ports[q] := by
        rw [State.modFacing_ports]
        by_cases hq : q = p
        · subst hq
          rw [if_pos rfl, if_pos ⟨rfl, hscan⟩, hswept, hlimit]
          simp
        · rw [if_neg hq, if_neg (fun h => hq h.1)]
      rw [State.countTransit_of_limit hscan hsome hlimit]
      split
      case isTrue hactive =>
        refine ⟨hports, fun x => ?_⟩
        refine mem_insertAlert.trans ?_
        constructor
        · rintro (rfl | hx)
          · exact .inr ⟨rfl, hscan, hfacing, hlimit, hactive⟩
          · exact .inl hx
        · rintro (hx | ⟨rfl, _⟩)
          · exact .inr hx
          · exact .inl rfl
      case isFalse hmuted => exact ⟨hports, fun x => ⟨.inl, fun h => h.elim id (fun h => absurd h.2.2.2.2 hmuted)⟩⟩
    · have hlt' : s.mfu.ports[p].transit < 4094 := by omega
      rw [State.countTransit_of_below hscan hsome hlt']
      refine ⟨fun q => ?_, fun x => ⟨.inl, fun h => h.elim id (fun h => absurd h.2.2.2.1 hlimit)⟩⟩
      rw [State.modFacing_ports]
      by_cases hq : q = p
      · subst hq
        rw [if_pos rfl, if_pos ⟨rfl, hscan⟩, hswept]
        have hnot : (s.mfu.ports[q].transit == 4094) = false := beq_eq_false_iff_ne.mpr hlimit
        rw [hnot, Bool.or_false]
      · rw [if_neg hq, if_neg (fun h => hq h.1)]
  · rw [State.countTransit_of_holds hcond]
    refine ⟨fun q => ?_, fun x => ⟨.inl, fun h => h.elim id (fun h => ?_)⟩⟩
    · split
      case isTrue hq =>
        obtain ⟨rfl, hscan⟩ := hq
        have hholds : s.mfu.ports[q].facing = none ∨ 4095 ≤ s.mfu.ports[q].transit := by
          by_contra hnot
          obtain ⟨hfacing, hle⟩ := not_or.mp hnot
          exact hcond ⟨hscan, Option.isSome_iff_ne_none.mpr hfacing, Nat.lt_of_not_le hle⟩
        rw [FacingRecord.swept, if_pos hholds]
      case isFalse => rfl
    · obtain ⟨_, hscan, hfacing, hlimit, _⟩ := h
      exact absurd ⟨hscan, Option.isSome_iff_ne_none.mpr hfacing, by rw [hlimit]; decide⟩ hcond

/-- The counts of the ports of `sides` among a list. -/
def State.countTransits (s : State) (sides : List Side) (l : List Port) : State :=
  l.foldl (fun t p => if portSide p ∈ sides then t.countTransit p else t) s

theorem State.countTransits_form (s : State) (sides : List Side) (l : List Port) : ∃ ports alerts,
    s.countTransits sides l = { s with mfu := { s.mfu with ports := ports }, ulp := { s.ulp with alerts := alerts } } := by
  refine foldl_preserves (fun u => ∃ ports alerts, u = { s with
    mfu := { s.mfu with ports := ports }, ulp := { s.ulp with alerts := alerts } }) _ (fun u p hu => ?_) l s ⟨_, _, rfl⟩
  obtain ⟨ports, alerts, rfl⟩ := hu
  dsimp only
  split
  · exact State.countTransit_form _ p
  · exact ⟨_, _, rfl⟩

theorem State.countTransits_spec (sides : List Side) (l : List Port) (hl : l.Nodup) (s : State) :
    (∀ q, (s.countTransits sides l).mfu.ports[q] =
      if q ∈ l ∧ s.psc.state = .scanning ∧ portSide q ∈ sides then s.mfu.ports[q].swept else s.mfu.ports[q]) ∧
    ∀ x, x ∈ (s.countTransits sides l).ulp.alerts ↔
      x ∈ s.ulp.alerts ∨ ∃ p ∈ l, x = .portStalled p ∧ portSide p ∈ sides ∧ s.Stalls p := by
  induction l generalizing s with
  | nil => exact ⟨fun q => by simp [State.countTransits], fun x => by simp [State.countTransits]⟩
  | cons p l ih =>
    obtain ⟨hp, hl⟩ := List.nodup_cons.mp hl
    have hcons : s.countTransits sides (p :: l) =
        (if portSide p ∈ sides then s.countTransit p else s).countTransits sides l := rfl
    rw [hcons]
    by_cases hside : portSide p ∈ sides
    · rw [if_pos hside]
      obtain ⟨hports, halerts⟩ := ih hl (s.countTransit p)
      obtain ⟨hone, halert⟩ := s.countTransit_spec p
      obtain ⟨ports, alerts, hform⟩ := s.countTransit_form p
      have hstate : (s.countTransit p).psc.state = s.psc.state := by rw [hform]
      have hmode (q : Port) : (s.countTransit p).piq[q].mode = s.piq[q].mode := by rw [hform]
      have hother (q : Port) (hq : q ∈ l) : (s.countTransit p).mfu.ports[q] = s.mfu.ports[q] := by
        have hne : ¬(q = p ∧ s.psc.state = .scanning) := fun h => hp (h.1 ▸ hq)
        rw [hone, if_neg hne]
      refine ⟨fun q => ?_, fun x => ?_⟩
      · rw [hports, hstate]
        by_cases hq : q ∈ l
        · rw [hother q hq]
          simp [hq]
        · rw [if_neg (fun h => hq h.1), hone]
          by_cases hqp : q = p
          · subst hqp
            simp [hside]
          · simp [hq, hqp]
      · rw [halerts, halert]
        constructor
        · rintro ((hx | ⟨hx, hstalls⟩) | ⟨q, hq, hx, hqside, hstalls⟩)
          · exact .inl hx
          · exact .inr ⟨p, List.mem_cons_self, hx, hside, hstalls⟩
          · refine .inr ⟨q, List.mem_cons_of_mem _ hq, hx, hqside, ?_⟩
            rwa [State.Stalls, hstate, hmode, hother q hq] at hstalls
        · rintro (hx | ⟨q, hq, hx, hqside, hstalls⟩)
          · exact .inl (.inl hx)
          · obtain rfl | hq := List.mem_cons.mp hq
            · exact .inl (.inr ⟨hx, hstalls⟩)
            · refine .inr ⟨q, hq, hx, hqside, ?_⟩
              rwa [State.Stalls, hstate, hmode, hother q hq]
    · rw [if_neg hside]
      obtain ⟨hports, halerts⟩ := ih hl s
      refine ⟨fun q => ?_, fun x => ?_⟩
      · rw [hports]
        by_cases hqp : q = p
        · subst hqp
          rw [if_neg (fun h => hside h.2.2), if_neg (fun h => hside h.2.2)]
        · simp [hqp]
      · rw [halerts]
        refine or_congr_right ⟨fun ⟨q, hq, h⟩ => ⟨q, List.mem_cons_of_mem _ hq, h⟩, fun ⟨q, hq, hx, hqside, h⟩ => ?_⟩
        obtain rfl | hq := List.mem_cons.mp hq
        · exact absurd hqside hside
        · exact ⟨q, hq, hx, hqside, h⟩

/-- The transits of a sweep start, after its frames. -/
theorem State.sweptTo_of_frames {frames : Link → Option SweepFrame} {w : Swg} (sides : List Side)
    (hlinks : ∀ l : Link, t.links[l] = match frames l with
      | none => s.links[l]
      | some f => s.links[l].hand f)
    (hform : t = { s with links := t.links, swg := w }) : s.SweptTo (t.countTransits sides allPorts) frames sides w := by
  obtain ⟨ports, alerts, hcount⟩ := t.countTransits_form sides allPorts
  obtain ⟨hports, halerts⟩ := State.countTransits_spec sides allPorts nodup_allPorts t
  have hstate : t.psc.state = s.psc.state := by rw [hform]
  have hmfu : t.mfu = s.mfu := by rw [hform]
  have hpiq : t.piq = s.piq := by rw [hform]
  have hulp : t.ulp = s.ulp := by rw [hform]
  refine ⟨fun l => ?_, fun p => ?_, fun x => ?_, ?_⟩
  · rw [hcount]
    exact hlinks l
  · rw [hports, hstate, hmfu]
    simp only [mem_allPorts, true_and]
  · rw [halerts, hulp]
    refine or_congr_right ⟨?_, ?_⟩
    · rintro ⟨p, _, hx, hside, hscan, hfacing, hlimit, hactive⟩
      rw [hstate] at hscan
      rw [hmfu] at hfacing hlimit
      rw [hpiq] at hactive
      exact ⟨p, hx, hscan, hside, hfacing, hlimit, hactive⟩
    · rintro ⟨p, hx, hscan, hside, hfacing, hlimit, hactive⟩
      refine ⟨p, mem_allPorts p, hx, hside, ?_⟩
      rw [State.Stalls, hstate, hmfu, hpiq]
      exact ⟨hscan, hfacing, hlimit, hactive⟩
  · have hfields : t.countTransits sides allPorts = { t with
        mfu := { t.mfu with ports := (t.countTransits sides allPorts).mfu.ports }
        ulp := { t.ulp with alerts := (t.countTransits sides allPorts).ulp.alerts } } := by
      rw [hcount]
    have hframes : (t.countTransits sides allPorts).links = t.links := by rw [hcount]
    rw [hframes]
    refine hfields.trans ?_
    rw [hmfu, hulp]
    generalize (t.countTransits sides allPorts).mfu.ports = ports
    generalize (t.countTransits sides allPorts).ulp.alerts = alerts
    generalize t.links = links at hform
    rw [hform]

/-! ### SWEEP frames (R4, R8, R10) -/

theorem State.modLink_links (s : State) (l k : Link) (g : LinkState → LinkState) :
    (s.modLink l g).links[k] = if l = k then g s.links[k] else s.links[k] := getElem_modifyAt s.links l k g

theorem mem_sideLinks (side : Side) (l : Link) : l ∈ sideLinks side ↔ linkSide l = side := by
  revert l
  cases side <;> decide

/-- The frames of one side: each of its two links takes one while the source is FRONT-ENDS. -/
theorem State.sendSweep_links (s : State) (side : Side) (k d : Nat) (l : Link) : (s.sendSweep side k d).links[l] =
    if s.psc.source = .frontEnds ∧ linkSide l = side then s.links[l].hand ⟨k % 256, d⟩ else s.links[l] := by
  unfold State.sendSweep
  split
  case isTrue hsource =>
    have hfold (links : List Link) (hnodup : links.Nodup) (u : State) :
        (links.foldl (fun t m => t.modLink m (fun x => x.hand ⟨k % 256, d⟩)) u).links[l] =
          if l ∈ links then u.links[l].hand ⟨k % 256, d⟩ else u.links[l] := by
      induction links generalizing u with
      | nil => simp
      | cons m links ih =>
        obtain ⟨hm, hnodup⟩ := List.nodup_cons.mp hnodup
        rw [List.foldl_cons, ih hnodup, State.modLink_links]
        by_cases hml : m = l
        · subst hml
          rw [if_neg hm, if_pos rfl, if_pos List.mem_cons_self]
        · rw [if_neg hml]
          exact if_congr (by rw [List.mem_cons, or_iff_right (Ne.symm hml)]) rfl rfl
    rw [hfold _ (by cases side <;> decide)]
    exact if_congr (by rw [mem_sideLinks, and_iff_right hsource]) rfl rfl
  case isFalse hsource =>
    have hno : ¬(s.psc.source = .frontEnds ∧ linkSide l = side) := fun h => hsource h.1
    rw [if_neg hno]

theorem State.sendSweep_form (s : State) (side : Side) (k d : Nat) :
    ∃ links, s.sendSweep side k d = { s with links := links } := by
  unfold State.sendSweep
  split
  · refine foldl_preserves (fun u => ∃ links, u = { s with links := links }) _ (fun u m hu => ?_) _ s ⟨_, rfl⟩
    obtain ⟨links, rfl⟩ := hu
    exact ⟨_, rfl⟩
  · exact ⟨_, rfl⟩

/-- The frames of the sides of a start. -/
def State.sendSweeps (s : State) (sides : List Side) (k d : Nat) : State := sides.foldl (fun t side => t.sendSweep side k d) s

theorem State.sendSweeps_form (s : State) (sides : List Side) (k d : Nat) :
    ∃ links, s.sendSweeps sides k d = { s with links := links } := by
  refine foldl_preserves (fun u => ∃ links, u = { s with links := links }) _ (fun u side hu => ?_) _ s ⟨_, rfl⟩
  obtain ⟨links, rfl⟩ := hu
  exact State.sendSweep_form _ side k d

theorem State.sendSweeps_links (sides : List Side) (hsides : sides.Nodup) (k d : Nat) (l : Link) (s : State) :
    (s.sendSweeps sides k d).links[l] =
      if s.psc.source = .frontEnds ∧ linkSide l ∈ sides then s.links[l].hand ⟨k % 256, d⟩ else s.links[l] := by
  induction sides generalizing s with
  | nil => simp [State.sendSweeps]
  | cons side sides ih =>
    obtain ⟨hside, hsides⟩ := List.nodup_cons.mp hsides
    have hcons : s.sendSweeps (side :: sides) k d = (s.sendSweep side k d).sendSweeps sides k d := rfl
    obtain ⟨links, hform⟩ := s.sendSweep_form side k d
    have hsource : (s.sendSweep side k d).psc.source = s.psc.source := by rw [hform]
    rw [hcons, ih hsides, hsource, State.sendSweep_links]
    by_cases hl : linkSide l = side
    · have hrest : ¬(s.psc.source = .frontEnds ∧ linkSide l ∈ sides) := fun h => hside (hl ▸ h.2)
      rw [if_neg hrest]
      exact if_congr (by simp [hl]) rfl rfl
    · have hone : ¬(s.psc.source = .frontEnds ∧ linkSide l = side) := fun h => hl h.2
      rw [if_neg hone]
      exact if_congr (by simp [hl]) rfl rfl

/-- A start with frames on the sides `framed` and transits on `sides`, which leaves SWG's state `w`. -/
theorem State.sweptTo_of_start (s : State) (framed sides : List Side) (hframed : framed.Nodup) (n d : Nat) (w : Swg) :
    s.SweptTo (((s.sendSweeps framed n d).setSwg w).countTransits sides allPorts)
      (fun l => if s.psc.source = .frontEnds ∧ linkSide l ∈ framed then some ⟨n % 256, d⟩ else none) sides w := by
  obtain ⟨links, hform⟩ := s.sendSweeps_form framed n d
  refine State.sweptTo_of_frames sides (fun l => ?_) ?_
  · refine (State.sendSweeps_links framed hframed n d l s).trans ?_
    by_cases hl : s.psc.source = .frontEnds ∧ linkSide l ∈ framed
    · simp only [if_pos hl]
    · simp only [if_neg hl]
  · rw [hform]
    rfl

/-! ### Starts that are made (R8, R10) -/

theorem Swg.mem_sidesOf (w : Swg) (g : Generator) (side : Side) : side ∈ w.sidesOf g ↔ w.driver side = some g := by
  unfold Swg.sidesOf
  cases side <;> simp

theorem Swg.nodup_sidesOf (w : Swg) (g : Generator) : (w.sidesOf g).Nodup := by
  unfold Swg.sidesOf
  split <;> split <;> decide

theorem State.sweepStarted_eq (s : State) (sides : List Side) (k : Nat) (b : Bool) :
    s.sweepStarted sides k b = (s.countTransits sides allPorts).rhgStart sides k b := rfl

/-- An attempt that is neither past its window nor at the limit (R13, R31). -/
theorem State.attemptStart_of_running {g : Generator} (hwindow : ¬s.WindowEnded g) (hlimit : (s.swg.gen g).count < 16777215)
    (hrun : (s.swg.gen g).run = .running) :
    (s.swg.runMode = .free → s.attemptStart g = s.freeStart g) ∧
    (s.swg.runMode = .interleaved → s.attemptStart g = s.interleavedStart) := by
  have hbelow : ¬Config.sweepLimit ≤ (s.swg.gen g).count := Nat.not_le_of_lt hlimit
  unfold State.attemptStart
  rw [if_neg hwindow, if_neg hbelow, hrun]
  exact ⟨fun hmode => by rw [hmode], fun hmode => by rw [hmode]⟩

theorem State.startDue_of_startFallsDue {g : Generator} (h : s.StartFallsDue g) : s.startDue g = true := by
  obtain ⟨_, hrun, d, hnext, hdue⟩ := h
  rw [State.startDue, hnext]
  simp [hrun, hdue]

theorem exec_sweepStart {g : Generator} (hmode : s.swg.runMode = .free) (h : s.StartFallsDue g) :
    exec (.sweepStart g) s = .next (s.attemptStart g) := by
  have hlive : exec (.sweepStart g) s = .next (sweepStartStep g s) := live_of_released h.1 _
  rw [hlive, sweepStartStep, if_pos ⟨hmode, State.startDue_of_startFallsDue h⟩]

theorem exec_aStart (hmode : s.swg.runMode = .interleaved) (h : s.StartFallsDue .a) :
    exec .aStart s = .next (s.attemptStart .a) := by
  have hlive : exec .aStart s = .next (aStartStep s) := live_of_released h.1 _
  rw [hlive, aStartStep, if_pos ⟨hmode, State.startDue_of_startFallsDue h⟩]

theorem State.freeStart_eq {g : Generator} (hrun : (s.swg.gen g).run = .running) : s.freeStart g =
    (((s.sendSweeps (s.swg.sidesOf g) (s.swg.gen g).count (s.params.period g - 1)).setSwg
        (s.swg.setGen g ⟨(s.swg.gen g).count + 1, .running, some (s.ulp.now + s.params.period g)⟩)).countTransits
      (s.swg.sidesOf g) allPorts).rhgStart (s.swg.sidesOf g) (s.swg.gen g).count false := by
  have hfold : s.freeStart g = (((s.sendSweeps (s.swg.sidesOf g) (s.swg.gen g).count (s.params.period g - 1)).modGen g
      (fun v => { v with
        count := (s.swg.gen g).count + 1, nextStart := some (s.ulp.now + s.params.period g) })).countTransits
      (s.swg.sidesOf g) allPorts).rhgStart (s.swg.sidesOf g) (s.swg.gen g).count false := rfl
  obtain ⟨links, hform⟩ := s.sendSweeps_form (s.swg.sidesOf g) (s.swg.gen g).count (s.params.period g - 1)
  rw [hfold, State.modGen, hform, ← hrun]

/-- Settles O13: the frames, then the count and the schedule, then the transits, and RHG last. -/
theorem freeSweepStart : Obligations.FreeSweepStart := by
  intro g s hmode hrun hlimit hwindow
  refine ⟨s.swg.mem_sidesOf g, ⟨_, s.sweptTo_of_start (s.swg.sidesOf g) _ (s.swg.nodup_sidesOf g) _ _ _, ?_⟩,
    exec_sweepStart hmode⟩
  rw [(State.attemptStart_of_running hwindow hlimit hrun).1 hmode, State.freeStart_eq hrun]

/-- The scheduled B start that falls first, the earlier scheduled of two of one millisecond (log entry 46). -/
theorem earliestB_eq {b : BStart} {before after : List BStart} (hbefore : ∀ c ∈ before, b.due < c.due)
    (hafter : ∀ c ∈ after, b.due ≤ c.due) : earliestB (before ++ b :: after) = some b := by
  induction before with
  | nil =>
    rw [List.nil_append, earliestB]
    split
    · rfl
    next c hc => rw [if_pos (hafter c (earliestB_mem hc))]
  | cons a before ih =>
    have hlt : b.due < a.due := hbefore a List.mem_cons_self
    rw [List.cons_append, earliestB, ih (fun c hc => hbefore c (List.mem_cons_of_mem _ hc))]
    exact if_neg (Nat.not_le_of_lt hlt)

theorem erase_scheduled {b : BStart} {before after : List BStart} (hbefore : ∀ c ∈ before, b.due < c.due) :
    (before ++ b :: after).erase b = before ++ after := by
  have hnot : b ∉ before := fun hb => Nat.lt_irrefl _ (hbefore b hb)
  rw [List.erase_append_right _ hnot, List.erase_cons_head]

/-- The sides that an A start, and a B start, hands frames. -/
def Swg.framedSide (w : Swg) (side : Side) : List Side := if w.assign side = .off then [] else [side]

theorem Swg.nodup_framedSide (w : Swg) (side : Side) : (w.framedSide side).Nodup := by
  unfold Swg.framedSide
  split
  · exact List.nodup_nil
  · exact List.nodup_singleton side

theorem State.interleavedStart_eq (s : State) : s.interleavedStart =
    (((s.sendSweeps (s.swg.framedSide .left) s.swg.genA.count (s.params.periodA / 2 - 1)).setSwg
        { s.swg with
          genA := { s.swg.genA with count := s.swg.genA.count + 1, nextStart := some (s.ulp.now + s.params.periodA) }
          bStarts := s.swg.bStarts ++
            [⟨s.ulp.now + s.params.periodA / 2, s.swg.genA.count, s.params.periodA - s.params.periodA / 2 - 1⟩] }).countTransits
      (s.swg.framedSide .left) allPorts).rhgStart (s.swg.framedSide .left) s.swg.genA.count false := by
  obtain ⟨links, hform⟩ := s.sendSweeps_form (s.swg.framedSide .left) s.swg.genA.count (s.params.periodA / 2 - 1)
  have hfold : s.interleavedStart =
    (((s.sendSweeps (s.swg.framedSide .left) s.swg.genA.count (s.params.periodA / 2 - 1)).setSwg
        { (s.sendSweeps (s.swg.framedSide .left) s.swg.genA.count (s.params.periodA / 2 - 1)).swg with
          genA := { (s.sendSweeps (s.swg.framedSide .left) s.swg.genA.count (s.params.periodA / 2 - 1)).swg.genA with
            count := s.swg.genA.count + 1, nextStart := some (s.ulp.now + s.params.periodA) }
          bStarts := (s.sendSweeps (s.swg.framedSide .left) s.swg.genA.count (s.params.periodA / 2 - 1)).swg.bStarts ++
            [⟨s.ulp.now + s.params.periodA / 2, s.swg.genA.count, s.params.periodA - s.params.periodA / 2 - 1⟩] }).countTransits
      (s.swg.framedSide .left) allPorts).rhgStart (s.swg.framedSide .left) s.swg.genA.count false := rfl
  rw [hfold, hform]

theorem exec_bStart {b : BStart} (hline : s.resetLine = false) (hfirst : earliestB s.swg.bStarts = some b)
    (hdue : b.due ≤ s.ulp.now) : exec .bStart s = .next (s.makeB b) := by
  have hlive : exec .bStart s = .next (bStartStep s) := live_of_released hline _
  have hmake : bStartStep s = s.makeB b := by
    unfold bStartStep
    rw [hfirst]
    exact if_pos hdue
  rw [hlive, hmake]

/-- SWG after a B start: the last one of a calibration window that has ended stops generator A (R31). -/
def Swg.afterB (w : Swg) (b : BStart) : Swg :=
  { w with
    genA := if w.endsAtB = true ∧ b.sweep + 1 = w.genA.count then w.genA.stopped else w.genA
    lastB := some b.sweep, bStarts := w.bStarts.erase b
    endsAtB := w.endsAtB && !decide (b.sweep + 1 = w.genA.count) }

theorem State.makeB_eq (s : State) (b : BStart) : s.makeB b =
    (((s.sendSweeps (s.swg.framedSide .right) b.sweep b.dwell).setSwg (s.swg.afterB b)).countTransits [.right]
      allPorts).rhgStart [.right] b.sweep true := by
  have hframes : (if s.swg.runRight = .off then s else s.sendSweep .right b.sweep b.dwell) =
      s.sendSweeps (s.swg.framedSide .right) b.sweep b.dwell := by
    unfold Swg.framedSide
    change _ = State.sendSweeps s (if s.swg.runRight = .off then [] else [.right]) b.sweep b.dwell
    split
    · rfl
    · rfl
  obtain ⟨links, hform⟩ := s.sendSweeps_form (s.swg.framedSide .right) b.sweep b.dwell
  have hswg : (s.sendSweeps (s.swg.framedSide .right) b.sweep b.dwell).swg = s.swg := by rw [hform]
  unfold State.makeB
  dsimp only
  rw [hframes, hswg, State.sweepStarted_eq]
  have hafter : ({ s.swg with
      genA := if (s.swg.endsAtB && b.sweep + 1 == s.swg.genA.count) = true then s.swg.genA.halt else s.swg.genA
      lastB := some b.sweep
      bStarts := s.swg.bStarts.erase b
      endsAtB := s.swg.endsAtB && !(s.swg.endsAtB && b.sweep + 1 == s.swg.genA.count) } : Swg) = s.swg.afterB b := by
    have hends : (s.swg.endsAtB && b.sweep + 1 == s.swg.genA.count) = true ↔
        s.swg.endsAtB = true ∧ b.sweep + 1 = s.swg.genA.count := by
      rw [Bool.and_eq_true, beq_iff_eq]
    have hflag : (s.swg.endsAtB && !(s.swg.endsAtB && b.sweep + 1 == s.swg.genA.count)) =
        (s.swg.endsAtB && !decide (b.sweep + 1 = s.swg.genA.count)) := by
      cases s.swg.endsAtB
      · rfl
      · rfl
    rw [hflag, if_congr hends rfl rfl]
    rfl
  rw [hafter]

/-- Settles O14: the A start is one of LEFT that schedules, the B start one of RIGHT that leaves the counts. -/
theorem interleavedStarts : Obligations.InterleavedStarts := by
  refine ⟨fun s hmode hrun hlimit hwindow => ⟨⟨_, s.sweptTo_of_start _ _ (s.swg.nodup_framedSide .left) _ _ _, ?_⟩,
      exec_aStart hmode⟩,
    fun s b before after hline hscheduled hbefore hafter hdue => ?_⟩
  · rw [(State.attemptStart_of_running hwindow hlimit hrun).2 hmode, State.interleavedStart_eq, ← hrun]
    rfl
  · have hfirst : earliestB s.swg.bStarts = some b := by rw [hscheduled, earliestB_eq hbefore hafter]
    have herase : s.swg.bStarts.erase b = before ++ after := by rw [hscheduled, erase_scheduled hbefore]
    have hstart := s.sweptTo_of_start (s.swg.framedSide .right) [.right] (s.swg.nodup_framedSide .right) b.sweep b.dwell
      (s.swg.afterB b)
    have hframes : (fun l => if s.psc.source = .frontEnds ∧ linkSide l ∈ s.swg.framedSide .right then
        some (⟨b.sweep % 256, b.dwell⟩ : SweepFrame) else none) =
        fun l => if s.psc.source = .frontEnds ∧ s.swg.runRight ≠ .off ∧ linkSide l = .right then
          some ⟨b.sweep % 256, b.dwell⟩ else none := by
      funext l
      refine if_congr (and_congr_right fun _ => ?_) rfl rfl
      change linkSide l ∈ (if s.swg.runRight = .off then [] else [Side.right]) ↔ _
      split
      case isTrue hoff => simp [hoff]
      case isFalse hon => simp [hon]
    have hswg : s.swg.afterB b = { s.swg with
        lastB := some b.sweep, bStarts := before ++ after
        genA := if s.swg.endsAtB = true ∧ b.sweep + 1 = s.swg.genA.count then s.swg.genA.stopped else s.swg.genA
        endsAtB := s.swg.endsAtB && !decide (b.sweep + 1 = s.swg.genA.count) } := by
      rw [Swg.afterB, herase]
    rw [hframes] at hstart
    refine ⟨_, ?_, (exec_bStart hline hfirst hdue).trans (congrArg _ (s.makeB_eq b))⟩
    rw [hswg] at hstart ⊢
    exact hstart

end Sys2Proof.Machine
end

section
/-! SUPPORT. Starts that are not made, the two limits, and HOLD (sections 1.2, 7.3 and 8.5); settles O15 and O18. -/

namespace Sys2Proof.Machine

variable {s t : State}

/-! ### Windows and limits (R13, R31) -/

theorem Swg.lastBWaits_iff (w : Swg) : w.lastBWaits = true ↔ ∃ b ∈ w.bStarts, b.sweep + 1 = w.genA.count := by
  simp [Swg.lastBWaits]

theorem State.attemptStart_of_windowEnded {g : Generator} (h : s.WindowEnded g) : s.attemptStart g = s.endWindow g := if_pos h

theorem State.endWindow_stops {g : Generator} (h : ¬(s.swg.runMode = .interleaved ∧ s.swg.lastBWaits = true)) :
    s.endWindow g = { s with swg := s.swg.setGen g (s.swg.gen g).stopped } := if_neg h

theorem State.endWindow_waits {g : Generator} (h : s.swg.runMode = .interleaved ∧ s.swg.lastBWaits = true) :
    s.endWindow g = { s with
      swg := { s.swg.setGen g { s.swg.gen g with nextStart := none } with endsAtB := true } } := if_pos h

theorem State.internalClose_eq (s : State) (reason : EndReason) :
    s.internalClose reason = if s.psc.state = .scanning then s.settlingFrom reason else s := rfl

theorem State.attemptStart_of_limit {g : Generator} (hwindow : ¬s.WindowEnded g) (hlimit : 16777215 ≤ (s.swg.gen g).count) :
    s.attemptStart g =
      State.internalClose { s with swg := s.swg.setGen g (s.swg.gen g).stopped } .sweepLimit := by
  have hreached : Config.sweepLimit ≤ (s.swg.gen g).count := hlimit
  unfold State.attemptStart
  rw [if_neg hwindow, if_pos hreached]
  rfl

theorem State.attemptStart_of_held {g : Generator} (hwindow : ¬s.WindowEnded g) (hlimit : (s.swg.gen g).count < 16777215)
    (hrun : (s.swg.gen g).run = .held) : s.attemptStart g = s.withholdStart g := by
  have hbelow : ¬Config.sweepLimit ≤ (s.swg.gen g).count := Nat.not_le_of_lt hlimit
  unfold State.attemptStart
  rw [if_neg hwindow, if_neg hbelow, hrun]

theorem State.withholdStart_eq (s : State) (g : Generator) : s.withholdStart g = { s with
    swg := { s.swg.setGen g { s.swg.gen g with nextStart := some (s.ulp.now + s.params.period g) } with holdAlert := true }
    ulp := if s.swg.holdAlert then s.ulp else { s.ulp with alerts := insertAlert .sweepHold s.ulp.alerts } } := by
  have hflag : (s.modGen g (fun v => { v with nextStart := some (s.ulp.now + s.params.period g) })).swg.holdAlert =
      s.swg.holdAlert := by
    cases g
    · rfl
    · rfl
  unfold State.withholdStart
  dsimp only
  rw [hflag]
  split
  case isTrue halert =>
    have hkeep : ({ s.swg.setGen g { s.swg.gen g with nextStart := some (s.ulp.now + s.params.period g) } with
        holdAlert := true } : Swg) =
        s.swg.setGen g { s.swg.gen g with nextStart := some (s.ulp.now + s.params.period g) } := by
      cases g
      · rw [Swg.setGen, ← halert]
      · rw [Swg.setGen, ← halert]
    rw [hkeep]
    rfl
  case isFalse => rfl

theorem windowEnd_of_drives {q : Params} {w : Swg} {g : Generator} (h : w.drives g = true) :
    windowEnd q w g = if w.runMode = .free then q.calWindow else q.calWindow + 2 := by
  unfold windowEnd
  rw [if_pos h]
  cases w.runMode
  · rfl
  · rfl

theorem windowEnd_of_idle {q : Params} {w : Swg} {g : Generator} (h : w.drives g = false) : windowEnd q w g = 0 := by
  unfold windowEnd
  rw [h]
  rfl

/-- Settles O15: the tests of an attempt in their order. -/
theorem withheldStartsAndLimits : Obligations.WithheldStartsAndLimits := by
  refine ⟨fun g s => ⟨fun hwindow hlast => ?_, fun hwindow hmode hlast => ?_, fun hwindow hlimit => ?_,
    fun hwindow hlimit hrun => ?_, windowEnd_of_drives, windowEnd_of_idle, exec_sweepStart, exec_aStart⟩,
    fun s hline hscan hclock => ?_⟩
  · have hstops : ¬(s.swg.runMode = .interleaved ∧ s.swg.lastBWaits = true) := by
      rintro ⟨hmode, hwaits⟩
      rcases hlast with hfree | hnone
      · rw [hfree] at hmode
        contradiction
      · exact hnone (s.swg.lastBWaits_iff.mp hwaits)
    rw [State.attemptStart_of_windowEnded hwindow, State.endWindow_stops hstops]
  · rw [State.attemptStart_of_windowEnded hwindow, State.endWindow_waits ⟨hmode, s.swg.lastBWaits_iff.mpr hlast⟩]
  · rw [State.attemptStart_of_limit hwindow hlimit, State.internalClose_eq]
  · rw [State.attemptStart_of_held hwindow hlimit hrun, State.withholdStart_eq]
  · have hlive : exec .clockLimit s = .next (clockLimitStep s) := live_of_released hline _
    have hend : s.psc.clock = Config.clockLimit := hclock
    rw [hlive, clockLimitStep, if_pos hend, State.internalClose_eq, if_pos hscan]

/-! ### HOLD (R12, R156, R157) -/

theorem State.disqualifyAll_eq (s : State) : s.disqualifyAll = { s with
    pam := if s.pam.window = none then s.pam
      else { s.pam with ports := Vector.ofFn (fun p : Port => { s.pam.ports[p] with disqualified := true }) } } := by
  unfold State.disqualifyAll
  cases hwindow : s.pam.window with
  | none => rw [if_pos rfl]
  | some w =>
    have hports := mapAll_eq_ofFn (fun q : PamPort => { q with disqualified := true }) s.pam.ports
    rw [if_neg (Option.some_ne_none w), ← hports]
    rfl

theorem State.requestHold_eq (s : State) : s.requestHold = { s with
    ulp := { s.ulp with
      hold := true, counters := { s.ulp.counters with holdEpisodes := up32 s.ulp.counters.holdEpisodes } }
    swg := { s.swg with genA := s.swg.genA.withhold, genB := s.swg.genB.withhold }
    pam := if s.pam.window = none then s.pam
      else { s.pam with ports := Vector.ofFn (fun p : Port => { s.pam.ports[p] with disqualified := true }) } } := by
  rw [State.requestHold, State.disqualifyAll_eq]
  rfl

theorem State.writeRecord_of_below (r : Record) (h : ¬(s.ulp.hold = false ∧ s.ulp.reports.length + 1 = s.params.highMark)) :
    s.writeRecord r = { s with ulp := { s.ulp with reports := s.ulp.reports ++ [⟨r, s.ulp.now⟩] } } := if_neg h

theorem State.writeRecord_of_mark (r : Record) (h : s.ulp.hold = false ∧ s.ulp.reports.length + 1 = s.params.highMark) :
    s.writeRecord r =
      State.requestHold { s with ulp := { s.ulp with reports := s.ulp.reports ++ [⟨r, s.ulp.now⟩] } } := if_pos h

/-- A generator at the release of HOLD. -/
def GenState.freed (g : GenState) : GenState := if g.run = .held then { g with run := .running } else g

theorem GenState.freed_eq (g : GenState) :
    ({ g with run := if (g.run == RunState.held) = true then RunState.running else g.run } : GenState) = g.freed := by
  by_cases h : g.run = .held
  · rw [GenState.freed, if_pos h, if_pos (beq_iff_eq.mpr h)]
  · rw [GenState.freed, if_neg h, if_neg (fun hh => h (beq_iff_eq.mp hh))]

theorem State.releaseHold_eq (s : State) : s.releaseHold =
    let t : State := { s with
      ulp := { s.ulp with hold := false }
      swg := { s.swg with genA := s.swg.genA.freed, genB := s.swg.genB.freed, holdAlert := false } }
    let u := if s.swg.genA.run = .held then t.startIfActive .a else t
    if s.swg.genB.run = .held then u.startIfActive .b else u := by
  unfold State.releaseHold State.releaseStart
  dsimp only [State.setUlp, State.setSwg]
  rw [GenState.freed_eq, GenState.freed_eq]
  simp only [beq_iff_eq]

/-- Settles O18: the marks test the count, and every start of a generator that is not STOPPED is an attempt. -/
theorem generatorStartsAndHold : Obligations.GeneratorStartsAndHold := by
  intro s
  refine ⟨rfl, fun r => ?_, ?_, ?_⟩
  · split
    case isTrue h => rw [State.writeRecord_of_mark r h, State.requestHold_eq]; rfl
    case isFalse h => rw [State.writeRecord_of_below r h]
  · rw [State.releaseIfLow, State.releaseHold_eq]
    rfl
  · rw [State.retestHold, State.releaseIfLow, State.releaseHold_eq, State.requestHold_eq]
    rfl

end Sys2Proof.Machine
end

section
/-! SUPPORT. The rehearsal generator: presentation lists and their order (section 10.3); settles O17. -/

namespace Sys2Proof.Machine

variable {s t : State}

/-! ### Expected records and their order (R188) -/

theorem mem_expectedRecords {holdings : List Holding} {h : Holding} {ref : Nat} :
    (h, ref) ∈ expectedRecords holdings ↔ holdings[ref]? = some h ∧ h.status.isExpected = true := by
  rw [expectedRecords, List.mem_filter, List.mem_zipIdx_iff_getElem?]

theorem length_expectedRecords (holdings : List Holding) :
    (expectedRecords holdings).length = holdings.countP (fun h => h.status.isExpected) := by
  have hfst : (holdings.zipIdx.map Prod.fst).countP (fun h => h.status.isExpected) =
      holdings.countP (fun h => h.status.isExpected) := by rw [List.zipIdx_map_fst]
  rw [← hfst, List.countP_map, List.countP_eq_length_filter]
  rfl

/-- The expected records stand in load order. -/
theorem expectedRecords_pairwise (holdings : List Holding) : (expectedRecords holdings).Pairwise (fun a b => a.2 < b.2) := by
  refine List.Pairwise.filter _ ?_
  rw [← List.pairwise_map (f := Prod.snd) (R := fun a b => a < b), List.zipIdx_map_snd]
  exact List.pairwise_lt_range'

/-- The order of a presentation list: by sort key, and by load order where keys are equal. -/
def Presents (a b : Holding × Nat) : Prop := a.1.key < b.1.key ∨ a.1.key = b.1.key ∧ a.2 < b.2

theorem mem_insertByKey {x y : Holding × Nat} {l : List (Holding × Nat)} : y ∈ insertByKey x l ↔ y = x ∨ y ∈ l := by
  induction l with
  | nil => simp [insertByKey]
  | cons z l ih =>
    rw [insertByKey]
    split
    · exact List.mem_cons
    · rw [List.mem_cons, ih, List.mem_cons]
      exact or_left_comm

/-- A later record is put behind those of its key. -/
theorem insertByKey_pairwise {x : Holding × Nat} {l : List (Holding × Nat)} (hl : l.Pairwise Presents)
    (hlater : ∀ y ∈ l, y.2 < x.2) : (insertByKey x l).Pairwise Presents := by
  induction l with
  | nil => exact List.pairwise_singleton _ x
  | cons z l ih =>
    obtain ⟨hz, hl'⟩ := List.pairwise_cons.mp hl
    rw [insertByKey]
    split
    case isTrue hlt =>
      refine List.pairwise_cons.mpr ⟨fun y hy => ?_, hl⟩
      obtain rfl | hy := List.mem_cons.mp hy
      · exact .inl hlt
      · rcases hz y hy with hkey | ⟨hkey, _⟩
        · exact .inl (hlt.trans hkey)
        · exact .inl (hkey ▸ hlt)
    case isFalse hle =>
      refine List.pairwise_cons.mpr ⟨fun y hy => ?_, ih hl' (fun y hy => hlater y (List.mem_cons_of_mem _ hy))⟩
      obtain rfl | hy := mem_insertByKey.mp hy
      · rcases Nat.lt_or_eq_of_le (Nat.le_of_not_lt hle) with hkey | hkey
        · exact .inl hkey
        · exact .inr ⟨hkey, hlater z List.mem_cons_self⟩
      · exact hz y hy

/-- The records presented in a section with their numbers, in load order. -/
def presentedHere (tst : Tst) (d : Nat) (x : SectionId) : List ((Holding × Nat) × Nat) :=
  (expectedRecords tst.holdings).zipIdx.filter (fun h => presentedIn tst.sections d (h.2 + 1) h.1.1 == some x)

/-- Records put one by one into key order. -/
def sortedByKey (l acc : List (Holding × Nat)) : List (Holding × Nat) := l.foldl (fun acc h => insertByKey h acc) acc

theorem presentationList_eq (tst : Tst) (d : Nat) (x : SectionId) :
    presentationList tst d x = (sortedByKey ((presentedHere tst d x).map Prod.fst) []).map Prod.snd := by
  rw [sortedByKey, List.foldl_map]
  rfl

theorem mem_sortedByKey {y : Holding × Nat} {l : List (Holding × Nat)} (acc : List (Holding × Nat)) :
    y ∈ sortedByKey l acc ↔ y ∈ l ∨ y ∈ acc := by
  induction l generalizing acc with
  | nil => simp [sortedByKey]
  | cons z l ih =>
    have hcons : sortedByKey (z :: l) acc = sortedByKey l (insertByKey z acc) := rfl
    rw [hcons, ih, mem_insertByKey, List.mem_cons]
    exact or_left_comm.trans or_assoc.symm

theorem sortedByKey_pairwise {l acc : List (Holding × Nat)} (hl : l.Pairwise (fun a b => a.2 < b.2)) (hacc : acc.Pairwise Presents)
    (hlater : ∀ y ∈ acc, ∀ z ∈ l, y.2 < z.2) : (sortedByKey l acc).Pairwise Presents := by
  induction l generalizing acc with
  | nil => exact hacc
  | cons z l ih =>
    obtain ⟨hz, hl⟩ := List.pairwise_cons.mp hl
    refine ih hl (insertByKey_pairwise hacc (fun y hy => hlater y hy z List.mem_cons_self)) (fun y hy w hw => ?_)
    obtain rfl | hy := mem_insertByKey.mp hy
    · exact hz w hw
    · exact hlater y hy w (List.mem_cons_of_mem _ hw)

theorem mem_presentedHere {tst : Tst} {d : Nat} {x : SectionId} {h : Holding × Nat} :
    h ∈ (presentedHere tst d x).map Prod.fst ↔
      ∃ k, (expectedRecords tst.holdings)[k]? = some h ∧ presentedIn tst.sections d (k + 1) h.1 = some x := by
  simp only [presentedHere, List.mem_map, List.mem_filter, List.mem_zipIdx_iff_getElem?, beq_iff_eq]
  constructor
  · rintro ⟨⟨g, k⟩, ⟨hat, hin⟩, rfl⟩
    exact ⟨k, hat, hin⟩
  · rintro ⟨k, hat, hin⟩
    exact ⟨(h, k), ⟨hat, hin⟩, rfl⟩

theorem presentedHere_pairwise (tst : Tst) (d : Nat) (x : SectionId) :
    ((presentedHere tst d x).map Prod.fst).Pairwise (fun a b => a.2 < b.2) := by
  refine List.Pairwise.sublist ?_ (expectedRecords_pairwise tst.holdings)
  have hsub := (List.filter_sublist
    (p := fun h : (Holding × Nat) × Nat => presentedIn tst.sections d (h.2 + 1) h.1.1 == some x)
    (l := (expectedRecords tst.holdings).zipIdx)).map Prod.fst
  rwa [List.zipIdx_map_fst] at hsub

/-! ### The section of a record (R188) -/

/-- The first element that meets a test. -/
theorem find?_of_first {α : Type} {l : List α} {p : α → Bool} {j : Nat} {a : α} (hat : l[j]? = some a) (hp : p a = true)
    (hfirst : ∀ m, m < j → ∀ b, l[m]? = some b → p b = false) : l.find? p = some a := by
  obtain ⟨hj, hget⟩ := List.getElem?_eq_some_iff.mp hat
  refine List.find?_eq_some_iff_getElem.mpr ⟨hp, j, hj, hget, fun m hm => ?_⟩
  rw [hfirst m hm _ (List.getElem?_eq_getElem _)]
  rfl

theorem find?_none_of {α : Type} {l : List α} {p : α → Bool} (hnone : ∀ (m : Nat) b, l[m]? = some b → p b = false) :
    l.find? p = none := by
  refine List.find?_eq_none.mpr (fun b hb => ?_)
  obtain ⟨m, hm⟩ := List.mem_iff_getElem?.mp hb
  rw [hnone m b hm]
  exact Bool.false_ne_true

theorem findSection_id {sections : List Section} {x : SectionId} {y : Section} (h : findSection sections x = some y) : y.id = x :=
  beq_iff_eq.mp (List.find?_some (p := fun y : Section => y.id == x) h)

theorem presentedIn_of_absent {sections : List Section} {d k : Nat} {h : Holding} (habsent : findSection sections h.home = none) :
    presentedIn sections d k h = none := by
  rw [presentedIn, habsent]

theorem presentedIn_of_home {sections : List Section} {d k : Nat} {h : Holding} {y : Section}
    (hfound : findSection sections h.home = some y) (hnot : d = 0 ∨ ¬d ∣ k) : presentedIn sections d k h = some h.home := by
  have hstays : ¬(d ≠ 0 ∧ k % d = 0) := fun hd => hnot.elim hd.1 (fun hk => hk (Nat.dvd_of_mod_eq_zero hd.2))
  rw [presentedIn, hfound]
  dsimp only
  rw [if_neg hstays, findSection_id hfound]

theorem presentedIn_of_moved {sections : List Section} {d k : Nat} {h : Holding} {y : Section}
    (hfound : findSection sections h.home = some y) (hd : d ≠ 0) (hk : d ∣ k) :
    presentedIn sections d k h = (nextInRun sections h.home).map Section.id := by
  rw [presentedIn, hfound]
  exact if_pos ⟨hd, Nat.mod_eq_zero_of_dvd hk⟩

theorem nextInRun_eq {sections : List Section} {x : SectionId} {i : Nat} {y : Section}
    (hfound : findSection sections x = some y) (hindex : sectionIndex sections x = some i) : nextInRun sections x =
      (sections.drop (i + 1)).find? (fun z => z.side == y.side && z.level == y.level) := by
  rw [nextInRun, hfound, hindex]

theorem nextInRun_eq_some {sections : List Section} {x : SectionId} {i j : Nat} {y z : Section}
    (hfound : findSection sections x = some y) (hindex : sectionIndex sections x = some i) (hij : i < j)
    (hz : sections[j]? = some z) (hside : z.side = y.side) (hlevel : z.level = y.level)
    (hfirst : ∀ m, i < m → m < j → ∀ x, sections[m]? = some x → ¬(x.side = y.side ∧ x.level = y.level)) :
    nextInRun sections x = some z := by
  rw [nextInRun_eq hfound hindex]
  refine find?_of_first (j := j - (i + 1)) ?_ (by simp [hside, hlevel]) (fun m hm b hb => ?_)
  · rw [List.getElem?_drop, ← hz]
    congr 1
    omega
  · rw [List.getElem?_drop] at hb
    have hnot := hfirst (i + 1 + m) (by omega) (by omega) b hb
    simpa using hnot

theorem nextInRun_eq_none {sections : List Section} {x : SectionId} {i : Nat} {y : Section}
    (hfound : findSection sections x = some y) (hindex : sectionIndex sections x = some i)
    (hnone : ∀ m, i < m → ∀ x, sections[m]? = some x → ¬(x.side = y.side ∧ x.level = y.level)) :
    nextInRun sections x = none := by
  rw [nextInRun_eq hfound hindex]
  refine find?_none_of (fun m b hb => ?_)
  rw [List.getElem?_drop] at hb
  have hnot := hnone (i + 1 + m) (by omega) b hb
  simpa using hnot

/-! ### A list depends on the loaded fields alone -/

/-- A record as its load left it. -/
def Holding.asLoaded (l : TagCode × Nat × SectionId × ItemStatus) : Holding := ⟨l.1, l.2.1, l.2.2.1, l.2.2.2, .unseen⟩

/-- A section as its load left it. -/
def Section.asLoaded (l : SectionId × Side × Nat) : Section :=
  ⟨l.1, l.2.1, l.2.2, 0, .unvisited, .unknown, false, false, false, false, none, []⟩

/-- A record with its mark forgotten. -/
def Holding.bare (h : Holding) : Holding := Holding.asLoaded h.loaded

/-- A section with its pass fields forgotten. -/
def Section.bare (y : Section) : Section := Section.asLoaded y.loaded

theorem expectedRecords_bare (holdings : List Holding) :
    expectedRecords (holdings.map Holding.bare) = (expectedRecords holdings).map (Prod.map Holding.bare id) := by
  rw [expectedRecords, List.zipIdx_map, List.filter_map]
  rfl

theorem findSection_bare (sections : List Section) (x : SectionId) :
    findSection (sections.map Section.bare) x = (findSection sections x).map Section.bare := List.find?_map

theorem sectionIndex_bare (sections : List Section) (x : SectionId) :
    sectionIndex (sections.map Section.bare) x = sectionIndex sections x := List.findIdx?_map

theorem nextInRun_bare (sections : List Section) (x : SectionId) :
    (nextInRun (sections.map Section.bare) x).map Section.id = (nextInRun sections x).map Section.id := by
  rw [nextInRun, nextInRun, findSection_bare, sectionIndex_bare]
  cases sectionIndex sections x with
  | none => rfl
  | some i =>
    cases findSection sections x with
    | none => rfl
    | some y =>
      dsimp only [Option.map_some]
      rw [← List.map_drop, List.find?_map, Option.map_map]
      rfl

theorem presentedIn_bare (sections : List Section) (d k : Nat) (h : Holding) :
    presentedIn (sections.map Section.bare) d k h.bare = presentedIn sections d k h := by
  have hhome : h.bare.home = h.home := rfl
  rw [presentedIn, presentedIn, hhome, findSection_bare, nextInRun_bare]
  cases findSection sections h.home with
  | none => rfl
  | some y => rfl

theorem insertByKey_bare (x : Holding × Nat) (l : List (Holding × Nat)) :
    insertByKey (Prod.map Holding.bare id x) (l.map (Prod.map Holding.bare id)) =
      (insertByKey x l).map (Prod.map Holding.bare id) := by
  induction l with
  | nil => rfl
  | cons y l ih =>
    rw [List.map_cons, insertByKey, insertByKey, ih, apply_ite (List.map (Prod.map Holding.bare id))]
    rfl

theorem sortedByKey_bare (l acc : List (Holding × Nat)) :
    sortedByKey (l.map (Prod.map Holding.bare id)) (acc.map (Prod.map Holding.bare id)) =
      (sortedByKey l acc).map (Prod.map Holding.bare id) := by
  induction l generalizing acc with
  | nil => rfl
  | cons x l ih =>
    have hcons : sortedByKey (x :: l) acc = sortedByKey l (insertByKey x acc) := rfl
    rw [hcons, ← ih, ← insertByKey_bare]
    rfl

theorem presentationList_bare (tst : Tst) (d : Nat) (x : SectionId) :
    presentationList ⟨tst.holdings.map Holding.bare, tst.sections.map Section.bare⟩ d x = presentationList tst d x := by
  have hhere : (presentedHere ⟨tst.holdings.map Holding.bare, tst.sections.map Section.bare⟩ d x).map Prod.fst =
      ((presentedHere tst d x).map Prod.fst).map (Prod.map Holding.bare id) := by
    simp only [presentedHere, expectedRecords_bare, List.zipIdx_map, List.filter_map, List.map_map]
    have htest : ((fun h : (Holding × Nat) × Nat =>
        presentedIn (tst.sections.map Section.bare) d (h.2 + 1) h.1.1 == some x) ∘
          Prod.map (Prod.map Holding.bare id) id) =
        fun h : (Holding × Nat) × Nat => presentedIn tst.sections d (h.2 + 1) h.1.1 == some x := by
      funext h
      change (presentedIn (tst.sections.map Section.bare) d (h.2 + 1) h.1.1.bare == some x) = _
      rw [presentedIn_bare]
    rw [htest]
    rfl
  have hsorted := sortedByKey_bare ((presentedHere tst d x).map Prod.fst) []
  rw [presentationList_eq, presentationList_eq, hhere]
  change (sortedByKey _ (([] : List (Holding × Nat)).map (Prod.map Holding.bare id))).map Prod.snd = _
  rw [hsorted, List.map_map]
  rfl

/-- Settles O17: the list is the records presented, sorted stably; the loaded fields decide all of it. -/
theorem presentationLists : Obligations.PresentationLists := by
  refine ⟨fun tst d x => ⟨fun ref => ?_, ?_⟩, fun sections d k h => ⟨presentedIn_of_absent, fun hpresent hnot => ?_,
    fun i y hfound hindex hd hk => ⟨fun j z hij hz hside hlevel hfirst => ?_, fun hnone => ?_⟩⟩,
    fun a b d x hholdings hsections => ?_⟩
  · rw [presentationList_eq, List.mem_map]
    constructor
    · rintro ⟨⟨h, r⟩, hmem, rfl⟩
      obtain hmem | hmem := (mem_sortedByKey []).mp hmem
      · obtain ⟨k, hat, hin⟩ := mem_presentedHere.mp hmem
        exact ⟨k, h, hat, hin⟩
      · contradiction
    · rintro ⟨k, h, hat, hin⟩
      exact ⟨(h, ref), (mem_sortedByKey []).mpr (.inl (mem_presentedHere.mpr ⟨k, hat, hin⟩)), rfl⟩
  · have hsorted := sortedByKey_pairwise (presentedHere_pairwise tst d x) List.Pairwise.nil (fun _ hy => nomatch hy)
    have hrecord (g : Holding × Nat) (hg : g ∈ sortedByKey ((presentedHere tst d x).map Prod.fst) []) :
        tst.holdings[g.2]? = some g.1 := by
      obtain hmem | hmem := (mem_sortedByKey []).mp hg
      · obtain ⟨k, hat, _⟩ := mem_presentedHere.mp hmem
        exact (mem_expectedRecords.mp (List.mem_of_getElem? hat)).1
      · contradiction
    rw [presentationList_eq, List.pairwise_map]
    refine hsorted.imp_of_mem (fun {a b} ha hb hab f hf g hg => ?_)
    rw [hrecord a ha] at hf
    rw [hrecord b hb] at hg
    obtain rfl := Option.some.inj hf
    obtain rfl := Option.some.inj hg
    exact hab
  · obtain ⟨y, hy⟩ := Option.ne_none_iff_exists'.mp hpresent
    exact presentedIn_of_home hy hnot
  · rw [presentedIn_of_moved hfound hd hk, nextInRun_eq_some hfound hindex hij hz hside hlevel hfirst]
    rfl
  · rw [presentedIn_of_moved hfound hd hk, nextInRun_eq_none hfound hindex hnone]
    rfl
  · have hh : a.holdings.map Holding.bare = b.holdings.map Holding.bare := by
      have := congrArg (List.map Holding.asLoaded) hholdings
      rwa [List.map_map, List.map_map] at this
    have hs : a.sections.map Section.bare = b.sections.map Section.bare := by
      have := congrArg (List.map Section.asLoaded) hsections
      rwa [List.map_map, List.map_map] at this
    rw [← presentationList_bare a, ← presentationList_bare b, hh, hs]

end Sys2Proof.Machine
end

section
/-! SUPPORT. The rehearsal generator at a sweep start: its cursor over the sections, and what it writes (section 10.3); settles
O16. -/

namespace Sys2Proof.Machine

variable {s t : State}

/-! ### The cursor (R189, R190) -/

theorem State.nextDriven_eq_none {i : Nat} (h : ∀ y ∈ s.tst.sections.drop i, s.swg.driver y.side = none) :
    s.nextDriven i = none := by
  rw [State.nextDriven, Option.map_eq_none_iff]
  refine find?_none_of (fun m b hb => ?_)
  obtain ⟨y, hy, rfl⟩ : ∃ y, s.tst.sections[i + m]? = some y ∧ (y, i + m) = b := by
    rw [List.getElem?_drop, List.getElem?_zipIdx] at hb
    simpa using hb
  have hmem : y ∈ s.tst.sections.drop i := by
    rw [← List.getElem?_drop] at hy
    exact List.mem_of_getElem? hy
  change (s.swg.driver y.side).isSome = false
  rw [h y hmem]
  rfl

theorem State.nextDriven_eq_some {i j : Nat} {y : Section} (hij : i ≤ j) (hat : s.tst.sections[j]? = some y)
    (hdriven : s.swg.driver y.side ≠ none)
    (hfirst : ∀ m, i ≤ m → m < j → ∀ z, s.tst.sections[m]? = some z → s.swg.driver z.side = none) :
    s.nextDriven i = some j := by
  have hfind : (s.tst.sections.zipIdx.drop i).find? (fun y => (s.swg.driver y.1.side).isSome) = some (y, j) := by
    refine find?_of_first (j := j - i) ?_ (Option.isSome_iff_ne_none.mpr hdriven) (fun m hm b hb => ?_)
    · rw [List.getElem?_drop, List.getElem?_zipIdx, Nat.add_sub_cancel' hij, hat]
      simp
    · obtain ⟨z, hz, rfl⟩ : ∃ z, s.tst.sections[i + m]? = some z ∧ (z, i + m) = b := by
        rw [List.getElem?_drop, List.getElem?_zipIdx] at hb
        simpa using hb
      change (s.swg.driver z.side).isSome = false
      rw [hfirst (i + m) (Nat.le_add_right i m) (by omega) z hz]
      rfl
  rw [State.nextDriven, hfind]
  rfl

/-- RHG with the section of sequence index `j` taken as current. -/
def State.presenting (s : State) (j : Nat) : State := { s with rhg := { s.rhg with
  run := .presenting, current := some j, sweeps := 0
  list := presentationList s.tst (s.rhg.displacement.getD 0) ((s.tst.sections[j]?.map Section.id).getD 0)
  ordinal :=
    if s.rhg.displacement.getD 0 = 0 then s.rhg.ordinal else s.tst.holdings.countP (fun h => h.status.isExpected) } }

theorem State.rhgTake_of_none {i : Nat} (h : s.nextDriven i = none) : s.rhgTake i =
    State.internalClose { s with rhg := { s.rhg with run := .idle, current := none, list := [], sweeps := 0 } } .complete := by
  unfold State.rhgTake
  rw [h]
  rfl

theorem State.rhgTake_of_some {i j : Nat} (h : s.nextDriven i = some j) : s.rhgTake i = s.presenting j := by
  unfold State.rhgTake
  rw [h]
  dsimp only
  rw [length_expectedRecords]
  rfl

/-- The cursor moved: a section is presented, or the generator is idle. -/
theorem State.rhgTake_cases (s : State) (i : Nat) :
    (s.rhgTake i).rhg.run = .idle ∧ (s.rhgTake i).rhg.current = none ∨ ∃ j, s.rhgTake i = s.presenting j := by
  cases h : s.nextDriven i with
  | none =>
    refine .inl ?_
    rw [State.rhgTake_of_none h, State.internalClose_eq]
    split
    · exact ⟨rfl, rfl⟩
    · exact ⟨rfl, rfl⟩
  | some j => exact .inr ⟨j, State.rhgTake_of_some h⟩

/-! ### At a sweep start (R189) -/

theorem State.arrive_rhg (s : State) (e : ReadEntry) : (s.arrive e).rhg = s.rhg := by simp

theorem State.rhgStart_of_waiting (h : s.rhg.run = .waiting) (sides : List Side) (sweep : Nat) (isB : Bool) :
    s.rhgStart sides sweep isB =
      if s.swg.runMode = .free ∨ (isB = false ∧ 2 ≤ sweep) then (s.rhgTake 0).rhgAdvance sides sweep else s := if_pos h

theorem State.rhgStart_of_not_waiting (h : s.rhg.run ≠ .waiting) (sides : List Side) (sweep : Nat) (isB : Bool) :
    s.rhgStart sides sweep isB = s.rhgAdvance sides sweep := if_neg h

theorem State.rhgTake_not_waiting (s : State) (i : Nat) : (s.rhgTake i).rhg.run ≠ .waiting := by
  obtain ⟨hidle, _⟩ | ⟨j, hj⟩ := s.rhgTake_cases i
  · rw [hidle]
    decide
  · rw [hj]
    exact RhgState.noConfusion

theorem State.rhgFacing_of_presenting {j : Nat} {y : Section} (hrun : s.rhg.run = .presenting) (hcurrent : s.rhg.current = some j)
    (hat : s.tst.sections[j]? = some y) (sides : List Side) : s.rhgFacing sides = if y.side ∈ sides then some y else none := by
  have hsection : s.rhgSection = some y := by simp only [State.rhgSection, hrun, hcurrent, hat]
  rw [State.rhgFacing, hsection]

theorem State.rhgFacing_of_idle (hrun : s.rhg.run ≠ .presenting) (sides : List Side) : s.rhgFacing sides = none := by
  have hsection : s.rhgSection = none := by
    unfold State.rhgSection
    split
    case h_1 i hpresenting _ => exact absurd hpresenting hrun
    case h_2 => rfl
  rw [State.rhgFacing, hsection]

theorem State.rhgAdvance_of_away {sides : List Side} (h : s.rhgFacing sides = none) (sweep : Nat) :
    s.rhgAdvance sides sweep = s := by
  rw [State.rhgAdvance, h]

/-- What RHG writes: the marker, the record of the count, or nothing. -/
theorem State.rhgRead_marker (h : s.rhg.sweeps = 0) (y : Section) (sweep : Nat) : s.rhgRead y sweep =
    some (s.rhgEntry (portAt y.side y.level) (markerTag s.params.markerClass y.id) 255 sweep) := if_pos h

theorem State.rhgRead_record {ref : Nat} {h : Holding} (hsweeps : s.rhg.sweeps ≠ 0)
    (href : s.rhg.list[s.rhg.sweeps - 1]? = some ref) (hat : s.tst.holdings[ref]? = some h) (y : Section) (sweep : Nat) :
    s.rhgRead y sweep = some (s.rhgEntry (portAt y.side y.level) h.tag 200 sweep) := by
  simp only [State.rhgRead, if_neg hsweeps, href, hat]

theorem State.rhgRead_none (hsweeps : s.rhg.list.length < s.rhg.sweeps) (y : Section) (sweep : Nat) :
    s.rhgRead y sweep = none := by
  have hpos : s.rhg.sweeps ≠ 0 := by omega
  have hover : s.rhg.list[s.rhg.sweeps - 1]? = none := List.getElem?_eq_none (by omega)
  simp only [State.rhgRead, if_neg hpos, hover]

/-- The section sweep count set. -/
def State.countedTo (s : State) (k : Nat) : State := { s with rhg := { s.rhg with sweeps := k } }

theorem State.rhgPresent_of_read {y : Section} {sweep : Nat} {e : ReadEntry} (h : s.rhgRead y sweep = some e) :
    s.rhgPresent y sweep = (s.arrive e).countedTo (s.rhg.sweeps + 1) := by
  unfold State.rhgPresent
  rw [h]
  dsimp only
  rw [State.arrive_rhg, State.countedTo, State.arrive_rhg]
  rfl

theorem State.rhgPresent_of_nothing {y : Section} {sweep : Nat} (h : s.rhgRead y sweep = none) :
    s.rhgPresent y sweep = s.countedTo (s.rhg.sweeps + 1) := by
  unfold State.rhgPresent
  rw [h]
  rfl

theorem State.rhgPresent_rhg (s : State) (y : Section) (sweep : Nat) :
    (s.rhgPresent y sweep).rhg = { s.rhg with sweeps := s.rhg.sweeps + 1 } := by
  cases h : s.rhgRead y sweep with
  | none => rw [State.rhgPresent_of_nothing h]; rfl
  | some e => rw [State.rhgPresent_of_read h, State.countedTo, State.arrive_rhg]

/-- The state at the end of a section's span: the cursor moves to the sections behind it. -/
def State.rhgNext (s : State) (y : Section) (sweep : Nat) : State :=
  (s.rhgPresent y sweep).rhgTake (s.rhg.current.getD 0 + 1)

theorem State.rhgAdvance_of_short {sides : List Side} {y : Section} {sweep : Nat} (h : s.rhgFacing sides = some y)
    (hshort : s.rhg.sweeps + 1 < s.rhg.span) : s.rhgAdvance sides sweep = s.rhgPresent y sweep := by
  have hpresent := s.rhgPresent_rhg y sweep
  have hspan : (s.rhgPresent y sweep).rhg.sweeps < (s.rhgPresent y sweep).rhg.span := by
    rw [hpresent]
    exact hshort
  simp only [State.rhgAdvance, h, if_pos hspan]

/-- At the end of the span the next section's marker is written where its side is at this start. -/
theorem State.rhgAdvance_of_done {sides : List Side} {y : Section} {sweep : Nat} (h : s.rhgFacing sides = some y)
    (hdone : ¬s.rhg.sweeps + 1 < s.rhg.span) :
    ((s.rhgNext y sweep).rhgFacing sides = none → s.rhgAdvance sides sweep = s.rhgNext y sweep) ∧
    ∀ z, (s.rhgNext y sweep).rhgFacing sides = some z →
      s.rhgAdvance sides sweep = (s.rhgNext y sweep).rhgPresent z sweep := by
  have hpresent := s.rhgPresent_rhg y sweep
  have hspan : ¬(s.rhgPresent y sweep).rhg.sweeps < (s.rhgPresent y sweep).rhg.span := by
    rw [hpresent]
    exact hdone
  have hcurrent : (s.rhgPresent y sweep).rhg.current = s.rhg.current := by rw [hpresent]
  have hadvance : s.rhgAdvance sides sweep =
      ((s.rhgNext y sweep).rhgFacing sides).elim (s.rhgNext y sweep) (fun z => (s.rhgNext y sweep).rhgPresent z sweep) := by
    simp only [State.rhgAdvance, h, if_neg hspan, hcurrent]
    unfold State.rhgNext
    cases ((s.rhgPresent y sweep).rhgTake (s.rhg.current.getD 0 + 1)).rhgFacing sides with
    | none => rfl
    | some z => rfl
  rw [hadvance]
  exact ⟨fun hnone => by rw [hnone]; rfl, fun z hz => by rw [hz]; rfl⟩

/-- Settles O16: the marker, the records in turn, the rest of the span, and the next section. -/
theorem rehearsalPresents : Obligations.RehearsalPresents := by
  intro s sides sweep isB
  refine ⟨fun hidle => ?_, fun hwaiting => ?_, fun j y hrun hcurrent hat => ?_, fun i => ⟨fun hnone => ?_,
    fun j y hij hat hdriven hfirst => ?_⟩⟩
  · rw [State.rhgStart_of_not_waiting (by rw [hidle]; decide),
      State.rhgAdvance_of_away (State.rhgFacing_of_idle (by rw [hidle]; decide) sides)]
  · rw [State.rhgStart_of_waiting hwaiting, State.rhgStart_of_not_waiting (State.rhgTake_not_waiting s 0)]
  · have hstart : s.rhgStart sides sweep isB = s.rhgAdvance sides sweep :=
      State.rhgStart_of_not_waiting (by rw [hrun]; decide) _ _ _
    have hfacing := State.rhgFacing_of_presenting hrun hcurrent hat sides
    have hspan : s.rhg.span = max (s.rhg.pace.getD 0) (s.rhg.list.length + 2) := rfl
    rw [hstart]
    refine ⟨fun hside => ?_, fun hside hshort => ?_, fun hside hend => ?_⟩
    · rw [if_neg hside] at hfacing
      exact State.rhgAdvance_of_away hfacing sweep
    · rw [if_pos hside] at hfacing
      have hpresent : s.rhgAdvance sides sweep = s.rhgPresent y sweep := by
        exact State.rhgAdvance_of_short hfacing (hspan ▸ hshort)
      rw [hpresent]
      refine ⟨fun hk => ?_, fun ref h hk href hh => ?_, fun hover => ?_⟩
      · rw [State.rhgPresent_of_read (State.rhgRead_marker hk y sweep), hk]
        rfl
      · rw [State.rhgPresent_of_read (State.rhgRead_record (by omega) href hh y sweep)]
        rfl
      · rw [State.rhgPresent_of_nothing (State.rhgRead_none hover y sweep)]
        rfl
    · rw [if_pos hside] at hfacing
      have hover : s.rhg.list.length < s.rhg.sweeps := by
        have := Nat.le_max_right (s.rhg.pace.getD 0) (s.rhg.list.length + 2)
        omega
      have hlong : ¬s.rhg.sweeps + 1 < s.rhg.span := by rw [hspan, ← hend]; exact Nat.lt_irrefl _
      obtain ⟨haway, hmarker⟩ := State.rhgAdvance_of_done (sweep := sweep) hfacing hlong
      have hnext : s.rhgNext y sweep = (s.countedTo (s.rhg.sweeps + 1)).rhgTake (j + 1) := by
        rw [State.rhgNext, State.rhgPresent_of_nothing (State.rhgRead_none hover y sweep), hcurrent]
        rfl
      rw [hnext] at haway hmarker
      change (((s.countedTo (s.rhg.sweeps + 1)).rhgTake (j + 1)).rhg.current = none → _) ∧
        ∀ i z, ((s.countedTo (s.rhg.sweeps + 1)).rhgTake (j + 1)).rhg.current = some i →
          ((s.countedTo (s.rhg.sweeps + 1)).rhgTake (j + 1)).tst.sections[i]? = some z → _
      obtain ⟨hidle, hgone⟩ | ⟨m, hm⟩ := (s.countedTo (s.rhg.sweeps + 1)).rhgTake_cases (j + 1)
      · refine ⟨fun _ => haway (State.rhgFacing_of_idle (by rw [hidle]; decide) sides), fun i z hi => ?_⟩
        rw [hgone] at hi
        contradiction
      · have hcursor : ((s.countedTo (s.rhg.sweeps + 1)).rhgTake (j + 1)).rhg.current = some m := by rw [hm]; rfl
        refine ⟨fun hleft => ?_, fun i z hi hz => ?_⟩
        · rw [hcursor] at hleft
          contradiction
        · obtain rfl : m = i := Option.some.inj (hcursor.symm.trans hi)
          have hpresenting : ((s.countedTo (s.rhg.sweeps + 1)).rhgTake (j + 1)).rhg.run = .presenting := by rw [hm]; rfl
          have hface := State.rhgFacing_of_presenting hpresenting hcursor hz sides
          by_cases hz' : z.side ∈ sides
          · rw [if_pos hz'] at hface ⊢
            have hzero : ((s.countedTo (s.rhg.sweeps + 1)).rhgTake (j + 1)).rhg.sweeps = 0 := by rw [hm]; rfl
            have hentry : ((s.countedTo (s.rhg.sweeps + 1)).rhgTake (j + 1)).rhgEntry (portAt z.side z.level)
                (markerTag ((s.countedTo (s.rhg.sweeps + 1)).rhgTake (j + 1)).params.markerClass z.id) 255 sweep =
                s.rhgEntry (portAt z.side z.level) (markerTag s.params.markerClass z.id) 255 sweep := by
              rw [hm]
              rfl
            rw [hmarker z hface, State.rhgPresent_of_read (State.rhgRead_marker hzero z sweep), hzero, hentry]
            rfl
          · rw [if_neg hz'] at hface ⊢
            exact haway hface
  · rw [State.rhgTake_of_none (State.nextDriven_eq_none hnone), State.internalClose_eq]
  · rw [State.rhgTake_of_some (State.nextDriven_eq_some hij hat hdriven hfirst), State.presenting, hat]
    rfl

end Sys2Proof.Machine
end

section
/-! SUPPORT. The calibration run: its outcome, its completion and its start (Chapter 2), with what a sweep start leaves to the
exchange that makes it; settles O20, O21 and O22. -/

namespace Sys2Proof.Machine

variable {s t : State} {f : MgmtFrame} {rest : List MgmtFrame}

/-! ### The outcome of a port (R35 to R37) -/

theorem meanOf_of_pos {sum count : Nat} (h : count ≠ 0) : meanOf sum count = some ((sum + count / 2) / count) := if_neg h

theorem ScuPort.outcome_of_few {c : ScuPort} {n tNear tFar : Nat} (h : c.nearCount < n / 2 ∨ c.farCount < n / 2) :
    c.outcome n tNear tFar = c.fail := if_pos h

theorem ScuPort.outcome_of_enough {c : ScuPort} {n tNear tFar : Nat} (hn : 2 ≤ n) (hnear : n / 2 ≤ c.nearCount)
    (hfar : n / 2 ≤ c.farCount) : c.outcome n tNear tFar =
      if (c.nearSum + c.nearCount / 2) / c.nearCount ≤ (c.farSum + c.farCount / 2) / c.farCount then c.fail
      else c.fit tNear tFar ((c.nearSum + c.nearCount / 2) / c.nearCount) ((c.farSum + c.farCount / 2) / c.farCount) := by
  have henough : ¬(c.nearCount < n / 2 ∨ c.farCount < n / 2) := by omega
  have hnear' : c.nearCount ≠ 0 := by omega
  have hfar' : c.farCount ≠ 0 := by omega
  unfold ScuPort.outcome
  rw [if_neg henough, meanOf_of_pos hnear', meanOf_of_pos hfar']

/-- A gain of the range and an offset without a clamp take the FAR mean to the target within 2: two roundings, of R37 and of
R27. -/
theorem convert_far_mean {mFar tFar g : Nat} (hlow : 256 ≤ g) (hhigh : g ≤ 4095) (htarget : tFar ≤ 255) :
    convert ((mFar : Int) - ((tFar * 1024 + g / 2) / g : Nat)) g mFar ≤ tFar + 2 ∧
    tFar ≤ convert ((mFar : Int) - ((tFar * 1024 + g / 2) / g : Nat)) g mFar + 2 := by
  generalize hq : (tFar * 1024 + g / 2) / g = q
  have hdiff : (mFar : Int) - ((mFar : Int) - (q : Nat)) = q := by omega
  have hbelow : q * g ≤ tFar * 1024 + g / 2 := hq ▸ Nat.div_mul_le_self _ _
  have habove : tFar * 1024 + g / 2 < q * g + g := by
    have := Nat.lt_div_mul_add (a := tFar * 1024 + g / 2) (b := g) (by omega)
    rwa [hq] at this
  unfold convert
  rw [hdiff, Int.toNat_natCast]
  split
  case isTrue hzero =>
    obtain rfl : q = 0 := by omega
    omega
  case isFalse => omega

/-- Settles O20: the counts and the means decide the three outcomes. -/
theorem calibrationOutcome : Obligations.CalibrationOutcome := by
  intro c n tNear tFar hn
  refine ⟨fun hfail => ?_, fun hnear hfar hmeans => ?_, fun _ _ _ _ ho htarget => ?_⟩
  · by_cases hfew : c.nearCount < n / 2 ∨ c.farCount < n / 2
    · exact ScuPort.outcome_of_few hfew
    · have hmeans := (hfail.resolve_left (fun h => hfew (.inl h))).resolve_left (fun h => hfew (.inr h))
      rw [ScuPort.outcome_of_enough hn (by omega) (by omega), if_pos hmeans]
      rfl
  · rw [ScuPort.outcome_of_enough hn hnear hfar, if_neg (Nat.not_le_of_lt hmeans)]
    rfl
  · have hfar := convert_far_mean (mFar := (c.farSum + c.farCount / 2) / c.farCount) (tFar := tFar)
      (Nat.le_max_left 256 (min 4095 (rawGain tNear tFar
        ((c.nearSum + c.nearCount / 2) / c.nearCount - (c.farSum + c.farCount / 2) / c.farCount))))
      (Nat.max_le.mpr ⟨by decide, Nat.min_le_left 4095 _⟩) htarget
    dsimp only at ho ⊢
    rw [ho]
    exact hfar

/-! ### The end of a run (R34, R38) -/

theorem State.queuesEmpty_iff (s : State) : s.queuesEmpty = true ↔ ∀ p : Port, s.piq[p].queue = [] := by
  rw [State.queuesEmpty, List.all_eq_true]
  constructor
  · intro h p
    exact List.isEmpty_iff.mp (h s.piq[p] (by simp))
  · intro h q hq
    obtain ⟨i, hi, rfl⟩ := List.mem_iff_getElem.mp hq
    have hport := h ⟨i, by simpa using hi⟩
    simpa using hport

theorem State.calibrationDone_iff (s : State) : s.calibrationDone = true ↔
    s.psc.state = .calibrating ∧ s.swg.genA.run = .stopped ∧ s.swg.genB.run = .stopped ∧ s.spe.work = .idle ∧
      ∀ p : Port, s.piq[p].queue = [] := by
  simp only [State.calibrationDone, Bool.and_eq_true, beq_iff_eq, State.queuesEmpty_iff, and_assoc]

/-- Every port of SCU updated by itself. -/
theorem State.forPorts_modScu (s : State) (g : Port → ScuPort → ScuPort) :
    s.forPorts (fun p t => t.modScu p (g p)) =
      { s with scu := { s.scu with ports := Vector.ofFn (fun p : Port => g p s.scu.ports[p]) } } := by
  have hvisited := forPorts_visited
    (fun v => { s with scu := { s.scu with
      ports := Vector.ofFn (fun p => if v p then g p s.scu.ports[p] else s.scu.ports[p]) } })
    (fun p t => t.modScu p (g p)) (fun p v hv => by
      have hset := ofFn_set_update (fun q b => if b then g q s.scu.ports[q] else s.scu.ports[q]) v p
        (x := g p (Vector.ofFn (fun q => if v q then g q s.scu.ports[q] else s.scu.ports[q]))[p])
        (by rw [getElem_ofFn_port, hv]; rfl)
      unfold State.modScu
      rw [modifyAt_eq_set, hset]
      rfl)
  simp only [Bool.false_eq_true, if_false, if_true, ofFn_getElem_port] at hvisited
  exact hvisited

theorem ScuPort.any_spoils (g : Port → ScuPort) : (!(Vector.ofFn g).toList.any ScuPort.spoils) =
    decide (∀ p : Port, (g p).status ≠ .failed ∧ (g p).status ≠ .clamped) := by
  rw [Bool.eq_iff_iff, Bool.not_eq_true', List.any_eq_false, decide_eq_true_eq]
  have hspoils (c : ScuPort) : ¬c.spoils = true ↔ c.status ≠ .failed ∧ c.status ≠ .clamped := by
    rw [ScuPort.spoils, Bool.or_eq_true, beq_iff_eq, beq_iff_eq, not_or]
  constructor
  · intro h p
    refine (hspoils _).mp (h (g p) ?_)
    simp
  · intro h c hc
    obtain ⟨i, hi, rfl⟩ := List.mem_iff_getElem.mp hc
    refine (hspoils _).mpr ?_
    simpa using h ⟨i, by simpa using hi⟩

theorem State.portOutcome_eq (s : State) (p : Port) (c : ScuPort) : s.portOutcome p c =
    { (if s.swg.driver (portSide p) ≠ none then c.outcome s.params.calWindow s.params.tNear s.params.tFar
        else { c with status := .notRun, last := ⟨0, none, 0, none⟩ }) with
      nearSum := 0, nearCount := 0, farSum := 0, farCount := 0, carryOver := 0 } := by
  have hdriven : s.portDriven p = true ↔ s.swg.driver (portSide p) ≠ none := Option.isSome_iff_ne_none
  rw [State.portOutcome, if_congr hdriven rfl rfl]
  rfl

/-- Settles O21: the outcomes are formed from one state, port by port. -/
theorem calibrationCompletes : Obligations.CalibrationCompletes := by
  intro s hline
  have hlive : exec .calibrationComplete s = .next (calibrationCompleteStep s) := live_of_released hline _
  refine ⟨fun hready => ?_, fun hnot => ?_⟩
  · have happly := s.forPorts_modScu s.portOutcome
    rw [hlive, calibrationCompleteStep, if_pos ((State.calibrationDone_iff s).mpr hready), State.applyOutcomes, happly]
    simp only [State.portOutcome_eq, State.stopGenerators, State.setScu, State.setSwg, State.setPsc, ScuPort.any_spoils]
    rfl
  · rw [hlive, calibrationCompleteStep, if_neg (fun h => hnot ((State.calibrationDone_iff s).mp h))]

/-! ### What a sweep start leaves alone -/

/-- What a start, a hold and its release never change: which generator drives each side, and the replies. -/
def State.underway (s : State) : (SweepMode × Assign × Assign) × List Reply :=
  ((s.swg.runMode, s.swg.runLeft, s.swg.runRight), s.ulp.replies)

@[simp] theorem State.setSwg_underway (s : State) (w : Swg)
    (h : (w.runMode, w.runLeft, w.runRight) = (s.swg.runMode, s.swg.runLeft, s.swg.runRight)) :
    (s.setSwg w).underway = s.underway := congrArg (fun x => (x, s.ulp.replies)) h

@[simp] theorem State.setUlp_underway (s : State) (u : Ulp) (h : u.replies = s.ulp.replies) :
    (s.setUlp u).underway = s.underway :=
  congrArg (fun x => ((s.swg.runMode, s.swg.runLeft, s.swg.runRight), x)) h

@[simp] theorem State.postAlert_underway (s : State) (x : Alert) : (s.postAlert x).underway = s.underway := rfl

@[simp] theorem State.modGen_underway (s : State) (g : Generator) (f : GenState → GenState) :
    (s.modGen g f).underway = s.underway := by
  cases g
  · rfl
  · rfl

@[simp] theorem State.internalClose_underway (s : State) (r : EndReason) : (s.internalClose r).underway = s.underway := by
  unfold State.internalClose
  split
  · rfl
  · rfl

@[simp] theorem State.arrive_underway (s : State) (e : ReadEntry) : (s.arrive e).underway = s.underway := by
  have hover (p : Port) : (s.overflowDrop p).underway = s.underway := by
    unfold State.overflowDrop
    split
    · rfl
    · rfl
  have hwake (p : Port) : (s.wake p).underway = s.underway := by
    unfold State.wake
    split
    · rfl
    · rfl
  unfold State.arrive
  split
  · rfl
  · split
    · rfl
    · split
      · exact hover _
      · exact hwake _

@[simp] theorem State.rhgTake_underway (s : State) (i : Nat) : (s.rhgTake i).underway = s.underway := by
  unfold State.rhgTake
  split
  · exact State.internalClose_underway _ _
  · rfl

@[simp] theorem State.rhgPresent_underway (s : State) (y : Section) (n : Nat) : (s.rhgPresent y n).underway = s.underway := by
  cases h : s.rhgRead y n with
  | none => rw [State.rhgPresent_of_nothing h]; rfl
  | some e => rw [State.rhgPresent_of_read h]; exact s.arrive_underway e

@[simp] theorem State.rhgAdvance_underway (s : State) (l : List Side) (n : Nat) : (s.rhgAdvance l n).underway = s.underway := by
  unfold State.rhgAdvance
  split
  · rfl
  · dsimp only
    split
    · simp
    · split
      · simp
      · simp

@[simp] theorem State.rhgStart_underway (s : State) (l : List Side) (n : Nat) (b : Bool) :
    (s.rhgStart l n b).underway = s.underway := by
  unfold State.rhgStart
  (repeat' split) <;> simp

@[simp] theorem State.startTransits_underway (s : State) (framed sides : List Side) (n d : Nat) (w : Swg)
    (h : (w.runMode, w.runLeft, w.runRight) = (s.swg.runMode, s.swg.runLeft, s.swg.runRight)) :
    (((s.sendSweeps framed n d).setSwg w).countTransits sides allPorts).underway = s.underway := by
  obtain ⟨ports, alerts, hcount⟩ := ((s.sendSweeps framed n d).setSwg w).countTransits_form sides allPorts
  obtain ⟨links, hform⟩ := s.sendSweeps_form framed n d
  rw [hcount, hform]
  exact congrArg (fun x => (x, s.ulp.replies)) h

theorem State.attemptStart_underway (s : State) (g : Generator) : (s.attemptStart g).underway = s.underway := by
  unfold State.attemptStart
  split
  · unfold State.endWindow
    split
    · exact State.modGen_underway s g _
    · exact State.modGen_underway s g _
  · split
    · rw [State.internalClose_underway, State.modGen_underway]
    · split
      · rfl
      · unfold State.withholdStart
        dsimp only
        split
        · exact State.modGen_underway s g _
        · exact State.modGen_underway s g _
      next hrun =>
        split
        · rw [State.freeStart_eq hrun, State.rhgStart_underway, State.startTransits_underway]
          cases g
          · rfl
          · rfl
        · rw [State.interleavedStart_eq, State.rhgStart_underway, State.startTransits_underway]
          rfl

theorem State.startIfActive_underway (s : State) (g : Generator) : (s.startIfActive g).underway = s.underway := by
  unfold State.startIfActive
  split
  · rfl
  · exact s.attemptStart_underway g

theorem State.startGenerators_underway (s : State) : s.startGenerators.underway =
    ((s.params.sweepMode, s.params.assignLeft, s.params.assignRight), s.ulp.replies) := by
  unfold State.startGenerators
  dsimp only
  rw [State.startIfActive_underway, State.startIfActive_underway]
  rfl

/-! ### CALIBRATE (R29, R178) -/

theorem State.startScu_eq (s : State) (near far : TagCode) : s.startScu near far = { s with scu :=
    ⟨Vector.ofFn (fun p : Port => { s.scu.ports[p] with
        nearSum := 0, nearCount := 0, farSum := 0, farCount := 0, carryOver := s.piq[p].queue.length }),
      true, 0, 0, 0, 0, some near, some far⟩ } := by
  unfold State.startScu
  dsimp only
  have hports := State.forPorts_modScu (s.setScu
    { ports := mapAll ScuPort.clearRun s.scu.ports, calPass := true, tallyCarryOver := 0, tallyNonReference := 0,
      tallyOtherReference := 0, tallyOverCount := 0, nearTag := some near, farTag := some far })
    (fun p c => { c with carryOver := s.piq[p].queue.length })
  rw [hports]
  have hclear (p : Port) : (mapAll ScuPort.clearRun s.scu.ports)[p] = s.scu.ports[p].clearRun := getElem_mapAll _ _ _
  simp only [State.setScu, hclear]
  rfl

theorem calibrateFields_eq (payload : List Byte) : calibrateFields payload =
    if payload.length = 24 then some (tagOf (payload.take 12), tagOf (payload.drop 12)) else none := rfl

/-- The run begun, before the generators start. -/
def State.calibrating (s : State) (near far : TagCode) : State := { s with
  scu :=
    ⟨Vector.ofFn (fun p : Port => { s.scu.ports[p] with
        nearSum := 0, nearCount := 0, farSum := 0, farCount := 0, carryOver := s.piq[p].queue.length }),
      true, 0, 0, 0, 0, some near, some far⟩
  spe := { s.spe with stale := Vector.replicate 16 0 }
  swg := { s.swg with
    genA := { s.swg.genA with count := 0 }, genB := { s.swg.genB with count := 0 }, lastB := none, bStarts := []
    endsAtB := false, runLeft := s.params.assignLeft, runRight := s.params.assignRight, runMode := s.params.sweepMode }
  psc := { s.psc with state := .calibrating } }

theorem State.calibrating_eq (s : State) (near far : TagCode) :
    (let t := (((s.startScu near far).clearStale).clearSweeps).latchRun
     t.setPsc { t.psc with state := .calibrating }) = s.calibrating near far := by
  dsimp only
  rw [State.startScu_eq]
  simp only [State.clearStale, State.clearSweeps, State.latchRun, State.setSpe, State.setSwg, State.setPsc]
  rfl

theorem calibrateAct_of_taken (hlen : f.payload.length = 24)
    (hnone : s.calibrateRefusal (tagOf (f.payload.take 12)) (tagOf (f.payload.drop 12)) = none) :
    calibrateAct f s =
      (s.calibrating (tagOf (f.payload.take 12)) (tagOf (f.payload.drop 12))).startGenerators.reply f .done
        (s.calibrating (tagOf (f.payload.take 12)) (tagOf (f.payload.drop 12))).startGenerators.calibratePayload := by
  have hrun := s.calibrating_eq (tagOf (f.payload.take 12)) (tagOf (f.payload.drop 12))
  dsimp only at hrun
  unfold calibrateAct
  rw [calibrateFields_eq, if_pos hlen]
  dsimp only
  rw [hnone, ← hrun]

theorem calibrateAct_of_refused {r : ResultCode} (hlen : f.payload.length = 24)
    (hsome : s.calibrateRefusal (tagOf (f.payload.take 12)) (tagOf (f.payload.drop 12)) = some r) :
    calibrateAct f s = s.refuse f r := by
  unfold calibrateAct
  rw [calibrateFields_eq, if_pos hlen]
  dsimp only
  rw [hsome]

/-- The payload of an accepted CALIBRATE, from the values that the started generators stand for. -/
theorem State.calibratePayload_eq (s : State) : s.calibratePayload =
    bytesOf 2 ((List.finRange 16).map (fun p : Port => if s.swg.driver (portSide p) ≠ none then 2 ^ p.val else 0)).sum ++
      bytesOf 1 s.params.calWindow ++ bytesOf 1 (windowEnd s.params s.swg .a) ++ bytesOf 1 (windowEnd s.params s.swg .b) := by
  have hmask : maskOf s.portDriven =
      ((List.finRange 16).map (fun p : Port => if s.swg.driver (portSide p) ≠ none then 2 ^ p.val else 0)).sum := by
    rw [maskOf, finRange_eq_allPorts]
    congr 2
    funext p
    exact if_congr Option.isSome_iff_ne_none rfl rfl
  rw [State.calibratePayload, hmask]
  rfl

theorem Swg.driver_congr {v w : Swg} (h : (v.runMode, v.runLeft, v.runRight) = (w.runMode, w.runLeft, w.runRight)) :
    v.driver = w.driver := by
  obtain ⟨hmode, hassign⟩ := Prod.mk.inj h
  obtain ⟨hleft, hright⟩ := Prod.mk.inj hassign
  funext side
  cases side
  · rw [Swg.driver, Swg.driver, Swg.assign, Swg.assign, hmode, hleft]
  · rw [Swg.driver, Swg.driver, Swg.assign, Swg.assign, hmode, hright]

/-- Settles O22: the tests in their order, and the run begun as one action. -/
theorem calibrateIsTested : Obligations.CalibrateIsTested := by
  intro s f rest hhead hkind
  have hheld := State.heldBack_of_calibrate s hkind
  refine ⟨fun hfull => live_dispatch_of_heldBack hhead (hheld.mpr hfull) _ _, fun hroom => ?_⟩
  have hfree : s.heldBack f = false := Bool.eq_false_iff.mpr (fun h => Nat.not_le_of_lt hroom (hheld.mp h))
  have hrun : exec .calibrate s = .next (calibrateAct f (s.withMgmt rest)) :=
    live_dispatch hhead hfree ((ofKind_iff _ _).mpr hkind) _
  rw [hrun]
  refine ⟨fun hlen => ?_, fun hlen hstate => ?_, fun hlen hstate hnot => ?_, fun hlen hstate hclasses hne htargets => ?_⟩
  · have hact : calibrateAct f (s.withMgmt rest) = (s.withMgmt rest).refuse f .badParam := by
      rw [calibrateAct, calibrateFields_eq, if_neg hlen]
    rw [hact, State.refuse_withMgmt hhead]
  · have href : (s.withMgmt rest).calibrateRefusal (tagOf (f.payload.take 12)) (tagOf (f.payload.drop 12)) = some .badState :=
      if_pos hstate
    rw [calibrateAct_of_refused hlen href, State.refuse_withMgmt hhead]
  · have href : (s.withMgmt rest).calibrateRefusal (tagOf (f.payload.take 12)) (tagOf (f.payload.drop 12)) = some .badParam := by
      have hidle : ¬s.psc.state ≠ .idle := fun h => h hstate
      refine (if_neg hidle).trans ?_
      split
      case isTrue => rfl
      case isFalse hclass =>
        split
        case isTrue => rfl
        case isFalse hne =>
          refine if_pos ?_
          have htargets : ¬s.params.tFar + 16 ≤ s.params.tNear :=
            fun htarget => hnot ⟨not_or.mp hclass |>.imp not_not.mp not_not.mp, hne, htarget⟩
          exact Nat.lt_of_not_le htargets
    rw [calibrateAct_of_refused hlen href, State.refuse_withMgmt hhead]
  · have href : (s.withMgmt rest).calibrateRefusal (tagOf (f.payload.take 12)) (tagOf (f.payload.drop 12)) = none := by
      have hidle : ¬s.psc.state ≠ .idle := fun h => h hstate
      have hclass : ¬(tagClass (tagOf (f.payload.take 12)) ≠ s.params.referenceClass ∨
          tagClass (tagOf (f.payload.drop 12)) ≠ s.params.referenceClass) :=
        not_or.mpr (hclasses.imp not_not.mpr not_not.mpr)
      have htarget : ¬s.params.tNear < s.params.tFar + 16 := Nat.not_lt_of_le htargets
      exact (if_neg hidle).trans ((if_neg hclass).trans ((if_neg hne).trans (if_neg htarget)))
    rw [calibrateAct_of_taken hlen href]
    have hunder := ((s.withMgmt rest).calibrating (tagOf (f.payload.take 12)) (tagOf (f.payload.drop 12))).startGenerators_underway
    obtain ⟨hrunning, hreplies⟩ := Prod.mk.inj hunder
    have hroom' : ((s.withMgmt rest).calibrating (tagOf (f.payload.take 12))
        (tagOf (f.payload.drop 12))).startGenerators.ulp.replies.length < 8 := by
      rw [hreplies]
      exact hhead.2.2.2
    rw [State.reply_of_room hroom', State.calibratePayload_eq]
    have hdriver := Swg.driver_congr (w := ((s.withMgmt rest).calibrating (tagOf (f.payload.take 12))
      (tagOf (f.payload.drop 12))).swg) hrunning
    have hparams : ((s.withMgmt rest).calibrating (tagOf (f.payload.take 12))
        (tagOf (f.payload.drop 12))).startGenerators.params.calWindow = s.params.calWindow := by simp; rfl
    rw [hdriver, hparams]
    rfl

end Sys2Proof.Machine
end

section
/-! SUPPORT. Reads that SPE takes: the port taken from, what every take does, and the intake tests (section 5.1); settles
O24. -/

namespace Sys2Proof.Machine

variable {s t : State} {e : ReadEntry} {rest : List ReadEntry}

/-! ### The round robin (R75) -/

theorem getElem?_ringFrom : ∀ (p : Port) (k : Fin 16),
    (ringFrom p)[k.val]? = some ⟨(p.val + k.val) % 16, Nat.mod_lt _ (by decide)⟩ := by decide

theorem getElem?_ringFrom_turnsAway (pointer p : Port) : (ringFrom pointer)[turnsAway pointer p]? = some p := by
  have hlt : turnsAway pointer p < 16 := Nat.mod_lt _ (by decide)
  refine (getElem?_ringFrom pointer ⟨turnsAway pointer p, hlt⟩).trans (congrArg some (Fin.ext ?_))
  change (pointer.val + (p.val + 16 - pointer.val) % 16) % 16 = p.val
  have := pointer.isLt
  have := p.isLt
  omega

theorem turnsAway_of_getElem? {pointer q : Port} {m : Nat} (hm : m < 16) (h : (ringFrom pointer)[m]? = some q) :
    turnsAway pointer q = m := by
  obtain rfl := Option.some.inj ((getElem?_ringFrom pointer ⟨m, hm⟩).symm.trans h)
  change ((pointer.val + m) % 16 + 16 - pointer.val) % 16 = m
  have := pointer.isLt
  omega

theorem State.hasEntry_eq_false_iff (s : State) (p : Port) : s.hasEntry p = false ↔ s.piq[p].queue = [] := by
  rw [State.hasEntry, Bool.not_eq_false', List.isEmpty_iff]

theorem State.hasEntry_of_cons {p : Port} (h : s.piq[p].queue = e :: rest) : s.hasEntry p = true := by
  rw [State.hasEntry, h]
  rfl

/-- The port whose arrival ended SPE's wait, else the first non-empty one from the pointer. -/
theorem State.takePort_of_nextRead (h : s.NextRead e rest) : s.takePort = some e.port := by
  obtain ⟨_, hqueue, hwoken | ⟨hwoken, hfirst⟩⟩ := h
  · rw [State.takePort, hwoken]
    exact if_pos (State.hasEntry_of_cons hqueue)
  · rw [State.takePort, hwoken]
    refine find?_of_first (getElem?_ringFrom_turnsAway _ _) (State.hasEntry_of_cons hqueue) (fun m hm q hq => ?_)
    have hlt : turnsAway s.spe.pointer e.port < 16 := Nat.mod_lt _ (by decide)
    have haway := turnsAway_of_getElem? (hm.trans hlt) hq
    exact (State.hasEntry_eq_false_iff s q).mpr (hfirst q (haway ▸ hm))

theorem State.speFree_iff (s : State) :
    s.speFree = true ↔ s.spe.work = .idle ∧ s.spe.requests = [] ∧ s.spe.settleRequest = false := by
  simp only [State.speFree, Bool.and_eq_true, beq_iff_eq, List.isEmpty_iff, Bool.not_eq_true', and_assoc]

theorem State.mayTake_of_ready (h : s.SpeReady) : s.mayTake = true := by
  obtain ⟨_, hwork, hrequests, hsettle, hexpiry⟩ := h
  have hfree := (State.speFree_iff s).mpr ⟨hwork, hrequests, hsettle⟩
  have hnone : s.expiryIf (fun t now => decide (t < now)) = none := by
    unfold State.expiryIf
    split
    case isTrue hstate =>
      refine List.find?_eq_none.mpr (fun x hx => ?_)
      have hle := hexpiry ((PassState.takesReads_iff _).mp hstate) x hx
      rw [Bool.and_eq_true, decide_eq_true_eq, Option.isNone_iff_eq_none]
      exact fun ⟨hopen, hlt⟩ => Nat.not_lt_of_le (hle hopen) hlt
    case isFalse => rfl
  rw [State.mayTake, hfree, hnone]
  rfl

theorem exec_readTake (h : s.NextRead e rest) : exec .readTake s = .next (s.takeEntry e) := by
  have hlive : exec .readTake s = .next (readTakeStep s) := live_of_released h.1.1 _
  have hqueue := h.2.1
  have hstep : readTakeStep s = s.takeEntry e := by
    unfold readTakeStep
    rw [if_pos (State.mayTake_of_ready h.1), State.takePort_of_nextRead h]
    dsimp only
    rw [hqueue]
  rw [hlive, hstep]

/-! ### What every take does (R18, R76, R182) -/

theorem State.pamReport_eq (s : State) (p : Port) (c : Nat) : s.pamReport p c =
    { s with pam := s.pam.reported s.params.hotThreshold p c } := by
  have hsilent (q : PamPort) : (if q.silent then { q with silent := false, empty := 0 } else q : PamPort) =
      ⟨q.reads, q.hot, q.disqualified, if q.silent then 0 else q.empty, false⟩ := by
    cases hq : q.silent with
    | false => rw [if_neg Bool.false_ne_true, if_neg Bool.false_ne_true, ← hq]
    | true => rfl
  unfold State.pamReport
  dsimp only
  simp only [hsilent]
  cases hwindow : s.pam.window with
  | none =>
    simp only [State.modPam, State.setPam, Pam.reported, hwindow, Option.isSome_none, Bool.false_eq_true, if_false, false_and]
    rfl
  | some w =>
    simp only [State.modPam, State.setPam, modifyAt_modifyAt, Pam.reported, hwindow, Option.isSome_some, if_true, true_and]
    rfl

theorem State.dequeue_eq (hqueue : s.piq[e.port].queue = e :: rest) : s.dequeue e.port = { s with
    piq := s.piq.set e.port { s.piq[e.port] with queue := rest, episode := false }
    scu :=
      if s.psc.state = .calibrating then
        { s.scu with
          ports := s.scu.ports.set e.port { s.scu.ports[e.port] with carryOver := s.scu.ports[e.port].carryOver - 1 } }
      else s.scu
    spe := { s.spe with
      pointer := ⟨(e.port.val + 1) % 16, Nat.mod_lt _ (by decide)⟩
      woken := none
      stale := s.spe.stale.set e.port (s.spe.stale[e.port] - 1) } } := by
  have htail : s.piq[e.port].queue.tail = rest := by rw [hqueue]; rfl
  unfold State.dequeue
  dsimp only [State.modPiq, State.setPiq, State.setSpe, State.setStale, State.modScu, State.setScu]
  rw [modifyAt_eq_set, modifyAt_eq_set, modifyAt_eq_set, htail]
  split
  · rfl
  · rfl

theorem State.takeEntry_eq (hqueue : s.piq[e.port].queue = e :: rest) : s.takeEntry e =
    (s.afterTake e rest).takeIn e (decide (0 < s.scu.ports[e.port].carryOver))
      (intake s.psc.state (decide (0 < s.spe.stale[e.port])) (s.portDriven e.port) e) := by
  have hopen : s.psc.state.isOpen = true ↔ ¬(s.psc.state = .idle ∨ s.psc.state = .calibrating) := by
    cases s.psc.state <;> decide
  have htaken : ((s.dequeue e.port).countOpen (fun c => { c with taken := sat32 c.taken 1 })).pamReport e.port (s.strength e) =
      s.afterTake e rest := by
    rw [State.dequeue_eq hqueue, State.pamReport_eq, State.countOpen]
    by_cases hclosed : s.psc.state = .idle ∨ s.psc.state = .calibrating
    · have hnot : ¬s.psc.state.isOpen = true := fun h => hopen.mp h hclosed
      rw [if_neg hnot, State.afterTake, if_pos hclosed]
    · rw [if_pos (hopen.mpr hclosed), State.afterTake, if_neg hclosed]
      rfl
  rw [State.takeEntry, htaken]

/-! ### The intake tests (R77) -/

theorem State.portDriven_iff (s : State) (p : Port) : s.portDriven p = true ↔ s.swg.driver (portSide p) ≠ none :=
  Option.isSome_iff_ne_none

theorem tagTests_of_error (h : e.crcFail = true ∨ e.collision = true) (driven : Bool) (last : Intake) :
    tagTests e driven last = .errorTagged := if_pos h

theorem tagTests_of_clean (hcrc : e.crcFail = false) (hcollision : e.collision = false) (driven : Bool) (last : Intake) :
    (e.stamp = some .late → tagTests e driven last = .late) ∧
    (e.stamp = some .settle → tagTests e driven last = .settle) ∧
    (e.stamp = none → tagTests e driven last = if driven then last else .late) := by
  have hclean : ¬(e.crcFail = true ∨ e.collision = true) := by simp [hcrc, hcollision]
  unfold tagTests
  rw [if_neg hclean]
  refine ⟨fun h => ?_, fun h => ?_, fun h => ?_⟩
  · rw [h]
  · rw [h]
  · rw [h]

theorem intake_of_open {state : PassState} (h : state = .scanning ∨ state = .settling) (driven : Bool) (e : ReadEntry) :
    intake state false driven e = tagTests e driven .classify ∧ intake state true driven e = .unswept := by
  obtain rfl | rfl := h
  · exact ⟨rfl, rfl⟩
  · exact ⟨rfl, rfl⟩

/-- A take whose intake tests have an outcome. -/
theorem exec_readTake_of_intake {i : Intake} (h : s.NextRead e rest)
    (hi : intake s.psc.state (decide (0 < s.spe.stale[e.port])) (s.portDriven e.port) e = i) :
    exec .readTake s = .next ((s.afterTake e rest).takeIn e (decide (0 < s.scu.ports[e.port].carryOver)) i) := by
  rw [exec_readTake h, State.takeEntry_eq h.2.1, hi]

theorem State.countOpen_eq (h : s.psc.state.isOpen = true) (g : SpeCounters → SpeCounters) : s.countOpen g = s.tally g :=
  if_pos h

theorem PassState.isOpen_of_takes {p : PassState} (h : p = .scanning ∨ p = .settling) : p.isOpen = true := by
  obtain rfl | rfl := h
  · rfl
  · rfl

theorem fresh_eq {n : Nat} (h : n = 0) : decide (0 < n) = false := by
  subst h
  rfl

/-- An admitted read reaches the class tests. -/
theorem exec_readTake_of_admits (h : s.NextRead e rest) (hadmits : s.Admits e) :
    exec .readTake s = .next ((s.afterTake e rest).classifyRead e) := by
  obtain ⟨hstate, hstale, hcrc, hcollision, hstamp, hdriven⟩ := hadmits
  have hi : intake s.psc.state (decide (0 < s.spe.stale[e.port])) (s.portDriven e.port) e = .classify := by
    rw [fresh_eq hstale, (intake_of_open hstate _ e).1, (tagTests_of_clean hcrc hcollision _ _).2.2 hstamp,
      (State.portDriven_iff s e.port).mpr hdriven]
    rfl
  exact exec_readTake_of_intake h hi

/-! ### The class of a read (R42, R78) -/

theorem State.classifyRead_marker (hclass : tagClass e.tag = s.params.markerClass) :
    s.classifyRead e = s.markerRead e.port e.tag (s.strength e) := by
  have hkind : classify s.params e.tag = .marker := if_pos hclass
  rw [State.classifyRead, hkind]

theorem State.classifyRead_reference (hmarker : tagClass e.tag ≠ s.params.markerClass)
    (hclass : tagClass e.tag = s.params.referenceClass) : s.classifyRead e = s.referenceRead := by
  have hkind : classify s.params e.tag = .reference := by rw [classify, if_neg hmarker, if_pos hclass]
  rw [State.classifyRead, hkind]

theorem State.classifyRead_item (hmarker : tagClass e.tag ≠ s.params.markerClass)
    (hreference : tagClass e.tag ≠ s.params.referenceClass) : s.classifyRead e = s.itemRead e (s.strength e) := by
  have hkind : classify s.params e.tag = .item := by rw [classify, if_neg hmarker, if_neg hreference]
  rw [State.classifyRead, hkind]

/-- The strength of a read does not change with its take: the carry-over counts alone do. -/
theorem State.afterTake_strength (s : State) (e : ReadEntry) (rest : List ReadEntry) :
    (s.afterTake e rest).strength e = s.strength e := by
  have hports (g : ScuPort → ScuPort) (hoffset : ∀ c, (g c).offset = c.offset) (hgain : ∀ c, (g c).gain = c.gain)
      (v : Vector ScuPort 16) : (v.set e.port (g v[e.port]))[e.port].offset = v[e.port].offset ∧
        (v.set e.port (g v[e.port]))[e.port].gain = v[e.port].gain := by
    have hget : (v.set e.port (g v[e.port]))[e.port] = g v[e.port] := by simp
    rw [hget]
    exact ⟨hoffset _, hgain _⟩
  unfold State.strength State.afterTake
  dsimp only
  split
  · obtain ⟨ho, hg⟩ := hports (fun c => { c with carryOver := c.carryOver - 1 }) (fun _ => rfl) (fun _ => rfl) s.scu.ports
    rw [ho, hg]
  · rfl

theorem State.itemRead_faint {c : Nat} (h : c ≤ s.params.readFloor) :
    s.itemRead e c = s.tally (fun k => { k with faint := up32 k.faint }) := if_pos h

theorem State.itemRead_noFacing {c : Nat} (h : s.params.readFloor < c) (hfacing : s.mfu.ports[e.port].facing = none) :
    s.itemRead e c = s.tally (fun k => { k with noFacing := up32 k.noFacing }) := by
  unfold State.itemRead
  rw [if_neg (Nat.not_le_of_lt h), hfacing]
  rfl

theorem State.itemRead_faced {c : Nat} {x : SectionId} (h : s.params.readFloor < c)
    (hfacing : s.mfu.ports[e.port].facing = some x) : s.itemRead e c =
      if s.sectionOpen x then s.sight ⟨e.tag, x, c - s.params.readFloor, c, e.sweep.getD 0⟩
      else s.tally (fun k => { k with revisit := up32 k.revisit }) := by
  unfold State.itemRead
  rw [if_neg (Nat.not_le_of_lt h), hfacing]
  rfl

/-- An admitted ITEM read. -/
theorem exec_readTake_of_item (h : s.NextRead e rest) (hadmits : s.Admits e) (hmarker : tagClass e.tag ≠ s.params.markerClass)
    (hreference : tagClass e.tag ≠ s.params.referenceClass) :
    exec .readTake s = .next ((s.afterTake e rest).itemRead e (s.strength e)) := by
  have hclass := State.classifyRead_item (s := s.afterTake e rest) hmarker hreference
  rw [exec_readTake_of_admits h hadmits, hclass, State.afterTake_strength]

/-- A read with weight comes to the sightings. -/
theorem exec_readTake_of_weighs {x : SectionId} (h : s.NextRead e rest) (hweighs : s.Weighs e x) :
    exec .readTake s = .next ((s.afterTake e rest).sight (s.evidence e x)) := by
  obtain ⟨hadmits, hmarker, hreference, hfloor, hfacing, hopen⟩ := hweighs
  have hitem : (s.afterTake e rest).itemRead e (s.strength e) =
      if (s.afterTake e rest).sectionOpen x then (s.afterTake e rest).sight (s.evidence e x)
      else (s.afterTake e rest).tally (fun k => { k with revisit := up32 k.revisit }) :=
    State.itemRead_faced hfloor hfacing
  rw [exec_readTake_of_item h hadmits hmarker hreference, hitem]
  exact congrArg _ (if_pos hopen)

theorem State.disposed_eq {ref : Option Nat} {r : Nat} {h : Holding} (href : ref = some r) (hat : s.tst.holdings[r]? = some h) :
    s.disposed ref = (h.mark == .disposed) := by
  subst href
  rw [State.disposed, Option.bind_some, hat]

theorem State.sight_disposed {r : ItemRead} (h : s.disposed (findHolding s.tst.holdings r.tag) = true) :
    s.sight r = s.tally (fun c => { c with resight := up32 c.resight }) := if_pos h

/-- Settles O24: the outcomes of the intake tests, then of the class tests. -/
theorem droppedReadsAreCounted : Obligations.DroppedReadsAreCounted := by
  intro s e rest h
  have hcounted (hopen : s.psc.state.isOpen = true) (g : SpeCounters → SpeCounters) :
      (s.afterTake e rest).countOpen g = (s.afterTake e rest).tally g :=
    State.countOpen_eq (s := s.afterTake e rest) hopen g
  refine ⟨fun hidle => ?_, fun hunswept => ?_, fun ⟨hopen, hstale⟩ herror => ?_, fun ⟨⟨hopen, hstale⟩, hcrc, hcoll⟩ hlate => ?_,
    fun ⟨⟨hopen, hstale⟩, hcrc, hcoll⟩ hsettle => ?_, fun ⟨⟨hopen, hstale⟩, hcrc, hcoll⟩ hstamp hundriven => ?_,
    fun hadmits hmarker hreference => ?_, fun ⟨hadmits, hmarker, hreference⟩ hfaint => ?_,
    fun ⟨hadmits, hmarker, hreference⟩ hfloor => ⟨fun hfacing => ?_, fun x hfacing hclosed => ?_⟩,
    fun x r g hweighs href hat hmark => ?_⟩
  · exact exec_readTake_of_intake (i := .drop) h (by rw [hidle]; rfl)
  · have hi : intake s.psc.state (decide (0 < s.spe.stale[e.port])) (s.portDriven e.port) e = .unswept := by
      obtain hstate | hstate | ⟨hopen, hstale⟩ := hunswept
      · rw [hstate]; rfl
      · rw [hstate]; rfl
      · rw [decide_eq_true hstale]
        exact (intake_of_open hopen _ e).2
    have hopen : s.psc.state.isOpen = true := by
      obtain hstate | hstate | ⟨hopen, _⟩ := hunswept
      · rw [hstate]; rfl
      · rw [hstate]; rfl
      · exact PassState.isOpen_of_takes hopen
    rw [exec_readTake_of_intake h hi]
    exact congrArg _ (hcounted hopen _)
  · have hi := (intake_of_open hopen (s.portDriven e.port) e).1.trans (tagTests_of_error herror _ _)
    rw [← fresh_eq hstale] at hi
    rw [exec_readTake_of_intake h hi]
    exact congrArg _ (hcounted (PassState.isOpen_of_takes hopen) _)
  · have hi := (intake_of_open hopen (s.portDriven e.port) e).1.trans ((tagTests_of_clean hcrc hcoll _ _).1 hlate)
    rw [← fresh_eq hstale] at hi
    rw [exec_readTake_of_intake h hi]
    exact congrArg _ (hcounted (PassState.isOpen_of_takes hopen) _)
  · have hi := (intake_of_open hopen (s.portDriven e.port) e).1.trans ((tagTests_of_clean hcrc hcoll _ _).2.1 hsettle)
    rw [← fresh_eq hstale] at hi
    rw [exec_readTake_of_intake h hi]
    exact congrArg _ (hcounted (PassState.isOpen_of_takes hopen) _)
  · have hi : intake s.psc.state (decide (0 < s.spe.stale[e.port])) (s.portDriven e.port) e = .late := by
      have hdriven : s.portDriven e.port = false :=
        Bool.eq_false_iff.mpr (fun hd => (State.portDriven_iff s e.port).mp hd hundriven)
      rw [fresh_eq hstale, hdriven, (intake_of_open hopen _ e).1, (tagTests_of_clean hcrc hcoll _ _).2.2 hstamp]
      rfl
    rw [exec_readTake_of_intake h hi]
    exact congrArg _ (hcounted (PassState.isOpen_of_takes hopen) _)
  · rw [exec_readTake_of_admits h hadmits]
    exact congrArg _ (State.classifyRead_reference (s := s.afterTake e rest) hmarker hreference)
  · rw [exec_readTake_of_item h hadmits hmarker hreference]
    exact congrArg _ (State.itemRead_faint (s := s.afterTake e rest) hfaint)
  · rw [exec_readTake_of_item h hadmits hmarker hreference]
    exact congrArg _ (State.itemRead_noFacing (s := s.afterTake e rest) hfloor hfacing)
  · rw [exec_readTake_of_item h hadmits hmarker hreference]
    refine congrArg _ ((State.itemRead_faced (s := s.afterTake e rest) hfloor hfacing).trans (if_neg ?_))
    exact Bool.eq_false_iff.mp hclosed
  · have hdisposed : (s.afterTake e rest).disposed (findHolding s.tst.holdings e.tag) = true := by
      have hd := State.disposed_eq (s := s.afterTake e rest) href hat
      rw [hd, hmark]
      rfl
    rw [exec_readTake_of_weighs h hweighs]
    exact congrArg _ (State.sight_disposed hdisposed)

end Sys2Proof.Machine
end

section
/-! SUPPORT. Reads taken by SCU and by MFU: the reads of a calibration run (section 2.2), marker reads and facings (Chapter 3);
settles O23 and O25. -/

namespace Sys2Proof.Machine

variable {s t : State} {e : ReadEntry} {rest : List ReadEntry}

/-! ### Reads of a calibration run (R32, R33) -/

theorem Scu.addNear_eq (u : Scu) (p : Port) (raw : Nat) : u.addNear p raw =
    if u.ports[p].nearCount < 65535 then
      { u with ports := u.ports.set p { u.ports[p] with
        nearSum := u.ports[p].nearSum + raw, nearCount := u.ports[p].nearCount + 1 } }
    else { u with tallyOverCount := u.tallyOverCount + 1 } := by
  have hiff : Config.max16 ≤ u.ports[p].nearCount ↔ ¬u.ports[p].nearCount < 65535 := Nat.not_lt.symm
  rw [Scu.addNear, if_congr hiff rfl rfl, ite_not]
  rfl

theorem Scu.addFar_eq (u : Scu) (p : Port) (raw : Nat) : u.addFar p raw =
    if u.ports[p].farCount < 65535 then
      { u with ports := u.ports.set p { u.ports[p] with
        farSum := u.ports[p].farSum + raw, farCount := u.ports[p].farCount + 1 } }
    else { u with tallyOverCount := u.tallyOverCount + 1 } := by
  have hiff : Config.max16 ≤ u.ports[p].farCount ↔ ¬u.ports[p].farCount < 65535 := Nat.not_lt.symm
  rw [Scu.addFar, if_congr hiff rfl rfl, ite_not]
  rfl

theorem Scu.accumulate_foreign (u : Scu) {referenceClass : Nat} (h : tagClass e.tag ≠ referenceClass) :
    u.accumulate referenceClass e = { u with tallyNonReference := u.tallyNonReference + 1 } := if_pos h

theorem Scu.accumulate_reference (u : Scu) {referenceClass : Nat} (h : tagClass e.tag = referenceClass) :
    u.accumulate referenceClass e =
      if u.nearTag = some e.tag then u.addNear e.port e.raw
      else if u.farTag = some e.tag then u.addFar e.port e.raw
      else { u with tallyOtherReference := u.tallyOtherReference + 1 } := if_neg (fun hne => hne h)

theorem State.countOpen_of_closed (h : s.psc.state.isOpen = false) (g : SpeCounters → SpeCounters) : s.countOpen g = s :=
  if_neg (by rw [h]; exact Bool.false_ne_true)

/-- Outside a pass an intake outcome before the last test drops the read without a counter. -/
theorem State.takeIn_of_closed (h : s.psc.state.isOpen = false) (carried : Bool) {i : Intake}
    (hi : i = .errorTagged ∨ i = .late ∨ i = .settle) : s.takeIn e carried i = s := by
  obtain rfl | rfl | rfl := hi
  · exact State.countOpen_of_closed h _
  · exact State.countOpen_of_closed h _
  · exact State.countOpen_of_closed h _

theorem tagTests_of_unusable {driven : Bool} {last : Intake}
    (h : ¬(e.crcFail = false ∧ e.collision = false ∧ e.stamp = none ∧ driven = true)) :
    tagTests e driven last = .errorTagged ∨ tagTests e driven last = .late ∨ tagTests e driven last = .settle := by
  by_cases herror : e.crcFail = true ∨ e.collision = true
  · exact .inl (tagTests_of_error herror _ _)
  · obtain ⟨hcrc, hcollision⟩ := not_or.mp herror
    obtain ⟨hlate, hsettle, hnone⟩ :=
      tagTests_of_clean (Bool.eq_false_iff.mpr hcrc) (Bool.eq_false_iff.mpr hcollision) driven last
    rcases hstamp : e.stamp with _ | stamp
    · have hdriven : driven = false := by
        refine Bool.eq_false_iff.mpr (fun hd => h ⟨Bool.eq_false_iff.mpr hcrc, Bool.eq_false_iff.mpr hcollision, hstamp, hd⟩)
      rw [hnone hstamp, hdriven]
      exact .inr (.inl rfl)
    · cases stamp with
      | late => exact .inr (.inl (hlate hstamp))
      | settle => exact .inr (.inr (hsettle hstamp))

theorem State.scuRead_carried : s.scuRead true e =
    { s with scu := { s.scu with tallyCarryOver := s.scu.tallyCarryOver + 1 } } := rfl

theorem State.scuRead_counted : s.scuRead false e =
    { s with scu := s.scu.accumulate s.params.referenceClass e } := rfl

/-- Settles O23: the tests of R77, the carry-over count, and what R33 makes of the rest. -/
theorem calibrationReads : Obligations.CalibrationReads := by
  intro s e rest h hstate hstale
  have hclosed : (s.afterTake e rest).psc.state.isOpen = false := by
    change s.psc.state.isOpen = false
    rw [hstate]
    rfl
  have hintake : intake s.psc.state (decide (0 < s.spe.stale[e.port])) (s.portDriven e.port) e =
      tagTests e (s.portDriven e.port) .toScu := by
    rw [hstate, fresh_eq hstale]
    rfl
  have hscu : (s.afterTake e rest).scu = { s.scu with
      ports := s.scu.ports.set e.port { s.scu.ports[e.port] with carryOver := s.scu.ports[e.port].carryOver - 1 } } :=
    if_pos hstate
  have hnearTag : (s.afterTake e rest).scu.nearTag = s.scu.nearTag := by rw [hscu]
  have hfarTag : (s.afterTake e rest).scu.farTag = s.scu.farTag := by rw [hscu]
  have hparams : (s.afterTake e rest).params = s.params := rfl
  have htaken := exec_readTake_of_intake h hintake
  have husable (hu : e.crcFail = false ∧ e.collision = false ∧ e.stamp = none ∧ s.swg.driver (portSide e.port) ≠ none) :
      tagTests e (s.portDriven e.port) .toScu = .toScu := by
    obtain ⟨hcrc, hcollision, hstamp, hdriven⟩ := hu
    rw [(tagTests_of_clean hcrc hcollision _ _).2.2 hstamp, (State.portDriven_iff s e.port).mpr hdriven]
    rfl
  refine ⟨fun hnot => ?_, fun hu hcarried => ?_, fun hu hcarry => ⟨fun hclass => ?_, fun hclass => ⟨fun hnear => ?_,
    fun hnear hfar => ?_, fun hnear hfar => ?_⟩⟩⟩
  · rw [← State.portDriven_iff] at hnot
    rw [htaken]
    exact congrArg _ (State.takeIn_of_closed hclosed _ (tagTests_of_unusable hnot))
  · rw [htaken, husable hu, decide_eq_true hcarried]
    exact congrArg _ State.scuRead_carried
  all_goals
    rw [htaken, husable hu, fresh_eq hcarry]
    refine congrArg Host.Outcome.next ((State.scuRead_counted (s := s.afterTake e rest)).trans ?_)
    rw [hparams]
  · rw [Scu.accumulate_foreign _ hclass]
  · rw [Scu.accumulate_reference _ hclass, if_pos (hnearTag.trans hnear), Scu.addNear_eq]
  · rw [Scu.accumulate_reference _ hclass, if_neg (hnearTag ▸ hnear), if_pos (hfarTag.trans hfar), Scu.addFar_eq]
  · rw [Scu.accumulate_reference _ hclass, if_neg (hnearTag ▸ hnear), if_neg (hfarTag ▸ hfar)]

/-! ### Marker reads (R44) -/

theorem State.testMarker_weak {p : Port} {tag : TagCode} {c : Nat} (h : c < s.params.markerThreshold) :
    s.testMarker p tag c = { s with mfu := { s.mfu with
      counters := { s.mfu.counters with weakMarker := up32 s.mfu.counters.weakMarker } } } := if_pos h

theorem State.testMarker_strong {p : Port} {tag : TagCode} {c : Nat} (h : s.params.markerThreshold ≤ c) :
    (findSection s.tst.sections (tagSection tag) = none →
      s.testMarker p tag c = { s with mfu := { s.mfu with
        counters := { s.mfu.counters with unmappedMarker := up32 s.mfu.counters.unmappedMarker } } }) ∧
    (∀ y, findSection s.tst.sections (tagSection tag) = some y → s.testMarker p tag c =
      if y.side ≠ portSide p ∨ y.level ≠ portLevel p then { s with mfu := { s.mfu with
        counters := { s.mfu.counters with crossMarker := up32 s.mfu.counters.crossMarker } } }
      else s.acceptMarker p y) := by
  unfold State.testMarker
  rw [if_neg (Nat.not_lt_of_le h)]
  refine ⟨fun hnone => ?_, fun y hy => ?_⟩
  · rw [hnone]
    rfl
  · rw [hy]
    rfl

/-! ### Facing changes (R46, R49, R51, R53) -/

/-- A count over a list with its positions, taken over the positions. -/
theorem countP_zipIdx {α : Type} (l : List α) (p : α × Nat → Bool) (q : Nat → Bool)
    (h : ∀ m a, l[m]? = some a → q m = p (a, m)) : l.zipIdx.countP p = (List.range l.length).countP q := by
  have hzip : l.zipIdx = (List.finRange l.length).map (fun i => (l[i], i.val)) := by
    refine List.ext_getElem (by simp) (fun i hi hi' => ?_)
    simp
  rw [hzip, ← List.map_coe_finRange_eq_range, List.countP_map, List.countP_map]
  refine List.countP_congr (fun i _ => ?_)
  rw [Function.comp_apply, Function.comp_apply, h i.val l[i] (by simp)]

theorem skippedBetween_eq (sections : List Section) (side : Side) (level i j : Nat) : skippedBetween sections side level i j =
    (List.range sections.length).countP (fun m =>
      match sections[m]? with
      | none => false
      | some z => decide (min i j < m ∧ m < max i j ∧ z.side = side ∧ z.level = level ∧ z.state = .unvisited)) := by
  refine countP_zipIdx sections _ _ (fun m z hz => ?_)
  rw [hz]
  simp only [Bool.decide_and, Bool.and_assoc]
  rfl

theorem reversals_eq (last move : Direction) (n : Nat) : (if isReversal last move then sat32 n 1 else n) =
    if last = .unknown ∨ last = move then n else up32 n := by
  have hiff : isReversal last move = true ↔ ¬(last = .unknown ∨ last = move) := by
    rw [isReversal, Bool.and_eq_true, bne_iff_ne, bne_iff_ne, not_or]
  rw [if_congr hiff rfl rfl, ite_not]
  rfl

theorem State.acceptMarker_cases (p : Port) (y : Section) :
    (s.mfu.ports[p].facing = some y.id → s.acceptMarker p y = s) ∧
    (s.mfu.ports[p].facing = none → s.acceptMarker p y = s.firstFacing p y) ∧
    ∀ x, s.mfu.ports[p].facing = some x → x ≠ y.id → s.acceptMarker p y = s.changeFacing p x y := by
  unfold State.acceptMarker
  refine ⟨fun h => ?_, fun h => ?_, fun x h hne => ?_⟩
  · rw [h]
    exact if_pos rfl
  · rw [h]
  · rw [h]
    exact if_neg hne

theorem State.firstFacing_eq (p : Port) (y : Section) : s.firstFacing p y = State.enterSection { s with mfu :=
    ⟨s.mfu.ports.set p ⟨some y.id, 0, false, s.mfu.ports[p].lastMove⟩,
      { s.mfu.counters with facingChanges := up32 s.mfu.counters.facingChanges }⟩ } y.id .unknown := rfl

theorem State.changeFacing_eq {p : Port} {x : SectionId} {y : Section} {i j : Nat} (hx : sectionIndex s.tst.sections x = some i)
    (hy : sectionIndex s.tst.sections y.id = some j) : s.changeFacing p x y =
    (State.leaveSection { s with mfu := ⟨s.mfu.ports.set p ⟨some y.id, 0, false, if i < j then .forward else .reverse⟩,
        { s.mfu.counters with
          facingChanges := up32 s.mfu.counters.facingChanges
          skips := min 4294967295 (s.mfu.counters.skips + skippedBetween s.tst.sections y.side y.level i j)
          reversals := if s.mfu.ports[p].lastMove = .unknown ∨
              s.mfu.ports[p].lastMove = (if i < j then Direction.forward else .reverse)
            then s.mfu.counters.reversals else up32 s.mfu.counters.reversals }⟩ } x (if i < j then .forward else .reverse)
      (decide (s.mfu.ports[p].transit < s.params.minTransit ∧ s.sectionOpen x = true))).enterSection y.id
        (if i < j then .forward else .reverse) := by
  have hrushed : (decide (s.mfu.ports[p].transit < s.params.minTransit) && s.sectionOpen x) =
      decide (s.mfu.ports[p].transit < s.params.minTransit ∧ s.sectionOpen x = true) := by
    rw [Bool.decide_and, Bool.decide_eq_true]
  unfold State.changeFacing
  dsimp only
  rw [hx, hy, Option.getD_some, Option.getD_some, hrushed]
  simp only [reversals_eq]
  rfl

/-- A marker counted, before its tests. -/
def State.markerCounted (s : State) : State :=
  { s with mfu := { s.mfu with counters := { s.mfu.counters with markerReads := up32 s.mfu.counters.markerReads } } }

theorem exec_readTake_of_marker (h : s.NextRead e rest) (hadmits : s.Admits e) (hclass : tagClass e.tag = s.params.markerClass) :
    exec .readTake s = .next (((s.afterTake e rest).markerCounted).testMarker e.port e.tag (s.strength e)) := by
  have hmarker := State.classifyRead_marker (s := s.afterTake e rest) (e := e) hclass
  rw [exec_readTake_of_admits h hadmits, hmarker, State.afterTake_strength]
  rfl

/-- Settles O25: the tests of R44, then the three cases of an accepted marker. -/
theorem markersMoveFacings : Obligations.MarkersMoveFacings := by
  intro s e rest h hadmits hclass
  have hread := exec_readTake_of_marker h hadmits hclass
  refine ⟨fun hweak => ?_, fun hstrong hnone => ?_, fun y hstrong hy haway => ?_, fun y haccepts => ?_⟩
  · rw [hread]
    exact congrArg _ (State.testMarker_weak (s := (s.afterTake e rest).markerCounted) hweak)
  · rw [hread]
    exact congrArg _ ((State.testMarker_strong (s := (s.afterTake e rest).markerCounted) hstrong).1 hnone)
  · rw [hread]
    refine congrArg _ (((State.testMarker_strong (s := (s.afterTake e rest).markerCounted) hstrong).2 y hy).trans ?_)
    exact if_pos haway
  · obtain ⟨_, _, hstrong, hy, hside, hlevel⟩ := haccepts
    have haccept : ((s.afterTake e rest).markerCounted).testMarker e.port e.tag (s.strength e) =
        ((s.afterTake e rest).markerCounted).acceptMarker e.port y := by
      refine ((State.testMarker_strong (s := (s.afterTake e rest).markerCounted) hstrong).2 y hy).trans (if_neg ?_)
      exact not_or.mpr ⟨not_not.mpr hside, not_not.mpr hlevel⟩
    obtain ⟨hsame, hfirst, hchange⟩ := State.acceptMarker_cases (s := (s.afterTake e rest).markerCounted) e.port y
    rw [haccept] at hread
    refine ⟨fun hfacing => ?_, fun hfacing => ?_, fun x i j hfacing hne hi hj => ?_⟩
    · rw [hread]
      exact congrArg _ (hsame hfacing)
    · rw [hread]
      refine congrArg _ ((hfirst hfacing).trans ?_)
      exact State.firstFacing_eq e.port y
    · have hskips := skippedBetween_eq s.tst.sections y.side y.level i j
      rw [hread]
      refine congrArg _ ((hchange x hfacing hne).trans ?_)
      refine (State.changeFacing_eq (s := (s.afterTake e rest).markerCounted) hi hj).trans ?_
      dsimp only
      have hsections : ((s.afterTake e rest).markerCounted).tst.sections = s.tst.sections := rfl
      rw [hsections, hskips]
      rfl

end Sys2Proof.Machine
end

section
/-! SUPPORT. Sections opened, left, entered and closed (Chapter 6), and the settle request (section 7.4); settles O26, O33 and
O34. -/

namespace Sys2Proof.Machine

variable {s t : State} {x : SectionId}

/-! ### Lists with one element updated -/

/-- The element of a list that has a key of its own, updated. -/
theorem map_update_of_nodup {α κ : Type} [DecidableEq κ] (key : α → κ) (f : α → α) {before after : List α} {a : α}
    (h : ((before ++ a :: after).map key).Nodup) :
    (before ++ a :: after).map (fun b => if key b = key a then f b else b) = before ++ f a :: after := by
  rw [List.map_append, List.map_cons, List.nodup_append] at h
  obtain ⟨_, hafter, hdisjoint⟩ := h
  have hbefore (b : α) (hb : b ∈ before) : key b ≠ key a :=
    hdisjoint _ (List.mem_map_of_mem hb) _ List.mem_cons_self
  have hafter' (b : α) (hb : b ∈ after) : key b ≠ key a := fun he =>
    (List.nodup_cons.mp hafter).1 (he ▸ List.mem_map_of_mem hb)
  have hsame (l : List α) (hl : ∀ b ∈ l, key b ≠ key a) : l.map (fun b => if key b = key a then f b else b) = l := by
    refine (List.map_congr_left (fun b hb => if_neg (hl b hb))).trans (List.map_id' l)
  rw [List.map_append, List.map_cons, hsame before hbefore, hsame after hafter', if_pos rfl]

/-! ### The stages and the direction of a section (R47, R105, R106) -/

theorem Direction.learn_eq (held move : Direction) : held.learn move = if held = .unknown then move else held := by
  cases held <;> rfl

theorem CloseStage.leave_eq (g : CloseStage) : g.leave = if g = .faced then .quiet else g := by cases g <;> rfl

theorem CloseStage.enter_eq (g : CloseStage) : g.enter = if g = .quiet then .faced else g := by cases g <;> rfl

theorem State.sectionOpen_eq {y : Section} (h : findSection s.tst.sections x = some y) :
    s.sectionOpen x = (y.state == .opened) := by rw [State.sectionOpen, h]

theorem State.leaveSection_of_open (h : s.sectionOpen x = true) (move : Direction) (rushed : Bool) :
    s.leaveSection x move rushed = { s with
      tst := { s.tst with sections := s.tst.sections.map (fun z => if z.id = x then { z with
        unfacedSince := some s.psc.clock
        direction := if z.direction = .unknown then move else z.direction, rushed := z.rushed || rushed } else z) }
      sru := { s.sru with openList := s.sru.openList.map (fun o =>
        if o.sec = x then { o with stage := if o.stage = .faced then .quiet else o.stage } else o) } } := by
  rw [State.leaveSection, if_pos h]
  simp only [State.modSection, State.modOpen, State.setTst, State.setSru, Direction.learn_eq, CloseStage.leave_eq]

theorem State.reenterSection_eq (s : State) (x : SectionId) (move : Direction) : s.reenterSection x move = { s with
    tst := { s.tst with sections := s.tst.sections.map (fun z => if z.id = x then { z with
      unfacedSince := none, direction := if z.direction = .unknown then move else z.direction } else z) }
    sru := { s.sru with openList := s.sru.openList.map (fun o =>
      if o.sec = x then { o with stage := if o.stage = .quiet then .faced else o.stage } else o) } } := by
  rw [State.reenterSection]
  simp only [State.modSection, State.modOpen, State.setTst, State.setSru, Direction.learn_eq, CloseStage.enter_eq]

/-- A section opened at the end of the open-section list, before its close is begun under close-all. -/
def State.opened (s : State) (r : OpenRequest) : State := { s with
  tst := { s.tst with
    sections := s.tst.sections.map (fun z => if z.id = r.sec then z.openedWith r.direction else z) }
  sru := { s.sru with
    openList := s.sru.openList ++ [⟨r.sec, .faced, ⟨0, 0, 0, 0, 0⟩, none⟩]
    counters := { s.sru.counters with sectionsOpened := up32 s.sru.counters.sectionsOpened } } }

theorem State.openSection_eq (s : State) (r : OpenRequest) :
    s.openSection r = if s.sru.closeAll then (s.opened r).beginClose r.sec else s.opened r := rfl

/-- Room made by the close of the first section that is not CLOSING (R110). -/
theorem State.makeRoom_of_open {r : OpenRequest} {before after : List OpenSection} {o : OpenSection}
    (hlist : s.sru.openList = before ++ o :: after) (hbefore : ∀ b ∈ before, b.stage = .closing) (ho : o.stage ≠ .closing) :
    s.makeRoom r = State.forcePlaceRun { s with
      tst := { s.tst with sections := s.tst.sections.map (fun z => if z.id = o.sec then { z with evicted := true } else z) }
      sru := { s.sru with
        openList := s.sru.openList.map (fun b => if b.sec = o.sec then { b with stage := .requested } else b)
        counters := { s.sru.counters with sectionEvictions := up32 s.sru.counters.sectionEvictions } }
      spe := { s.spe with requests := s.spe.requests.erase o.sec } } o.sec (some r) := by
  have hfind : s.sru.openList.find? (fun o => o.stage != .closing) = some o := by
    rw [hlist, List.find?_append, List.find?_eq_none.mpr (fun b hb => by rw [hbefore b hb]; decide)]
    simp [ho]
  unfold State.makeRoom
  rw [hfind]
  rfl

theorem State.makeRoom_of_closing {r : OpenRequest} (h : ∀ o ∈ s.sru.openList, o.stage = .closing) :
    s.makeRoom r = { s with spe := { s.spe with work := .waitPlace r } } := by
  have hfind : s.sru.openList.find? (fun o => o.stage != .closing) = none :=
    List.find?_eq_none.mpr (fun b hb => by rw [h b hb]; decide)
  unfold State.makeRoom
  rw [hfind]
  rfl

theorem State.enterSection_of {y : Section} (h : findSection s.tst.sections x = some y) (move : Direction) :
    (y.state = .opened → s.enterSection x move = s.reenterSection x move) ∧
    (y.state = .closing ∨ y.state = .closed → s.enterSection x move = s) ∧
    (y.state = .unvisited → s.enterSection x move =
      if s.sru.openList.length < 32 then s.openSection ⟨x, move⟩ else s.makeRoom ⟨x, move⟩) := by
  unfold State.enterSection
  rw [h]
  dsimp only
  refine ⟨fun hy => ?_, fun hy => ?_, fun hy => ?_⟩
  · rw [hy]
  · obtain hy | hy := hy
    · rw [hy]
    · rw [hy]
  · rw [hy]
    rfl

/-- Settles O26: what a report does in each state of the section left and of the section entered. -/
theorem sectionsLeftAndEntered : Obligations.SectionsLeftAndEntered := by
  intro s x y hy
  have hopen := State.sectionOpen_eq hy
  refine ⟨fun move rushed => ⟨fun hstate => ?_, fun hstate => ?_⟩, fun move => ?_⟩
  · rw [hstate] at hopen
    exact State.leaveSection_of_open hopen move rushed
  · refine if_neg ?_
    rw [hopen]
    exact fun h => hstate (beq_iff_eq.mp h)
  · obtain ⟨hagain, hdone, hnew⟩ := State.enterSection_of hy move
    refine ⟨fun hstate => ?_, hdone, fun hstate hroom => ?_, fun hstate hfull hclosing => ?_,
      fun before after o hstate hfull hlist hbefore ho => ?_⟩
    · rw [hagain hstate, State.reenterSection_eq]
    · rw [hnew hstate, if_pos hroom, State.openSection_eq]
      rfl
    · rw [hnew hstate, if_neg (Nat.not_lt_of_le hfull), State.makeRoom_of_closing hclosing]
    · rw [hnew hstate, if_neg (Nat.not_lt_of_le hfull), State.makeRoom_of_open hlist hbefore ho]

/-! ### Closes begun (R108, R109, R120) -/

/-- A close requested: the stage, and the request handed to SPE. -/
def State.closeRequested (s : State) (x : SectionId) : State := { s with
  sru := { s.sru with openList := s.sru.openList.map (fun b => if b.sec = x then { b with stage := .requested } else b) }
  spe := { s.spe with requests := s.spe.requests ++ [x] } }

theorem State.beginClose_eq {o : OpenSection} (h : findOpen s.sru.openList x = some o) :
    s.beginClose x = if o.stage = .faced ∨ o.stage = .quiet then s.closeRequested x else s := by
  unfold State.beginClose
  rw [h]
  dsimp only
  cases hstage : o.stage with
  | faced => rfl
  | quiet => rfl
  | requested => rfl
  | closing => rfl

theorem findOpen_sec {openList : List OpenSection} {o : OpenSection} (h : findOpen openList x = some o) : o.sec = x :=
  beq_iff_eq.mp (List.find?_some (p := fun o : OpenSection => o.sec == x) h)

theorem State.quietDue_iff {o : OpenSection} {y : Section} (hsec : o.sec = x) (hy : findSection s.tst.sections x = some y) :
    s.quietDue o = true ↔ (s.psc.state = .scanning ∨ s.psc.state = .settling) ∧ o.stage = .quiet ∧
      ∃ t, y.unfacedSince = some t ∧ t + s.params.quietTime ≤ s.psc.clock := by
  rw [State.quietDue, hsec, hy, Bool.and_eq_true, Bool.and_eq_true, PassState.takesReads_iff, beq_iff_eq, and_assoc]
  refine and_congr_right fun _ => and_congr_right fun _ => ?_
  rw [Option.bind_some]
  cases y.unfacedSince with
  | none => simp
  | some t => simp

theorem exec_quietClose {o : OpenSection} {y : Section} (hline : s.resetLine = false) (ho : findOpen s.sru.openList x = some o)
    (hy : findSection s.tst.sections x = some y) :
    ((s.psc.state = .scanning ∨ s.psc.state = .settling) ∧ o.stage = .quiet ∧
        (∃ t, y.unfacedSince = some t ∧ t + s.params.quietTime ≤ s.psc.clock) →
      exec (.quietClose x) s = .next (s.closeRequested x)) ∧
    (¬((s.psc.state = .scanning ∨ s.psc.state = .settling) ∧ o.stage = .quiet ∧
        ∃ t, y.unfacedSince = some t ∧ t + s.params.quietTime ≤ s.psc.clock) → exec (.quietClose x) s = .next s) := by
  have hlive : exec (.quietClose x) s = .next (quietCloseStep x s) := live_of_released hline _
  have hstep : quietCloseStep x s = if s.quietDue o then s.beginClose x else s := by rw [quietCloseStep, ho]
  have hdue := State.quietDue_iff (findOpen_sec ho) hy
  rw [hlive, hstep]
  refine ⟨fun h => ?_, fun h => ?_⟩
  · rw [if_pos (hdue.mpr h), State.beginClose_eq ho, if_pos (.inr h.2.1)]
  · rw [if_neg (fun hd => h (hdue.mp hd))]

/-- Settles O34: a close is begun once, and a waiting opening is an opening. -/
theorem quietClosesAndWaitingOpenings : Obligations.QuietClosesAndWaitingOpenings := by
  refine ⟨fun s x o ho => ⟨State.beginClose_eq ho, fun y hline hy => exec_quietClose hline ho hy⟩,
    fun s r hline hwork => ?_⟩
  have hlive : exec .sectionOpenAfterWait s = .next (sectionOpenAfterWaitStep s) := live_of_released hline _
  have hstep : sectionOpenAfterWaitStep s =
      if s.sru.openList.length < 32 then (s.setWork .idle).openSection r else s := by
    rw [sectionOpenAfterWaitStep, hwork]
    rfl
  rw [hlive, hstep]
  refine ⟨fun hroom => ?_, fun hfull => ?_⟩
  · rw [if_pos hroom, State.openSection_eq]
    rfl
  · rw [if_neg (Nat.not_lt_of_le hfull)]

/-! ### The settle request (R93, R120, R135) -/

/-- An open-section list entry once its close has begun. -/
def OpenSection.askedFor (o : OpenSection) : OpenSection :=
  if o.stage = .faced ∨ o.stage = .quiet then { o with stage := .requested } else o

/-- The close of one section begun, written on its list entry. -/
theorem State.beginClose_at {before after : List OpenSection} {o : OpenSection} (hlist : s.sru.openList = before ++ o :: after)
    (hnodup : (s.sru.openList.map OpenSection.sec).Nodup) : s.beginClose o.sec = { s with
      sru := { s.sru with openList := before ++ o.askedFor :: after }
      spe := { s.spe with
        requests := s.spe.requests ++ if o.stage = .faced ∨ o.stage = .quiet then [o.sec] else [] } } := by
  rw [hlist] at hnodup
  have hfind : findOpen s.sru.openList o.sec = some o := by
    have hnot : ∀ b ∈ before, ¬(b.sec == o.sec) = true := fun b hb => by
      rw [List.map_append, List.map_cons, List.nodup_append] at hnodup
      rw [beq_iff_eq]
      exact hnodup.2.2 _ (List.mem_map_of_mem hb) _ List.mem_cons_self
    rw [findOpen, hlist, List.find?_append, List.find?_eq_none.mpr hnot]
    simp
  rw [State.beginClose_eq hfind, OpenSection.askedFor]
  split
  · rw [State.closeRequested, hlist, map_update_of_nodup OpenSection.sec _ hnodup]
  · rw [← hlist, List.append_nil]

/-- The closes of a part of the open-section list begun in its order. -/
theorem State.beginCloses_eq (rest : List OpenSection) (before : List OpenSection) (s : State)
    (hlist : s.sru.openList = before ++ rest) (hnodup : (s.sru.openList.map OpenSection.sec).Nodup) :
    (rest.map OpenSection.sec).foldl (fun t x => t.beginClose x) s = { s with
      sru := { s.sru with openList := before ++ rest.map OpenSection.askedFor }
      spe := { s.spe with requests := s.spe.requests ++
        (rest.filter (fun o => o.stage = .faced ∨ o.stage = .quiet)).map OpenSection.sec } } := by
  induction rest generalizing before s with
  | nil =>
    rw [List.map_nil, List.foldl_nil, List.map_nil, ← hlist, List.filter_nil, List.map_nil, List.append_nil]
  | cons o rest ih =>
    have hsec : o.askedFor.sec = o.sec := by
      unfold OpenSection.askedFor
      split
      · rfl
      · rfl
    rw [List.map_cons, List.foldl_cons, State.beginClose_at hlist hnodup, ih (before ++ [o.askedFor])]
    · by_cases hasked : o.stage = .faced ∨ o.stage = .quiet
      · simp only [if_pos hasked, List.filter_cons, decide_eq_true hasked, if_true, List.map_cons, List.append_assoc,
          List.cons_append, List.nil_append]
      · simp only [if_neg hasked, List.filter_cons, decide_eq_false hasked, Bool.false_eq_true, if_false, List.map_cons,
          List.append_assoc, List.cons_append, List.nil_append]
    · rw [List.append_assoc]
      rfl
    · rw [hlist] at hnodup
      dsimp only
      rw [List.map_append, List.map_cons, hsec]
      rwa [List.map_append, List.map_cons] at hnodup

/-- Close-all in force (R120), with no item of work in hand. -/
theorem State.closeAllSections_eq (hnodup : (s.sru.openList.map OpenSection.sec).Nodup) (hstate : s.psc.state = .settling)
    (hwork : s.spe.work = .idle) :
    let u : State := { s with
      spe := { s.spe with requests := s.spe.requests ++
        (s.sru.openList.filter (fun o => o.stage = .faced ∨ o.stage = .quiet)).map OpenSection.sec }
      sru := { s.sru with closeAll := true, openList := s.sru.openList.map OpenSection.askedFor } }
    s.closeAllSections = if s.sru.openList = [] then { u with
        sru := { u.sru with closeAll := false }
        psc := { u.psc with state := .tallying, tallyPosition := 0, tallyWait := none } } else u := by
  have hbegun := State.beginCloses_eq s.sru.openList [] (s.setSru { s.sru with closeAll := true }) rfl hnodup
  rw [State.closeAllSections, hbegun]
  simp only [State.setSru, List.nil_append]
  have hempty : s.psc.state = .settling ∧ true = true ∧ s.sru.openList.map OpenSection.askedFor = [] ∧
      s.awaitsPlace = false ↔ s.sru.openList = [] := by
    have hplace : s.awaitsPlace = false := by rw [State.awaitsPlace, hwork]
    rw [List.map_eq_nil_iff]
    exact ⟨fun h => h.2.2.1, fun h => ⟨hstate, rfl, h, hplace⟩⟩
  exact if_congr hempty rfl rfl

theorem State.waiting_iff (s : State) : s.waiting = true ↔ s.spe.work ≠ .idle := by rw [State.waiting, bne_iff_ne]

theorem State.waiting_eq_false (s : State) : s.waiting = false ↔ s.spe.work = .idle := by
  rw [Bool.eq_false_iff, Ne, State.waiting_iff, not_not]

theorem State.placeMany_eq (s : State) (slots : List Nat) (r : Route) (k : Continuation) : s.placeMany slots r k =
    slots.foldl (fun t slot => if t.spe.work = .idle then t.place slot r k else t) s := by
  unfold State.placeMany
  congr 1
  funext t slot
  rw [if_congr (State.waiting_iff t) rfl rfl, ite_not]

theorem openSlots_all (table : List Sighting) : openSlots table (fun _ => true) =
    (table.filter (fun w => w.placement = none)).map Sighting.slot := by
  rw [openSlots]
  congr 2
  funext w
  cases w.placement <;> rfl

/-- Settles O33: the queues drained, then every OPEN entry placed and every close begun. -/
theorem settlingDrainsAndPlaces : Obligations.SettlingDrainsAndPlaces := by
  refine ⟨fun s hline => ?_, fun s hline hwork hrequests hsettle => ?_⟩
  · have hlive : exec .drainComplete s = .next (drainCompleteStep s) := live_of_released hline _
    have hdone : (s.psc.state = .settling ∧ s.psc.stage = .draining ∧ s.spe.work = .idle ∧ s.queuesEmpty = true) ↔
        (s.psc.state = .settling ∧ s.psc.stage = .draining ∧ s.spe.work = .idle ∧ ∀ p : Port, s.piq[p].queue = []) := by
      rw [State.queuesEmpty_iff]
    rw [hlive, drainCompleteStep]
    exact ⟨fun h => congrArg _ (if_pos (hdone.mpr h)), fun h => congrArg _ (if_neg (fun hd => h (hdone.mp hd)))⟩
  · have hlive : exec .settle s = .next (settleStep s) := live_of_released hline _
    have hrun : settleStep s = s.settleRun := if_pos ⟨hwork, hrequests, hsettle⟩
    rw [hlive, hrun, State.settleRun, State.placeMany_eq, openSlots_all]
    generalize ((s.spe.table.filter (fun w => w.placement = none)).map Sighting.slot).foldl
      (fun t slot => if t.spe.work = .idle then t.place slot .settle .settle else t) s = t
    refine ⟨fun hwaits => ?_, fun hidle hnodup hstate => ?_⟩
    · exact congrArg _ (if_pos ((State.waiting_iff t).mpr hwaits))
    · have hgo : ¬t.waiting = true := by rw [(State.waiting_eq_false t).mpr hidle]; exact Bool.false_ne_true
      have hclose := State.closeAllSections_eq (s := { t with
        spe := { t.spe with settleRequest := false }, psc := { t.psc with stage := .closingAll } }) hnodup hstate hidle
      refine congrArg _ ((if_neg hgo).trans ?_)
      exact hclose

end Sys2Proof.Machine
end

section
/-! SUPPORT. The candidates of a sighting entry: scoring, the lead and the margin (section 5.3); settles O28. -/

namespace Sys2Proof.Machine

/-! ### The lead and the margin (R87) -/

theorem leadOf_mem {l : List Candidate} {c : Candidate} (h : leadOf l = some c) : c ∈ l := by
  induction l generalizing c with
  | nil => contradiction
  | cons b l ih =>
    rw [leadOf] at h
    split at h
    · obtain rfl := Option.some.inj h
      exact List.mem_cons_self
    next d hd =>
      split at h
      · obtain rfl := Option.some.inj h
        exact List.mem_cons_of_mem _ (ih hd)
      · obtain rfl := Option.some.inj h
        exact List.mem_cons_self

/-- The earliest of the highest scores. -/
theorem leadOf_eq {before after : List Candidate} {c : Candidate} (hbefore : ∀ d ∈ before, d.score < c.score)
    (hafter : ∀ d ∈ after, d.score ≤ c.score) : leadOf (before ++ c :: after) = some c := by
  induction before with
  | nil =>
    rw [List.nil_append, leadOf]
    split
    · rfl
    next d hd => exact if_neg (Nat.not_lt_of_le (hafter d (leadOf_mem hd)))
  | cons b before ih =>
    rw [List.cons_append, leadOf, ih (fun d hd => hbefore d (List.mem_cons_of_mem _ hd))]
    exact if_pos (hbefore b List.mem_cons_self)

theorem foldl_max_score (l : List Candidate) : l.foldl (fun m c => max m c.score) 0 = (l.map Candidate.score).foldr max 0 := by
  rw [← List.foldl_eq_foldr, List.foldl_map]

theorem filter_ne_of_nodup {before after : List Candidate} {c : Candidate} (h : ∀ d ∈ before ++ after, d.sec ≠ c.sec) :
    (before ++ c :: after).filter (fun d => d.sec != c.sec) = before ++ after := by
  have hkeep (l : List Candidate) (hl : ∀ d ∈ l, d.sec ≠ c.sec) : l.filter (fun d => d.sec != c.sec) = l :=
    List.filter_eq_self.mpr (fun d hd => bne_iff_ne.mpr (hl d hd))
  rw [List.filter_append, List.filter_cons, hkeep before (fun d hd => h d (List.mem_append_left _ hd)),
    hkeep after (fun d hd => h d (List.mem_append_right _ hd)), if_neg (by simp)]

theorem marginOf_eq {before after : List Candidate} {c : Candidate} (hlead : leadOf (before ++ c :: after) = some c)
    (h : ∀ d ∈ before ++ after, d.sec ≠ c.sec) :
    marginOf (before ++ c :: after) = c.score - ((before ++ after).map Candidate.score).foldr max 0 := by
  rw [marginOf, hlead]
  dsimp only
  rw [runnerUp, filter_ne_of_nodup h, foldl_max_score]

/-! ### Scoring (R84, R85) -/

theorem Candidate.raise_eq (c : Candidate) (r : ItemRead) : c.raise r =
    if c.peak < r.strength then ⟨c.sec, min 65535 (c.score + r.weight), r.strength, r.sweep⟩
    else ⟨c.sec, min 65535 (c.score + r.weight), c.peak, c.sweep⟩ := rfl

theorem Sighting.candidate_isSome {e : Sighting} {c : Candidate} {x : SectionId} (hc : c ∈ e.candidates) (hsec : c.sec = x) :
    ∃ d, e.candidate x = some d :=
  Option.isSome_iff_exists.mp (List.find?_isSome.mpr ⟨c, hc, beq_iff_eq.mpr hsec⟩)

theorem Sighting.candidate_eq_none {e : Sighting} {x : SectionId} (h : ∀ c ∈ e.candidates, c.sec ≠ x) : e.candidate x = none :=
  List.find?_eq_none.mpr (fun c hc => by rw [beq_iff_eq]; exact h c hc)

theorem Sighting.scored_listed {e : Sighting} {r : ItemRead} {before after : List Candidate} {c : Candidate}
    (hnodup : (e.candidates.map Candidate.sec).Nodup) (hlist : e.candidates = before ++ c :: after) (hsec : c.sec = r.sec) :
    e.scored r = some (before ++ c.raise r :: after) := by
  obtain ⟨d, hd⟩ := Sighting.candidate_isSome (e := e) (c := c) (by rw [hlist]; simp) hsec
  rw [hlist] at hnodup
  rw [Sighting.scored, hd]
  dsimp only
  rw [hlist, ← hsec]
  exact congrArg some (map_update_of_nodup Candidate.sec (fun c => c.raise r) hnodup)

theorem Sighting.scored_new {e : Sighting} {r : ItemRead} (hnew : ∀ c ∈ e.candidates, c.sec ≠ r.sec)
    (hroom : e.candidates.length < 3) : e.scored r = some (e.candidates ++ [r.candidate]) := by
  rw [Sighting.scored, Sighting.candidate_eq_none hnew]
  exact if_pos hroom

theorem lowestOf_mem {l : List Candidate} {c : Candidate} (h : lowestOf l = some c) : c ∈ l := by
  induction l generalizing c with
  | nil => contradiction
  | cons b l ih =>
    rw [lowestOf] at h
    split at h
    · obtain rfl := Option.some.inj h
      exact List.mem_cons_self
    next d hd =>
      split at h
      · obtain rfl := Option.some.inj h
        exact List.mem_cons_of_mem _ (ih hd)
      · obtain rfl := Option.some.inj h
        exact List.mem_cons_self

/-- The latest added of the lowest scores. -/
theorem lowestOf_eq {before after : List Candidate} {low : Candidate} (hbefore : ∀ c ∈ before, low.score ≤ c.score)
    (hafter : ∀ c ∈ after, low.score < c.score) : lowestOf (before ++ low :: after) = some low := by
  induction before with
  | nil =>
    rw [List.nil_append, lowestOf]
    split
    · rfl
    next d hd => exact if_neg (Nat.not_le_of_lt (hafter d (lowestOf_mem hd)))
  | cons b before ih =>
    rw [List.cons_append, lowestOf, ih (fun d hd => hbefore d (List.mem_cons_of_mem _ hd))]
    exact if_pos (hbefore b List.mem_cons_self)

/-- A candidate is not that of the placed section. -/
def Sighting.MayReplace (e : Sighting) (c : Candidate) : Prop := ∀ x k, e.placement = some (x, k) → c.sec ≠ x

theorem Sighting.exists_replaceable (e : Sighting) :
    ∃ p : Candidate → Bool, e.replaceable = e.candidates.filter p ∧ ∀ c, p c = true ↔ e.MayReplace c := by
  unfold Sighting.replaceable Sighting.MayReplace
  cases hplacement : e.placement with
  | none =>
    refine ⟨fun _ => true, (List.filter_eq_self.mpr (fun _ _ => rfl)).symm, fun c => ⟨fun _ x k h => ?_, fun _ => rfl⟩⟩
    contradiction
  | some placed =>
    obtain ⟨y, l⟩ := placed
    refine ⟨fun c => c.sec != y, rfl, fun c => ?_⟩
    rw [bne_iff_ne]
    constructor
    · intro h x k hxk
      obtain ⟨rfl, rfl⟩ := Prod.mk.inj (Option.some.inj hxk)
      exact h
    · exact fun h => h y l rfl

theorem Sighting.scored_full {e : Sighting} {r : ItemRead} {before after : List Candidate} {low : Candidate}
    (hnodup : (e.candidates.map Candidate.sec).Nodup) (hnew : ∀ c ∈ e.candidates, c.sec ≠ r.sec) (hfull : 3 ≤ e.candidates.length)
    (hlist : e.candidates = before ++ low :: after) (hlow : e.MayReplace low)
    (hbefore : ∀ c ∈ before, e.MayReplace c → low.score ≤ c.score)
    (hafter : ∀ c ∈ after, e.MayReplace c → low.score < c.score) :
    e.scored r = if low.score < r.weight then some (before ++ after ++ [r.candidate]) else none := by
  obtain ⟨p, hreplaceable, hp⟩ := e.exists_replaceable
  have hlowest : lowestOf e.replaceable = some low := by
    rw [hreplaceable, hlist, List.filter_append, List.filter_cons, if_pos ((hp low).mpr hlow)]
    refine lowestOf_eq (fun c hc => ?_) (fun c hc => ?_)
    · obtain ⟨hc, hpc⟩ := List.mem_filter.mp hc
      exact hbefore c hc ((hp c).mp hpc)
    · obtain ⟨hc, hpc⟩ := List.mem_filter.mp hc
      exact hafter c hc ((hp c).mp hpc)
  have hothers : ∀ d ∈ before ++ after, d.sec ≠ low.sec := by
    rw [hlist] at hnodup
    have hcons := (List.perm_middle.map Candidate.sec).nodup_iff.mp hnodup
    exact fun d hd he => (List.nodup_cons.mp hcons).1 (he ▸ List.mem_map_of_mem hd)
  have hfilter : e.candidates.filter (fun c => c.sec != low.sec) = before ++ after := by
    rw [hlist, filter_ne_of_nodup hothers]
  rw [Sighting.scored, Sighting.candidate_eq_none hnew]
  dsimp only
  rw [if_neg (Nat.not_lt_of_le hfull), hlowest]
  dsimp only
  rw [hfilter]

/-- Settles O28: the three ways a read is scored, then the lead and the margin. -/
theorem candidatesAreScored : Obligations.CandidatesAreScored := by
  refine ⟨fun e r hnodup => ⟨fun before after c hlist hsec => ?_, Sighting.scored_new,
    fun before after low hnew hfull hlist hlow hbefore hafter =>
      Sighting.scored_full hnodup hnew hfull hlist hlow hbefore hafter⟩,
    fun before after c hbefore hafter => ⟨leadOf_eq hbefore hafter, marginOf_eq (leadOf_eq hbefore hafter)⟩⟩
  rw [Sighting.scored_listed hnodup hlist hsec, Candidate.raise_eq]

end Sys2Proof.Machine
end

section
/-! SUPPORT. Sightings: entries made, scored, placed, moved, disposed of and retired (sections 5.2 to 5.6); settles O27 and O29 to
O32. -/

namespace Sys2Proof.Machine

variable {s t : State} {v : Sighting} {x : SectionId}

/-! ### The table by its keys -/

theorem find?_of_nodup {α κ : Type} [DecidableEq κ] {key : α → κ} {l : List α} {a : α} {k : κ} (hnodup : (l.map key).Nodup)
    (ha : a ∈ l) (hk : key a = k) : l.find? (fun b => key b == k) = some a := by
  obtain ⟨before, after, rfl⟩ := List.append_of_mem ha
  rw [List.map_append, List.map_cons, List.nodup_append] at hnodup
  have hbefore : ∀ b ∈ before, ¬(key b == k) = true := fun b hb => by
    rw [beq_iff_eq, ← hk]
    exact hnodup.2.2 _ (List.mem_map_of_mem hb) _ List.mem_cons_self
  rw [List.find?_append, List.find?_eq_none.mpr hbefore]
  simp [hk]

theorem entryAt_of_mem {table : List Sighting} (hnodup : (table.map Sighting.slot).Nodup) (hv : v ∈ table) :
    entryAt table v.slot = some v := find?_of_nodup hnodup hv rfl

theorem entryOf_of_mem {table : List Sighting} {tag : TagCode} (hnodup : (table.map Sighting.tag).Nodup) (hv : v ∈ table)
    (htag : v.tag = tag) : entryOf table tag = some v := find?_of_nodup hnodup hv htag

theorem entryOf_eq_none {table : List Sighting} {tag : TagCode} (h : ∀ i ∈ table, i.tag ≠ tag) : entryOf table tag = none :=
  List.find?_eq_none.mpr (fun i hi => by rw [beq_iff_eq]; exact h i hi)

/-! ### Marks and the counting of scored reads -/

/-- The records with the mark of a reference set. -/
def markedAt (holdings : List Holding) (ref : Option Nat) (m : Mark) : List Holding :=
  match ref with
  | none => holdings
  | some r => holdings.modify r (fun h => { h with mark := m })

theorem State.mark_eq (s : State) (ref : Option Nat) (m : Mark) :
    s.mark ref m = { s with tst := { s.tst with holdings := markedAt s.tst.holdings ref m } } := by
  cases ref with
  | none => rfl
  | some r => rfl

theorem State.endScored_eq (s : State) : s.endScored = s.scoreOver := by
  unfold State.endScored State.scoreOver
  by_cases h : s.spe.work = .idle
  · have hgo : ¬s.waiting = true := fun hw => (State.waiting_iff s).mp hw h
    rw [if_neg hgo, if_pos h]
    rfl
  · rw [if_pos ((State.waiting_iff s).mpr h), if_neg h]
    rfl

theorem State.endWait_eq (s : State) : s.endWait = s.waitOver := by
  unfold State.endWait State.waitOver
  have hiff : s.waiting = false ∧ s.spe.scorePending = true ↔ s.spe.work = .idle ∧ s.spe.scorePending = true := by
    rw [State.waiting_eq_false]
  by_cases h : s.spe.work = .idle ∧ s.spe.scorePending = true
  · rw [if_pos (hiff.mpr h), if_pos h]
    rfl
  · rw [if_neg (fun hw => h (hiff.mp hw)), if_neg h]

/-! ### New entries (R82) -/

theorem lowestFreeFrom_eq {before after : List Sighting} {n k : Nat} (hbefore : before.map Sighting.slot = List.range' n k)
    (hafter : ∀ i ∈ after, n + k < i.slot) : lowestFreeFrom n (before ++ after) = n + k := by
  induction before generalizing n k with
  | nil =>
    obtain rfl : 0 = k := by simpa using congrArg List.length hbefore
    cases after with
    | nil => rfl
    | cons a after => exact if_neg (Nat.ne_of_gt (hafter a List.mem_cons_self))
  | cons b before ih =>
    obtain ⟨k, rfl⟩ : ∃ j, k = j + 1 := by
      cases k with
      | zero => simp at hbefore
      | succ j => exact ⟨j, rfl⟩
    rw [List.map_cons, List.range'_succ, List.cons.injEq] at hbefore
    obtain ⟨hslot, hrest⟩ := hbefore
    rw [List.cons_append, lowestFreeFrom, if_pos hslot, ih hrest (fun i hi => by have := hafter i hi; omega)]
    omega

theorem insertEntry_eq {before after : List Sighting} {e : Sighting} (hbefore : ∀ i ∈ before, i.slot < e.slot)
    (hafter : ∀ i ∈ after, e.slot < i.slot) : insertEntry e (before ++ after) = before ++ e :: after := by
  induction before with
  | nil =>
    cases after with
    | nil => rfl
    | cons a after => exact if_pos (hafter a List.mem_cons_self)
  | cons b before ih =>
    have hnot : ¬e.slot < b.slot := Nat.not_lt_of_le (Nat.le_of_lt (hbefore b List.mem_cons_self))
    rw [List.cons_append, insertEntry, if_neg hnot, ih (fun i hi => hbefore i (List.mem_cons_of_mem _ hi))]
    rfl

/-- The entry of a new sighting. -/
def State.newSighting (s : State) (r : ItemRead) (ref : Option Nat) (slot : Nat) : Sighting :=
  ⟨slot, r.tag, ref, [⟨r.sec, r.weight, r.strength, r.sweep⟩], 1, s.psc.clock, none, 0, false⟩

theorem State.makeEntry_eq (r : ItemRead) (ref : Option Nat) {before after : List Sighting} {slot : Nat}
    (htable : s.spe.table = before ++ after) (hbefore : before.map Sighting.slot = List.range slot)
    (hafter : ∀ i ∈ after, slot < i.slot) : s.makeEntry r ref = (State.confirmTest { s with
      spe := { s.spe with
        table := before ++ s.newSighting r ref slot :: after
        counters := { s.spe.counters with newSightings := up32 s.spe.counters.newSightings } }
      tst := { s.tst with holdings := markedAt s.tst.holdings ref .sighted } } slot).scoreOver := by
  have hlowest : lowestFree s.spe.table = slot := by
    rw [List.range_eq_range'] at hbefore
    rw [lowestFree, htable, lowestFreeFrom_eq hbefore (by simpa using hafter), Nat.zero_add]
  have hslots : ∀ i ∈ before, i.slot < slot := fun i hi => by
    have hmem := List.mem_map_of_mem (f := Sighting.slot) hi
    rw [hbefore, List.mem_range] at hmem
    exact hmem
  have hinsert := insertEntry_eq (e := s.newSighting r ref slot) hslots hafter
  unfold State.makeEntry
  dsimp only
  rw [hlowest, State.endScored_eq, State.mark_eq]
  have hnew : insertEntry ⟨slot, r.tag, ref, [⟨r.sec, r.weight, r.strength, r.sweep⟩], 1, s.psc.clock, none, 0, false⟩
      s.spe.table = before ++ s.newSighting r ref slot :: after := by rw [htable]; exact hinsert
  rw [hnew]
  rfl

/-! ### Victims (R97) -/

/-- The order of victims: the older last-read time, the lower slot where times tie. -/
def Sighting.Older (a b : Sighting) : Prop := a.lastRead < b.lastRead ∨ a.lastRead = b.lastRead ∧ a.slot ≤ b.slot

theorem oldestEntry_mem {l : List Sighting} {e : Sighting} (h : oldestEntry l = some e) : e ∈ l := by
  induction l generalizing e with
  | nil => contradiction
  | cons b l ih =>
    rw [oldestEntry] at h
    split at h
    · obtain rfl := Option.some.inj h
      exact List.mem_cons_self
    next d hd =>
      split at h
      · obtain rfl := Option.some.inj h
        exact List.mem_cons_of_mem _ (ih hd)
      · obtain rfl := Option.some.inj h
        exact List.mem_cons_self

theorem oldestEntry_eq {l : List Sighting} (hsorted : l.Pairwise (fun a b => a.slot < b.slot)) (hv : v ∈ l)
    (holdest : ∀ w ∈ l, v.Older w) : oldestEntry l = some v := by
  induction l with
  | nil => contradiction
  | cons b l ih =>
    obtain ⟨hb, hsorted⟩ := List.pairwise_cons.mp hsorted
    rw [oldestEntry]
    obtain rfl | hv := List.mem_cons.mp hv
    · split
      · rfl
      next d hd =>
        refine if_neg ?_
        rcases holdest d (List.mem_cons_of_mem _ (oldestEntry_mem hd)) with hlt | ⟨heq, _⟩
        · exact Nat.not_lt_of_le (Nat.le_of_lt hlt)
        · exact Nat.not_lt_of_le (Nat.le_of_eq heq)
    · rw [ih hsorted hv (fun w hw => holdest w (List.mem_cons_of_mem _ hw))]
      refine if_pos ?_
      rcases holdest b List.mem_cons_self with hlt | ⟨_, hle⟩
      · exact hlt
      · exact absurd (hb v hv) (Nat.not_lt_of_le hle)

theorem victimOf_open {table : List Sighting} (hsorted : table.Pairwise (fun a b => a.slot < b.slot)) (hv : v ∈ table)
    (hopen : v.placement = none) (holdest : ∀ w ∈ table, w.placement = none → v.Older w) : victimOf table = some v := by
  have hfirst : oldestEntry (table.filter (fun e => e.placement.isNone)) = some v := by
    refine oldestEntry_eq (hsorted.filter _) (List.mem_filter.mpr ⟨hv, by rw [hopen]; rfl⟩) (fun w hw => ?_)
    obtain ⟨hw, hnone⟩ := List.mem_filter.mp hw
    exact holdest w hw (Option.isNone_iff_eq_none.mp hnone)
  rw [victimOf, hfirst]

theorem victimOf_placed {table : List Sighting} (hsorted : table.Pairwise (fun a b => a.slot < b.slot)) (hv : v ∈ table)
    (holdest : ∀ w ∈ table, w.placement ≠ none ∧ v.Older w) : victimOf table = some v := by
  have hnone : table.filter (fun e => e.placement.isNone) = [] :=
    List.filter_eq_nil_iff.mpr (fun w hw => by
      rw [Option.isNone_iff_eq_none]
      exact (holdest w hw).1)
  rw [victimOf, hnone]
  exact oldestEntry_eq hsorted hv (fun w hw => (holdest w hw).2)

/-- A slot freed by eviction: an OPEN victim is placed first. -/
theorem State.evictFor_eq (r : ItemRead) (ref : Option Nat) (hvictim : victimOf s.spe.table = some v) :
    s.evictFor r ref =
      let t := s.tally (fun c => { c with evictions := up32 c.evictions })
      let u := if v.placement = none then t.place v.slot .evict (.newEntry r ref) else t
      if u.spe.work = .idle then (u.earlyRetire v.slot).makeEntry r ref else u := by
  have hnone : v.placement.isNone = true ↔ v.placement = none := Option.isNone_iff_eq_none
  unfold State.evictFor
  rw [hvictim]
  dsimp only
  rw [if_congr hnone rfl rfl, if_congr (State.waiting_iff _) rfl rfl, ite_not]
  rfl

theorem State.newEntry_of_room (h : s.spe.table.length < 2048) (r : ItemRead) (ref : Option Nat) :
    s.newEntry r ref = s.makeEntry r ref := if_pos h

theorem State.newEntry_of_full (h : s.spe.table.length = 2048) (r : ItemRead) (ref : Option Nat) :
    s.newEntry r ref = s.evictFor r ref := by
  have hfull : ¬s.spe.table.length < Config.sightingCapacity := by
    rw [h]
    decide
  exact if_neg hfull

theorem State.sight_of_free {r : ItemRead} (hfree : s.disposed (findHolding s.tst.holdings r.tag) = false) :
    (entryOf s.spe.table r.tag = none → s.sight r = s.newEntry r (findHolding s.tst.holdings r.tag)) ∧
    ∀ v, entryOf s.spe.table r.tag = some v → s.sight r = s.scoreEntry v r := by
  have hgo : ¬s.disposed (findHolding s.tst.holdings r.tag) = true := by rw [hfree]; exact Bool.false_ne_true
  unfold State.sight
  rw [if_neg hgo]
  refine ⟨fun h => ?_, fun v h => ?_⟩
  · rw [h]
  · rw [h]

/-- Settles O27: the lowest free slot, and the victim of a full table. -/
theorem newSightings : Obligations.NewSightings := by
  refine ⟨fun s e rest x h hweighs hfree hnew => ?_, fun s r ref => ⟨fun before after slot hroom htable hbefore hafter => ?_,
    fun v hwork hfull hsorted hv => ⟨fun hopen holdest => ?_, fun holdest => ?_⟩⟩⟩
  · rw [exec_readTake_of_weighs h hweighs]
    have hnone : entryOf (s.afterTake e rest).spe.table (s.evidence e x).tag = none := entryOf_eq_none hnew
    exact congrArg _ ((State.sight_of_free (s := s.afterTake e rest) (r := s.evidence e x) hfree).1 hnone)
  · rw [State.newEntry_of_room hroom, State.makeEntry_eq r ref htable hbefore hafter]
    cases ref with
    | none => rfl
    | some k => rfl
  · have hvictim := victimOf_open hsorted hv hopen holdest
    rw [State.newEntry_of_full hfull, State.evictFor_eq r ref hvictim]
    dsimp only
    rw [if_pos hopen]
  · have hvictim := victimOf_placed hsorted hv holdest
    rw [State.newEntry_of_full hfull, State.evictFor_eq r ref hvictim]
    dsimp only
    rw [if_neg (holdest v hv).1]
    exact if_pos hwork

/-! ### Placing (R88, R89) -/

theorem firm_iff (q : Params) (e : Sighting) : firm q e = true ↔ q.minReads ≤ e.reads ∧ q.margin ≤ marginOf e.candidates := by
  rw [firm, Bool.and_eq_true, decide_eq_true_eq, decide_eq_true_eq]

theorem confidenceOf_eq (q : Params) (e : Sighting) : confidenceOf q e =
    if q.minReads ≤ e.reads ∧ q.margin ≤ marginOf e.candidates then .firm else .ambiguous := if_congr (firm_iff q e) rfl rfl

theorem State.listFull_iff (s : State) (x : SectionId) : s.listFull x = true ↔ 96 ≤ (s.listOf x).length := decide_eq_true_iff

/-- The placement of the OPEN entry of a slot, by the room in the list of its lead. -/
theorem State.place_eq {c : Candidate} (hentry : entryAt s.spe.table v.slot = some v) (hlead : leadOf v.candidates = some c)
    (route : Route) (left : Continuation) : s.place v.slot route left =
      if 96 ≤ (s.listOf c.sec).length then
        (s.tally (fun n => n.route route)).disposeFull c.sec v (confidenceOf s.params v) left
      else { s with
        spe := { s.spe with
          table := s.spe.table.map (fun w =>
            if w.slot = v.slot then { w with placement := some (c.sec, confidenceOf s.params v) } else w)
          counters := s.spe.counters.route route }
        tst :=
          { holdings := markedAt s.tst.holdings v.ref .placed
            sections := s.tst.sections.map (fun y => if y.id = c.sec then
              { y with list := y.list ++ [itemOf s.tst.holdings v c.sweep (confidenceOf s.params v)] } else y) } } := by
  unfold State.place
  rw [hentry]
  dsimp only
  rw [hlead]
  dsimp only
  rw [if_congr (State.listFull_iff s c.sec) rfl rfl, State.mark_eq]
  rfl

theorem SpeCounters.route_eq (n : SpeCounters) (route : Route) : n.route route = match route with
    | .confirm => { n with placedConfirm := up32 n.placedConfirm }
    | .quiet => { n with placedQuiet := up32 n.placedQuiet }
    | .close => { n with placedClose := up32 n.placedClose }
    | .settle => { n with placedSettle := up32 n.placedSettle }
    | .evict => { n with placedEvict := up32 n.placedEvict } := by
  cases route <;> rfl

theorem quietExpiryStep_eq (s : State) : quietExpiryStep s =
    if s.spe.work = .idle ∧ s.spe.requests = [] ∧ s.spe.settleRequest = false ∧
        (s.psc.state = .scanning ∨ s.psc.state = .settling) then
      (s.spe.table.find? (fun w => decide (w.placement = none ∧ w.lastRead + s.params.quietTime ≤ s.psc.clock))).elim s
        (fun w => s.place w.slot .quiet .done)
    else s := by
  have htest : (fun w : Sighting => w.placement.isNone && decide (w.lastRead + s.params.quietTime ≤ s.psc.clock)) =
      fun w => decide (w.placement = none ∧ w.lastRead + s.params.quietTime ≤ s.psc.clock) := by
    funext w
    rw [Bool.decide_and]
    cases w.placement <;> rfl
  unfold quietExpiryStep State.expiryIf
  by_cases hfree : s.speFree = true
  · by_cases hstate : s.psc.state = .scanning ∨ s.psc.state = .settling
    · obtain ⟨hwork, hrequests, hsettle⟩ := (State.speFree_iff s).mp hfree
      rw [if_pos hfree, if_pos ((PassState.takesReads_iff _).mpr hstate), if_pos ⟨hwork, hrequests, hsettle, hstate⟩, htest]
      cases s.spe.table.find? (fun w => decide (w.placement = none ∧ w.lastRead + s.params.quietTime ≤ s.psc.clock)) with
      | none => rfl
      | some w => rfl
    · have hno : ¬s.psc.state.takesReads = true := fun h => hstate ((PassState.takesReads_iff _).mp h)
      rw [if_pos hfree, if_neg hno, if_neg (fun h => hstate h.2.2.2)]
  · rw [if_neg hfree, if_neg (fun h => hfree ((State.speFree_iff s).mpr ⟨h.1, h.2.1, h.2.2.1⟩))]

/-- Settles O30: an entry placed, and the due entry in the lowest slot. -/
theorem entriesArePlaced : Obligations.EntriesArePlaced := by
  refine ⟨fun s v c route left hentry hlead => ?_, fun s hline => ?_⟩
  · have hplace := State.place_eq hentry hlead route left
    rw [SpeCounters.route_eq, confidenceOf_eq] at hplace
    refine ⟨fun hroom => ?_, fun hfull => ?_⟩
    · rw [hplace, if_neg (Nat.not_le_of_lt hroom)]
      unfold itemOf markedAt
      rfl
    · rw [hplace, if_pos hfull]
      simp only [SpeCounters.route_eq]
      cases route <;> rfl
  · have hlive : exec .quietExpiry s = .next (quietExpiryStep s) := live_of_released hline _
    rw [hlive, quietExpiryStep_eq]
    refine ⟨fun before after w hruns htable hbefore hdue => ?_, fun hnot => ?_⟩
    · have hfind : s.spe.table.find? (fun w => decide (w.placement = none ∧ w.lastRead + s.params.quietTime ≤ s.psc.clock)) =
          some w := by
        rw [htable, List.find?_append, List.find?_eq_none.mpr (fun b hb => by
          rw [decide_eq_true_eq]; exact hbefore b hb)]
        rw [Option.none_or, List.find?_cons_of_pos]
        exact decide_eq_true hdue
      rw [if_pos hruns, hfind]
      rfl
    · obtain hstops | hnone := hnot
      · rw [if_neg hstops]
      · have hfind : s.spe.table.find? (fun w => decide (w.placement = none ∧ w.lastRead + s.params.quietTime ≤ s.psc.clock)) =
            none := List.find?_eq_none.mpr (fun w hw => by rw [decide_eq_true_eq]; exact hnone w hw)
        rw [hfind]
        exact congrArg _ (ite_self s)

/-! ### Items for a full list (R94, R113, R118) -/

theorem State.writes_iff (s : State) (k : FindingKind) : s.writes k = true ↔ k ≠ .found ∨ s.psc.verbose = true := by
  rw [State.writes, Bool.or_eq_true, bne_iff_ne]

theorem State.hasRoom_iff (s : State) : s.hasRoom = true ↔ s.ulp.reports.length < 511 := decide_eq_true_iff

theorem State.finishDisposal_eq (hentry : entryAt s.spe.table v.slot = some v) : s.finishDisposal v.slot = { s with
    spe := { s.spe with table := s.spe.table.filter (fun w => w.slot != v.slot) }
    tst :=
      { holdings := markedAt s.tst.holdings v.ref .disposed
        sections := match v.placement with
          | none => s.tst.sections
          | some (y, _) => s.tst.sections.map (fun z =>
              if z.id = y then { z with list := z.list.filter (fun i => i.slot != some v.slot) } else z) } } := by
  unfold State.finishDisposal
  rw [hentry]
  dsimp only
  rw [State.mark_eq]
  cases v.placement with
  | none => rfl
  | some p => rfl

/-- The section, its tallies and SRU's counters at an immediate disposition. -/
def State.overfullTallied (s : State) (x : SectionId) (k : FindingKind) : State := { s with
  tst := { s.tst with sections := s.tst.sections.map (fun y => if y.id = x then { y with overfull := true } else y) }
  sru := { s.sru with
    openList := s.sru.openList.map (fun o => if o.sec = x then { o with tallies := o.tallies.raise k } else o)
    counters := { s.sru.counters with overfullItems := up32 s.sru.counters.overfullItems }.raise k } }

theorem State.disposeFull_eq (s : State) (x : SectionId) (v : Sighting) (k : Confidence) (left : Continuation) :
    s.disposeFull x v k left =
      let f := findingOf s.tst.holdings v.ref x false
      let t := s.overfullTallied x f.1
      if s.writes f.1 = true then
        if s.ulp.reports.length < 511 then
          (t.writeRecord (.finding ⟨f.1, v.tag, some x, f.2, some k⟩)).finishDisposal v.slot
        else { t with spe := { t.spe with work := .waitRoom ⟨x, v.slot, f.1, v.tag, f.2, k, left⟩ } }
      else t.finishDisposal v.slot := by
  unfold State.disposeFull
  dsimp only
  have hstays : ((s.modSection x (fun y => { y with overfull := true })).countSru
      (fun c => { c with overfullItems := sat32 c.overfullItems 1 })).tallyFinding x
      (findingOf s.tst.holdings v.ref x false).1 = s.overfullTallied x (findingOf s.tst.holdings v.ref x false).1 := rfl
  rw [hstays]
  by_cases hwrites : s.writes (findingOf s.tst.holdings v.ref x false).1 = true
  · have hnot : ¬s.writes (findingOf s.tst.holdings v.ref x false).1 = false := fun h => Bool.noConfusion (hwrites.symm.trans h)
    rw [if_pos hwrites, if_neg hnot]
    exact if_congr (State.hasRoom_iff _) rfl rfl
  · rw [if_neg hwrites, if_pos (Bool.eq_false_iff.mpr hwrites)]

theorem State.goOn_eq (t : State) (k : Continuation) : t.goOn k = match k with
    | .done => t
    | .forcePlace x opening => t.forcePlaceRun x opening
    | .settle => t.settleRun
    | .newEntry r ref => t.makeEntry r ref := by
  cases k <;> rfl

/-- Settles O31: the four outcomes of a disposition, and the end of its wait. -/
theorem fullListsDispose : Obligations.FullListsDispose := by
  refine ⟨fun s x v k left hentry => ?_, fun s d hline hwork => ?_⟩
  · have hdispose := s.disposeFull_eq x v k left
    have hwrites := s.writes_iff (findingOf s.tst.holdings v.ref x false).1
    dsimp only at hdispose
    refine ⟨fun hfound hquiet => ?_, fun hwritten hroom => ?_, fun hwritten hfull => ?_, ?_⟩
    · have hnot : ¬s.writes (findingOf s.tst.holdings v.ref x false).1 = true := fun h => by
        obtain hne | hverbose := hwrites.mp h
        · exact hne hfound
        · rw [hquiet] at hverbose
          contradiction
      rw [hdispose, if_neg hnot]
      rfl
    · rw [hdispose, if_pos (hwrites.mpr hwritten), if_pos hroom]
      rfl
    · rw [hdispose, if_pos (hwrites.mpr hwritten), if_neg (Nat.not_lt_of_le hfull)]
      rfl
    · rw [State.finishDisposal_eq hentry]
      rfl
  · have hlive : exec .overfullFindingWrite s = .next (overfullFindingWriteStep s) := live_of_released hline _
    have hstep : overfullFindingWriteStep s = if s.ulp.reports.length < 511 then
        ((((s.setWork .idle).writeRecord (.finding d.finding)).finishDisposal d.slot).goOn d.rest).endWait else s := by
      rw [overfullFindingWriteStep, hwork]
      exact if_congr (State.hasRoom_iff s) rfl rfl
    rw [hlive, hstep]
    refine ⟨fun hfull => ?_, fun hroom => ?_⟩
    · rw [if_neg (Nat.not_lt_of_le hfull)]
    · rw [if_pos hroom, State.endWait_eq, State.goOn_eq]
      rfl

/-! ### Retiring (R92, R98) -/

theorem getElem?_markedAt (holdings : List Holding) (ref : Option Nat) (m : Mark) (i : Nat) :
    (markedAt holdings ref m)[i]? = holdings[i]?.map (fun h => if ref = some i then { h with mark := m } else h) := by
  cases ref with
  | none => simp [markedAt]
  | some r =>
    rw [markedAt, List.getElem?_modify]
    by_cases h : r = i
    · simp [h]
    · simp [h]

theorem foldl_mark (l : List Sighting) (m : Mark) (s : State) : l.foldl (fun t e => t.mark e.ref m) s =
    { s with tst := { s.tst with holdings := l.foldl (fun hs e => markedAt hs e.ref m) s.tst.holdings } } := by
  induction l generalizing s with
  | nil => rfl
  | cons e l ih =>
    rw [List.foldl_cons, List.foldl_cons, ih, State.mark_eq]

theorem getElem?_foldl_markedAt (l : List Sighting) (m : Mark) (holdings : List Holding) (i : Nat) :
    (l.foldl (fun hs e => markedAt hs e.ref m) holdings)[i]? =
      holdings[i]?.map (fun h => if l.any (fun w => w.ref == some i) then { h with mark := m } else h) := by
  induction l generalizing holdings with
  | nil => simp
  | cons e l ih =>
    rw [List.foldl_cons, ih, getElem?_markedAt, Option.map_map]
    congr 1
    funext h
    by_cases he : e.ref = some i
    · simp [he]
    · simp [he]

/-- The records to which some entry of a list refers, marked together. -/
theorem foldl_markedAt_eq (l : List Sighting) (m : Mark) (holdings : List Holding) :
    l.foldl (fun hs e => markedAt hs e.ref m) holdings =
      holdings.zipIdx.map (fun h => if l.any (fun w => w.ref == some h.2) then { h.1 with mark := m } else h.1) := by
  refine List.ext_getElem? (fun i => ?_)
  rw [getElem?_foldl_markedAt, List.getElem?_map, List.getElem?_zipIdx, Option.map_map]
  congr 1
  funext h
  simp

theorem Sighting.placedIn_eq (e : Sighting) (x : SectionId) : e.placedIn x = ((e.placement.map Prod.fst) == some x) := by
  unfold Sighting.placedIn
  cases e.placement with
  | none => rfl
  | some p => exact (Option.some_beq_some ..).symm

theorem State.retireAll_eq (s : State) (x : SectionId) : s.retireAll x = { s with
    tst := { s.tst with holdings := s.tst.holdings.zipIdx.map (fun h =>
      if s.spe.table.any (fun w => (w.placement.map Prod.fst == some x) && w.ref == some h.2)
        then { h.1 with mark := .disposed } else h.1) }
    spe := { s.spe with table := s.spe.table.filter (fun w => !(w.placement.map Prod.fst == some x)) } } := by
  unfold State.retireAll
  dsimp only
  rw [foldl_mark, foldl_markedAt_eq]
  simp only [List.any_filter, Sighting.placedIn_eq]
  rfl

theorem openSlots_lead (table : List Sighting) (x : SectionId) : openSlots table (fun e => e.leadSection == some x) =
    (table.filter (fun w => w.placement = none ∧ w.leadSection = some x)).map Sighting.slot := by
  rw [openSlots]
  congr 2
  funext w
  rw [Bool.decide_and, beq_eq_decide]
  cases w.placement <;> rfl

theorem State.earlyRetire_eq {k : Confidence} (hentry : entryAt s.spe.table v.slot = some v) (hplaced : v.placement = some (x, k)) :
    s.earlyRetire v.slot = { s with
      tst :=
        { holdings := markedAt s.tst.holdings v.ref .disposed
          sections := s.tst.sections.map (fun y => if y.id = x then
            { y with list := y.list.map (fun i => if i.slot = some v.slot then { i with slot := none } else i) } else y) }
      spe := { s.spe with table := s.spe.table.filter (fun w => w.slot != v.slot) } } := by
  unfold State.earlyRetire
  rw [hentry]
  dsimp only
  rw [hplaced]
  dsimp only
  rw [State.mark_eq]
  rfl

/-- Settles O32: the three steps of a request, and an early retire. -/
theorem closesForcePlaceAndRetire : Obligations.ClosesForcePlaceAndRetire := by
  refine ⟨fun s x later hline hwork hrequests => ?_, fun s x opening _ => ?_, fun s v x k hentry hplaced => ?_⟩
  · have hlive : exec .forcePlaceAndRetire s = .next (forcePlaceAndRetireStep s) := live_of_released hline _
    have hstep : forcePlaceAndRetireStep s = (s.setSpe { s.spe with requests := later }).forcePlaceRun x none := by
      rw [forcePlaceAndRetireStep, hwork, hrequests]
    rw [hlive, hstep]
    rfl
  · rw [State.forcePlaceRun, State.placeMany_eq, openSlots_lead]
    dsimp only
    generalize ((s.spe.table.filter (fun w => w.placement = none ∧ w.leadSection = some x)).map Sighting.slot).foldl
      (fun t slot => if t.spe.work = .idle then t.place slot .close (.forcePlace x opening) else t) s = t
    refine ⟨fun hwaits => if_pos ((State.waiting_iff t).mpr hwaits), fun hidle => ?_⟩
    have hgo : ¬t.waiting = true := by rw [(State.waiting_eq_false t).mpr hidle]; exact Bool.false_ne_true
    rw [if_neg hgo, State.retireAll_eq]
    cases opening with
    | none => rw [← hidle]; rfl
    | some r => rfl
  · rw [State.earlyRetire_eq hentry hplaced]
    rfl

/-! ### Scored reads (R86, R90, R95, R96) -/

theorem State.scoreEntry_shed {r : ItemRead} (h : v.scored r = none) :
    s.scoreEntry v r = s.tally (fun c => { c with shed := up32 c.shed }) := by
  unfold State.scoreEntry
  rw [h]
  rfl

/-- An entry after a scored read. -/
def Sighting.scoredAs (v : Sighting) (list : List Candidate) (now : Nat) : Sighting :=
  { v with candidates := list, reads := min 65535 (v.reads + 1), lastRead := now }

theorem State.scoreEntry_open {r : ItemRead} {list : List Candidate} (h : v.scored r = some list) (hopen : v.placement = none) :
    s.scoreEntry v r = (State.confirmTest { s with spe := { s.spe with
      table := s.spe.table.map (fun w => if w.slot = v.slot then v.scoredAs list s.psc.clock else w) } } v.slot).scoreOver := by
  have hpeak (u : State) : u.writePeak (v.scoredAs list s.psc.clock) = u := by
    have hp : (v.scoredAs list s.psc.clock).placement = none := hopen
    rw [State.writePeak, hp]
  have hscore : s.scoreEntry v r = (((s.modEntry v.slot (fun _ => v.scoredAs list s.psc.clock)).writePeak
      (v.scoredAs list s.psc.clock)).confirmTest v.slot).endScored := by
    unfold State.scoreEntry
    rw [h]
    dsimp only
    rw [hopen]
    simp only [← hopen]
    rfl
  rw [hscore, hpeak, State.endScored_eq]
  rfl

theorem State.scoreEntry_placed {r : ItemRead} {list : List Candidate} {k : Confidence} {c : Candidate} (h : v.scored r = some list)
    (hplaced : v.placement = some (x, k)) (hc : (v.scoredAs list s.psc.clock).candidate x = some c) :
    s.scoreEntry v r = (State.moveTest { s with
      spe := { s.spe with
        table := s.spe.table.map (fun w => if w.slot = v.slot then v.scoredAs list s.psc.clock else w) }
      tst := { s.tst with sections := s.tst.sections.map (fun y => if y.id = x then
        { y with list := y.list.map (fun i => if i.slot = some v.slot then { i with peak := c.sweep } else i) } else y) } }
      v.slot).scoreOver := by
  have hpeak (u : State) : u.writePeak (v.scoredAs list s.psc.clock) =
      u.modItem x v.slot (fun i => { i with peak := c.sweep }) := by
    have hp : (v.scoredAs list s.psc.clock).placement = some (x, k) := hplaced
    unfold State.writePeak
    rw [hp]
    dsimp only
    rw [hc]
    rfl
  have hscore : s.scoreEntry v r = (((s.modEntry v.slot (fun _ => v.scoredAs list s.psc.clock)).writePeak
      (v.scoredAs list s.psc.clock)).moveTest v.slot).endScored := by
    unfold State.scoreEntry
    rw [h]
    dsimp only
    rw [hplaced]
    simp only [← hplaced]
    rfl
  rw [hscore, hpeak, State.endScored_eq]
  rfl

theorem State.confirmTest_eq {c : Candidate} (hentry : entryAt s.spe.table v.slot = some v) (hlead : leadOf v.candidates = some c) :
    s.confirmTest v.slot =
      if s.params.minReads ≤ v.reads ∧ s.params.confirmScore ≤ c.score ∧ s.params.margin ≤ marginOf v.candidates
      then s.place v.slot .confirm .done else s := by
  have hiff : confirms s.params v = true ↔
      s.params.minReads ≤ v.reads ∧ s.params.confirmScore ≤ c.score ∧ s.params.margin ≤ marginOf v.candidates := by
    rw [confirms, hlead, Bool.and_eq_true, firm_iff, decide_eq_true_eq, and_assoc]
    exact and_congr_right fun _ => and_comm
  unfold State.confirmTest
  rw [hentry]
  exact if_congr hiff rfl rfl

theorem State.moveTest_frozen {k : Confidence} (hentry : entryAt s.spe.table v.slot = some v) (hplaced : v.placement = some (x, k))
    (hfrozen : v.frozen = true) : s.moveTest v.slot = s := by
  unfold State.moveTest
  rw [hentry]
  dsimp only
  rw [hplaced]
  exact if_pos hfrozen

/-- The move test of an entry that is not frozen. -/
theorem State.moveTest_eq {k : Confidence} {held : Candidate} (hentry : entryAt s.spe.table v.slot = some v)
    (hplaced : v.placement = some (x, k)) (hheld : v.candidate x = some held) (hfrozen : v.frozen = false) :
    (s.moveTarget v x = none → s.moveTest v.slot = s) ∧
    ∀ c, s.moveTarget v x = some c → s.moveTest v.slot =
      if held.score + s.params.margin ≤ c.score then if v.moves < 2 then s.moveEntry v x c else s.freeze v x else s := by
  have hgo : ¬v.frozen = true := Bool.eq_false_iff.mp hfrozen
  unfold State.moveTest
  rw [hentry]
  dsimp only
  rw [hplaced]
  dsimp only
  rw [if_neg hgo, hheld]
  refine ⟨fun h => ?_, fun c h => ?_⟩
  · rw [h]
  · rw [h]

/-- A move: the item leaves one list and stands at the end of the other. -/
theorem State.moveEntry_eq {c : Candidate} (hne : c.sec ≠ x) : s.moveEntry v x c =
    if 96 ≤ (s.listOf c.sec).length then
      (s.tally (fun n => { n with moves := up32 n.moves })).disposeFull c.sec v (confidenceOf s.params v) .done
    else { s with
      tst := { s.tst with sections := s.tst.sections.map (fun y =>
        if y.id = c.sec then { y with list := y.list ++ [itemOf s.tst.holdings v c.sweep (confidenceOf s.params v)] }
        else if y.id = x then { y with list := y.list.filter (fun i => i.slot != some v.slot) } else y) }
      spe := { s.spe with
        table := s.spe.table.map (fun w => if w.slot = v.slot then
          { w with placement := some (c.sec, confidenceOf s.params v), moves := w.moves + 1 } else w)
        counters := { s.spe.counters with moves := up32 s.spe.counters.moves } } } := by
  have hsections : (s.tst.sections.map (fun y =>
        if y.id = x then { y with list := y.list.filter (fun i => i.slot != some v.slot) } else y)).map (fun y =>
        if y.id = c.sec then { y with list := y.list ++ [itemOf s.tst.holdings v c.sweep (confidenceOf s.params v)] } else y) =
      s.tst.sections.map (fun y =>
        if y.id = c.sec then { y with list := y.list ++ [itemOf s.tst.holdings v c.sweep (confidenceOf s.params v)] }
        else if y.id = x then { y with list := y.list.filter (fun i => i.slot != some v.slot) } else y) := by
    rw [List.map_map]
    refine List.map_congr_left (fun y _ => ?_)
    rw [Function.comp_apply]
    by_cases hx : y.id = x
    · have hxc : ¬y.id = c.sec := fun h => hne (h.symm.trans hx)
      rw [if_pos hx, if_neg hxc, if_neg hxc]
    · rw [if_neg hx]
  unfold State.moveEntry
  dsimp only
  rw [if_congr (State.listFull_iff s c.sec) rfl rfl, ← hsections]
  rfl

theorem State.freeze_eq (s : State) (v : Sighting) (x : SectionId) : s.freeze v x = { s with
    tst := { s.tst with sections := s.tst.sections.map (fun y => if y.id = x then
      { y with list := y.list.map (fun i =>
        if i.slot = some v.slot then { i with confidence := .ambiguous } else i) } else y) }
    spe := { s.spe with
      table := s.spe.table.map (fun w => if w.slot = v.slot then
        { w with frozen := true, placement := some (x, .ambiguous) } else w)
      counters := { s.spe.counters with freezes := up32 s.spe.counters.freezes } } } := rfl

/-- Settles O29: the entry rewritten, then the test of its placement. -/
theorem scoredReads : Obligations.ScoredReads := by
  refine ⟨fun s e rest x v h hweighs hfree hv htag htags hslots => ?_, fun s v hentry => ⟨fun c hlead =>
    State.confirmTest_eq hentry hlead, fun x k held hplaced hheld => ?_⟩⟩
  · have hfound : entryOf (s.afterTake e rest).spe.table (s.evidence e x).tag = some v := entryOf_of_mem htags hv htag
    have hsight := (State.sight_of_free (s := s.afterTake e rest) (r := s.evidence e x) hfree).2 v hfound
    have hread := (exec_readTake_of_weighs h hweighs).trans (congrArg _ hsight)
    refine ⟨fun hshed => hread.trans (congrArg _ (State.scoreEntry_shed hshed)), fun list hlist =>
      ⟨fun hopen => hread.trans (congrArg _ (State.scoreEntry_open hlist hopen)), fun l k c hplaced hc =>
        hread.trans (congrArg _ (State.scoreEntry_placed (s := s.afterTake e rest) hlist hplaced hc))⟩⟩
  · refine ⟨State.moveTest_frozen hentry hplaced, fun hfrozen hbelow => ?_, fun c hfrozen hlead hover => ?_⟩
    · obtain ⟨hnone, hsome⟩ := State.moveTest_eq hentry hplaced hheld hfrozen
      cases htarget : s.moveTarget v x with
      | none => exact hnone htarget
      | some c =>
        rw [hsome c htarget]
        exact if_neg (Nat.not_le_of_lt (hbelow c (leadOf_mem htarget)))
    · have htarget : s.moveTarget v x = some c := hlead
      have hne : c.sec ≠ x := by
        have hmem := (List.mem_filter.mp (leadOf_mem hlead)).2
        rw [Bool.and_eq_true, bne_iff_ne] at hmem
        exact hmem.1
      have hmove := (State.moveTest_eq hentry hplaced hheld hfrozen).2 c htarget
      rw [if_pos hover] at hmove
      dsimp only
      rw [← confidenceOf_eq]
      refine ⟨fun hmoves hroom => ?_, fun hmoves hfull => ?_, fun hmoves => ?_⟩
      · rw [hmove, if_pos hmoves, State.moveEntry_eq hne, if_neg (Nat.not_le_of_lt hroom)]
        rfl
      · rw [hmove, if_pos hmoves, State.moveEntry_eq hne, if_pos hfull]
      · rw [hmove, if_neg (Nat.not_lt_of_le hmoves), State.freeze_eq]

end Sys2Proof.Machine
end

section
/-! SUPPORT. The order check (section 6.5); settles O35. -/

namespace Sys2Proof.Machine

/-! ### Entrants and inversions (R114) -/

theorem mem_entrants {list : List Item} {a : Entrant} : a ∈ entrants list ↔
    ∃ n i, list[n]? = some i ∧ i.key = some a.key ∧ a.position = n + 1 ∧ a.peak = i.peak := by
  simp only [entrants, List.mem_filterMap, Option.map_eq_some_iff]
  constructor
  · rintro ⟨⟨i, n⟩, hmem, k, hkey, rfl⟩
    exact ⟨n, i, List.mem_zipIdx_iff_getElem?.mp hmem, hkey, rfl, rfl⟩
  · rintro ⟨n, i, hat, hkey, hposition, hpeak⟩
    refine ⟨(i, n), List.mem_zipIdx_iff_getElem?.mpr hat, a.key, hkey, ?_⟩
    rw [← hposition, ← hpeak]

/-- The entrants stand in list order. -/
theorem entrants_pairwise (list : List Item) : (entrants list).Pairwise (fun a b => a.position < b.position) := by
  have hzip : list.zipIdx.Pairwise (fun a b => a.2 < b.2) := by
    rw [← List.pairwise_map (f := Prod.snd) (R := fun a b => a < b), List.zipIdx_map_snd]
    exact List.pairwise_lt_range'
  refine List.Pairwise.filterMap _ (fun i j hij a ha b hb => ?_) hzip
  obtain ⟨k, _, rfl⟩ := Option.map_eq_some_iff.mp ha
  obtain ⟨l, _, rfl⟩ := Option.map_eq_some_iff.mp hb
  exact Nat.succ_lt_succ hij

theorem nodup_entrants (list : List Item) : (entrants list).Nodup := by
  refine (entrants_pairwise list).imp (fun {a b} hab he => ?_)
  rw [he] at hab
  exact Nat.lt_irrefl _ hab

theorem length_entrants_le (list : List Item) : (entrants list).length ≤ list.length :=
  (List.length_filterMap_le _ _).trans (Nat.le_of_eq List.length_zipIdx)

variable {d : Direction} {tolerance : Nat}

theorem invertedAt_iff (i j : Entrant) : invertedAt d tolerance i j = true ↔
    i.peak + tolerance < j.peak ∧ (d = .forward ∧ j.key < i.key ∨ d = .reverse ∧ i.key < j.key) := by
  unfold invertedAt
  rw [Bool.and_eq_true, decide_eq_true_eq]
  refine and_congr_right fun _ => ?_
  cases d with
  | unknown => simp
  | forward => simp
  | reverse => simp

theorem inverted_iff (i j : Entrant) : inverted d tolerance i j = true ↔
    (i.peak + tolerance < j.peak ∧ (d = .forward ∧ j.key < i.key ∨ d = .reverse ∧ i.key < j.key)) ∨
    (j.peak + tolerance < i.peak ∧ (d = .forward ∧ i.key < j.key ∨ d = .reverse ∧ j.key < i.key)) := by
  rw [inverted, Bool.or_eq_true, invertedAt_iff, invertedAt_iff]

theorem inverted_self (i : Entrant) : inverted d tolerance i i = false := by
  refine Bool.eq_false_iff.mpr (fun h => ?_)
  have := (inverted_iff i i).mp h
  omega

theorem inversions_eq (under : List Entrant) (i : Entrant) :
    inversions d tolerance under i = (under.filter (fun x => inverted d tolerance i x)).length := List.countP_eq_length_filter

/-! ### The order of flagging (R115) -/

/-- `a` is flagged before `b`: the larger count, the later peak sweep, the greater key, the later place. -/
def Entrant.Worse (count : Entrant → Nat) (a b : Entrant) : Prop :=
  count b < count a ∨ count b = count a ∧
    (b.peak < a.peak ∨ b.peak = a.peak ∧ (b.key < a.key ∨ b.key = a.key ∧ b.position < a.position))

variable {count : Entrant → Nat} {a b c : Entrant}

theorem flaggedBefore_iff : flaggedBefore count a b = true ↔ a.Worse count b := by
  unfold flaggedBefore Entrant.Worse
  split
  · rw [decide_eq_true_eq]; omega
  · split
    · rw [decide_eq_true_eq]; omega
    · split
      · rw [decide_eq_true_eq]; omega
      · rw [decide_eq_true_eq]; omega

theorem Entrant.Worse.trans (hab : a.Worse count b) (hbc : b.Worse count c) : a.Worse count c := by
  unfold Entrant.Worse at *
  omega

theorem Entrant.worse_total (hne : a ≠ b) : a.Worse count b ∨ b.Worse count a := by
  by_contra hnot
  obtain ⟨hab, hba⟩ := not_or.mp hnot
  unfold Entrant.Worse at hab hba
  refine hne ?_
  have hposition : a.position = b.position := by omega
  have hpeak : a.peak = b.peak := by omega
  have hkey : a.key = b.key := by omega
  cases a
  cases b
  simp_all

theorem worst_eq_none {l : List Entrant} (h : worst count l = none) : l = [] := by
  cases l with
  | nil => rfl
  | cons a l =>
    rw [worst] at h
    split at h
    · contradiction
    · split at h
      · contradiction
      · contradiction

theorem worst_spec {l : List Entrant} (h : worst count l = some a) : a ∈ l ∧ ∀ b ∈ l, b ≠ a → a.Worse count b := by
  induction l generalizing a with
  | nil => contradiction
  | cons x l ih =>
    rw [worst] at h
    split at h
    next hnone =>
      obtain rfl := Option.some.inj h
      obtain rfl := worst_eq_none hnone
      exact ⟨List.mem_cons_self, fun b hb hne => absurd (List.mem_singleton.mp hb) hne⟩
    next y hy =>
      obtain ⟨hmem, hworst⟩ := ih hy
      split at h
      next hbefore =>
        obtain rfl := Option.some.inj h
        have hxy := flaggedBefore_iff.mp hbefore
        refine ⟨List.mem_cons_self, fun b hb hne => ?_⟩
        obtain rfl | hb := List.mem_cons.mp hb
        · exact absurd rfl hne
        · by_cases hby : b = y
          · exact hby ▸ hxy
          · exact hxy.trans (hworst b hb hby)
      next hafter =>
        obtain rfl := Option.some.inj h
        refine ⟨List.mem_cons_of_mem _ hmem, fun b hb hne => ?_⟩
        obtain rfl | hb := List.mem_cons.mp hb
        · exact (Entrant.worse_total hne).resolve_left (fun hw => hafter (flaggedBefore_iff.mpr hw))
        · exact hworst b hb hne

/-! ### Flagging (R115) -/

/-- One step of flagging: it ends with no inverted pair, or flags the worst entrant, which some other is inverted with. -/
theorem flagging_succ (fuel : Nat) (under : List Entrant) :
    flagging d tolerance (fuel + 1) under = [] ∧ (∀ a ∈ under, inversions d tolerance under a = 0) ∨
    ∃ a, flagging d tolerance (fuel + 1) under = a :: flagging d tolerance fuel (under.erase a) ∧ a ∈ under ∧
      0 < inversions d tolerance under a ∧ ∀ b ∈ under, b ≠ a → a.Worse (inversions d tolerance under) b := by
  rw [flagging]
  split
  next hnone =>
    obtain rfl := worst_eq_none hnone
    exact .inl ⟨rfl, fun _ h => nomatch h⟩
  next a ha =>
    obtain ⟨hmem, hworst⟩ := worst_spec ha
    split
    next hzero =>
      refine .inl ⟨rfl, fun b hb => ?_⟩
      by_cases hba : b = a
      · exact hba ▸ hzero
      · have := hworst b hb hba
        unfold Entrant.Worse at this
        omega
    next hpos => exact .inr ⟨a, rfl, hmem, Nat.pos_of_ne_zero hpos, hworst⟩

theorem flagging_subset (fuel : Nat) (under : List Entrant) : ∀ a ∈ flagging d tolerance fuel under, a ∈ under := by
  induction fuel generalizing under with
  | zero => exact fun _ h => nomatch h
  | succ fuel ih =>
    obtain ⟨hnil, _⟩ | ⟨a, hcons, hmem, _⟩ := flagging_succ (d := d) (tolerance := tolerance) fuel under
    · rw [hnil]
      exact fun _ h => nomatch h
    · rw [hcons]
      intro b hb
      obtain rfl | hb := List.mem_cons.mp hb
      · exact hmem
      · exact List.mem_of_mem_erase (ih _ b hb)

theorem nodup_flagging (fuel : Nat) {under : List Entrant} (hunder : under.Nodup) : (flagging d tolerance fuel under).Nodup := by
  induction fuel generalizing under with
  | zero => exact List.nodup_nil
  | succ fuel ih =>
    obtain ⟨hnil, _⟩ | ⟨a, hcons, _⟩ := flagging_succ (d := d) (tolerance := tolerance) fuel under
    · rw [hnil]
      exact List.nodup_nil
    · rw [hcons]
      refine List.nodup_cons.mpr ⟨fun ha => ?_, ih (hunder.erase a)⟩
      exact (hunder.mem_erase_iff.mp (flagging_subset _ _ a ha)).1 rfl

/-- An entrant that is flagged leaves another behind, the one it is inverted with. -/
theorem length_flagging_lt (fuel : Nat) {under : List Entrant} (hne : under ≠ []) :
    (flagging d tolerance fuel under).length < under.length := by
  induction fuel generalizing under with
  | zero => exact List.length_pos_iff.mpr hne
  | succ fuel ih =>
    obtain ⟨hnil, _⟩ | ⟨a, hcons, hmem, hpos, _⟩ := flagging_succ (d := d) (tolerance := tolerance) fuel under
    · rw [hnil]
      exact List.length_pos_iff.mpr hne
    · obtain ⟨b, hb, hab⟩ := List.countP_pos_iff.mp hpos
      have hba : b ≠ a := by
        rintro rfl
        rw [inverted_self] at hab
        contradiction
      have hrest := ih (List.ne_nil_of_mem ((List.mem_erase_of_ne hba).mpr hb))
      rw [List.length_erase_of_mem hmem] at hrest
      rw [hcons, List.length_cons]
      omega

/-- With fuel for every entrant, no inverted pair is left. -/
theorem flagging_ends {fuel : Nat} {under : List Entrant} (hfuel : under.length ≤ fuel) : ∀ a ∈ under, ∀ b ∈ under,
    a ∉ flagging d tolerance fuel under → b ∉ flagging d tolerance fuel under → inverted d tolerance a b = false := by
  induction fuel generalizing under with
  | zero =>
    obtain rfl := List.eq_nil_of_length_eq_zero (Nat.le_zero.mp hfuel)
    exact fun _ h => nomatch h
  | succ fuel ih =>
    obtain ⟨_, hzero⟩ | ⟨x, hcons, hmem, _⟩ := flagging_succ (d := d) (tolerance := tolerance) fuel under
    · intro a ha b hb _ _
      have hnone := List.countP_eq_zero.mp (hzero a ha) b hb
      exact Bool.eq_false_iff.mpr hnone
    · rw [hcons]
      intro a ha b hb hna hnb
      have hlen : (under.erase x).length ≤ fuel := by
        rw [List.length_erase_of_mem hmem]
        omega
      obtain ⟨hax, hna⟩ := not_or.mp (fun h => hna (List.mem_cons.mpr h))
      obtain ⟨hbx, hnb⟩ := not_or.mp (fun h => hnb (List.mem_cons.mpr h))
      exact ih hlen a ((List.mem_erase_of_ne hax).mpr ha) b ((List.mem_erase_of_ne hbx).mpr hb) hna hnb

/-- Each flagged entrant is the worst of those not flagged before it. -/
theorem flagging_worst {fuel : Nat} {under before after : List Entrant} {a : Entrant} (hunder : under.Nodup)
    (h : flagging d tolerance fuel under = before ++ a :: after) :
    0 < inversions d tolerance (under.filter (fun b => b ∉ before)) a ∧
    ∀ b ∈ under.filter (fun b => b ∉ before), b ≠ a →
      a.Worse (inversions d tolerance (under.filter (fun b => b ∉ before))) b := by
  induction fuel generalizing under before with
  | zero => simp [flagging] at h
  | succ fuel ih =>
    obtain ⟨hnil, _⟩ | ⟨x, hcons, hmem, hpos, hworst⟩ := flagging_succ (d := d) (tolerance := tolerance) fuel under
    · rw [hnil] at h
      simp at h
    · rw [hcons] at h
      cases before with
      | nil =>
        obtain ⟨rfl, _⟩ := List.cons.inj h
        have hall : under.filter (fun b => b ∉ ([] : List Entrant)) = under := List.filter_eq_self.mpr (by simp)
        rw [hall]
        exact ⟨hpos, hworst⟩
      | cons y before =>
        obtain ⟨rfl, hrest⟩ := List.cons.inj h
        have hfilter : under.filter (fun b => b ∉ x :: before) = (under.erase x).filter (fun b => b ∉ before) := by
          rw [hunder.erase_eq_filter, List.filter_filter]
          refine List.filter_congr (fun b _ => ?_)
          by_cases hb : b = x
          · simp [hb]
          · simp [hb]
        rw [hfilter]
        exact ih (hunder.erase x) hrest

/-- Settles O35: the flags one by one, each the worst of what is left, until no inverted pair is. -/
theorem orderCheckFlagsTheWorstFirst : Obligations.OrderCheckFlagsTheWorstFirst := by
  refine ⟨fun _ _ => mem_entrants, fun d t => ⟨inverted_iff, fun list => ⟨rfl, nodup_flagging _ (nodup_entrants list),
    flagging_subset _ _, length_flagging_lt _, flagging_ends (length_entrants_le list), fun before after a h => ?_⟩⟩⟩
  obtain ⟨hpos, hworst⟩ := flagging_worst (nodup_entrants list) h
  have hcount : inversions d t ((entrants list).filter (fun b => b ∉ before)) =
      fun b => (((entrants list).filter (fun b => b ∉ before)).filter (fun x => inverted d t b x)).length :=
    funext (inversions_eq _)
  rw [hcount] at hpos hworst
  exact ⟨hpos, hworst⟩

end Sys2Proof.Machine
end

section
/-! SUPPORT. The reporter, the section summary and the tally walk (sections 6.5, 6.6 and 7.5); settles O36, O37 and O38. -/

namespace Sys2Proof.Machine

variable {s t : State}

/-! ### Findings (R117, R118) -/

theorem ItemStatus.isExpected_iff (k : ItemStatus) : k.isExpected = true ↔ k = .shelved ∨ k = .reference := by
  cases k <;> decide

theorem findingOf_of_held {holdings : List Holding} {r : Nat} {h : Holding} (hat : holdings[r]? = some h) (x : SectionId)
    (flagged : Bool) : findingOf holdings (some r) x flagged =
      if h.status = .shelved ∨ h.status = .reference then
        if h.home ≠ x then (.misshelved, some h.home) else (if flagged then .outOfOrder else .found, some x)
      else (.statusConflict, some h.home) := by
  have hiff : h.status.isExpected = false ↔ ¬(h.status = .shelved ∨ h.status = .reference) := by
    rw [← ItemStatus.isExpected_iff, Bool.not_eq_true]
  rw [findingOf, Option.bind_some, hat]
  dsimp only
  rw [if_congr hiff rfl rfl, ite_not]
  cases flagged
  · rfl
  · rfl

/-! ### The reporter takes a section (R111, R114, R116) -/

/-- The reporter at the beginning of a section. -/
def State.reportBegun (s : State) (x : SectionId) (flagged : List Nat) (later : List SectionId) : State := { s with
  sru := { s.sru with
    reporter := some ⟨x, flagged, false⟩, closing := later
    openList := s.sru.openList.map (fun o => if o.sec = x then { o with reportPosition := some 1 } else o) } }

theorem State.beginReport_eq {x : SectionId} {later : List SectionId} (h : s.sru.closing = x :: later) (flagged : List Nat) :
    s.beginReport x flagged = s.reportBegun x flagged later := by
  have htail : s.sru.closing.tail = later := by rw [h]; rfl
  unfold State.beginReport
  rw [htail]
  rfl

theorem reporterTakeSectionStep_of_idle {x : SectionId} {later : List SectionId} {y : Section} (hidle : s.sru.reporter = none)
    (hclosing : s.sru.closing = x :: later) (hy : findSection s.tst.sections x = some y) :
    reporterTakeSectionStep s = s.takeSection x y.direction y.list := by
  rw [reporterTakeSectionStep, hidle, hclosing]
  dsimp only
  rw [hy]

theorem reporterTakeSectionStep_of_busy (h : s.sru.reporter ≠ none ∨ s.sru.closing = []) : reporterTakeSectionStep s = s := by
  unfold reporterTakeSectionStep
  split
  next x later hidle hclosing =>
    obtain hbusy | hnil := h
    · exact absurd hidle hbusy
    · rw [hnil] at hclosing
      contradiction
  · rfl

/-! ### The item at the report position (R118) -/

/-- The reporter moved on to the next item. -/
def State.reportMoved (s : State) (r : Reporter) : State := { s with
  sru := { s.sru with
    reporter := some ⟨r.sec, r.flagged, false⟩
    openList := s.sru.openList.map (fun b =>
      if b.sec = r.sec then { b with reportPosition := b.reportPosition.map (· + 1) } else b) } }

theorem State.reportNext_eq {r : Reporter} (h : s.sru.reporter = some r) : s.reportNext r.sec = s.reportMoved r := by
  unfold State.reportNext State.reportMoved
  dsimp only [State.modOpen, State.setSru]
  rw [h]
  rfl

theorem State.reportWait_eq {r : Reporter} (h : s.sru.reporter = some r) :
    s.reportWait = { s with sru := { s.sru with reporter := some ⟨r.sec, r.flagged, true⟩ } } := by
  unfold State.reportWait State.setSru
  rw [h]
  rfl

theorem State.reportItem_eq {r : Reporter} (h : s.sru.reporter = some r) (i : Item) (position : Nat) :
    s.reportItem r i position =
      let f := findingOf s.tst.holdings i.ref r.sec (r.flagged.contains position)
      let t := if r.waiting then s else s.tallyFinding r.sec f.1
      if f.1 ≠ .found ∨ s.psc.verbose = true then
        if s.ulp.reports.length < 511 then
          (t.writeRecord (.finding ⟨f.1, i.tag, some r.sec, f.2, some i.confidence⟩)).reportMoved r
        else { t with sru := { t.sru with reporter := some ⟨r.sec, r.flagged, true⟩ } }
      else t.reportMoved r := by
  unfold State.reportItem
  dsimp only
  generalize findingOf s.tst.holdings i.ref r.sec (r.flagged.contains position) = f
  have htally : ∃ t : State, t = (if r.waiting = true then s else s.tallyFinding r.sec f.1) ∧ t.sru.reporter = some r ∧
      t.psc = s.psc ∧ t.ulp = s.ulp := by
    refine ⟨_, rfl, ?_⟩
    split
    · exact ⟨h, rfl, rfl⟩
    · exact ⟨h, rfl, rfl⟩
  obtain ⟨t, ht, hreporter, hpsc, hulp⟩ := htally
  rw [← ht]
  have hwrites : t.writes f.1 = false ↔ ¬(f.1 ≠ .found ∨ s.psc.verbose = true) := by
    rw [← Bool.not_eq_true, State.writes_iff, hpsc]
  have hroom : t.hasRoom = true ↔ s.ulp.reports.length < 511 := by rw [State.hasRoom_iff, hulp]
  have hwritten : (t.writeRecord (itemFinding r.sec i f)).sru.reporter = some r := by
    rw [(t.writeRecord_frame _).2.2.2.2.2.2.2.1]
    exact hreporter
  rw [if_congr hwrites rfl rfl, ite_not, if_congr hroom rfl rfl, State.reportNext_eq hreporter, State.reportNext_eq hwritten,
    State.reportWait_eq hreporter]
  rfl

theorem findingWriteStep_eq {r : Reporter} {y : Section} {o : OpenSection} {p : Nat} (hreporter : s.sru.reporter = some r)
    (hy : findSection s.tst.sections r.sec = some y) (ho : findOpen s.sru.openList r.sec = some o)
    (hp : o.reportPosition = some (p + 1)) :
    (y.list[p]? = none → findingWriteStep s = s) ∧
    ∀ i, y.list[p]? = some i → findingWriteStep s = s.reportItem r i (p + 1) := by
  have hlist : s.listOf r.sec = y.list := by rw [State.listOf, hy]
  have hposition : s.reportPosition r.sec = p + 1 := by
    rw [State.reportPosition, ho, Option.bind_some, hp]
    rfl
  unfold findingWriteStep
  rw [hreporter]
  dsimp only
  rw [hlist, hposition, Nat.add_sub_cancel]
  refine ⟨fun h => ?_, fun i h => ?_⟩
  · rw [h]
  · rw [h]

/-- Settles O36: the finding of an item, the section taken, and the item written, counted or held back. -/
theorem reporterWritesFindings : Obligations.ReporterWritesFindings := by
  refine ⟨fun holdings x flagged => ⟨rfl, fun r h hat => ?_⟩, fun a b c d e n => ?_, fun s hline => ?_,
    fun s r y o p hline hreporter hy ho hp => ?_⟩
  · have hfinding := findingOf_of_held hat x flagged
    refine ⟨fun hnot => ?_, fun hexpected haway => ?_, fun hexpected hhome => ?_⟩
    · rw [hfinding, if_neg hnot]
    · rw [hfinding, if_pos hexpected, if_pos haway]
    · rw [hfinding, if_pos hexpected, if_neg (fun hne => hne hhome)]
  · refine ⟨⟨rfl, rfl⟩, ⟨rfl, rfl⟩, ⟨rfl, rfl⟩, ⟨rfl, rfl⟩, ⟨rfl, rfl⟩, fun k hk => ?_⟩
    obtain rfl | rfl := hk
    · exact ⟨rfl, rfl⟩
    · exact ⟨rfl, rfl⟩
  · have hlive : exec .reporterTakeSection s = .next (reporterTakeSectionStep s) := live_of_released hline _
    rw [hlive]
    refine ⟨fun hbusy => congrArg _ (reporterTakeSectionStep_of_busy hbusy), fun x later y hidle hclosing hy => ?_⟩
    rw [reporterTakeSectionStep_of_idle hidle hclosing hy, State.takeSection]
    refine ⟨fun hknown => ?_, fun hunknown => ?_⟩
    · rw [if_neg hknown, State.beginReport_eq hclosing]
      rfl
    · rw [if_pos hunknown]
      exact congrArg _ (State.beginReport_eq (s := (s.modSection x (fun y => { y with orderUnchecked := true })).countSru
        (fun c => { c with uncheckedSections := sat32 c.uncheckedSections 1 })) hclosing [])
  · have hlive : exec .findingWrite s = .next (findingWriteStep s) := live_of_released hline _
    obtain ⟨hnone, hsome⟩ := findingWriteStep_eq hreporter hy ho hp
    rw [hlive]
    refine ⟨fun h => congrArg _ (hnone h), fun i h => ?_⟩
    rw [hsome i h, State.reportItem_eq hreporter]
    refine ⟨fun hfound hquiet => ?_, fun hwritten hroom => ?_, fun hwritten hfull => ?_⟩
    · have hnot : ¬((findingOf s.tst.holdings i.ref r.sec (r.flagged.contains (p + 1))).1 ≠ .found ∨ s.psc.verbose = true) :=
        not_or.mpr ⟨fun hne => hne hfound, by rw [hquiet]; exact Bool.false_ne_true⟩
      exact congrArg _ (if_neg hnot)
    · exact congrArg _ ((if_pos hwritten).trans (if_pos hroom))
    · exact congrArg _ ((if_pos hwritten).trans (if_neg (Nat.not_lt_of_le hfull)))

/-! ### The summary (R119) -/

theorem State.awaitsPlace_iff (s : State) : s.awaitsPlace = true ↔ ∃ q, s.spe.work = .waitPlace q := by
  unfold State.awaitsPlace
  cases s.spe.work with
  | idle => simp
  | waitRoom d => simp
  | waitPlace q => simp

/-- A section closed by the reporter, before the signal to PSC. -/
def State.sectionClosed (s : State) (x : SectionId) : State := { s with
  tst := { s.tst with
    sections := s.tst.sections.map (fun z => if z.id = x then { z with state := .closed, list := [] } else z) }
  sru := { s.sru with
    openList := s.sru.openList.filter (fun b => b.sec != x), reporter := none
    counters := { s.sru.counters with sectionsClosed := up32 s.sru.counters.sectionsClosed } } }

theorem State.closeSection_eq (s : State) (x : SectionId) : s.closeSection x = (s.sectionClosed x).signalIfClosed := rfl

theorem sectionSummaryWriteStep_eq {r : Reporter} {y : Section} {o : OpenSection} {p : Nat} (hreporter : s.sru.reporter = some r)
    (hy : findSection s.tst.sections r.sec = some y) (ho : findOpen s.sru.openList r.sec = some o) (hp : o.reportPosition = some p) :
    sectionSummaryWriteStep s = if y.list.length < p ∧ s.ulp.reports.length < 511 then
      (s.writeRecord (.summary (summaryOf y o.tallies))).closeSection r.sec else s := by
  have hiff : y.list.length < o.reportPosition.getD 0 ∧ s.hasRoom = true ↔ y.list.length < p ∧ s.ulp.reports.length < 511 := by
    rw [hp, Option.getD_some, State.hasRoom_iff]
  unfold sectionSummaryWriteStep
  rw [hreporter]
  dsimp only
  rw [hy, ho]
  exact if_congr hiff rfl rfl

/-- Settles O37: the summary, the section closed, and the signal that it may give. -/
theorem sectionSummaryClosesTheSection : Obligations.SectionSummaryClosesTheSection := by
  intro s r y o p hline hreporter hy ho hp
  have hlive : exec .sectionSummaryWrite s = .next (sectionSummaryWriteStep s) := live_of_released hline _
  rw [hlive, sectionSummaryWriteStep_eq hreporter hy ho hp, State.closeSection_eq]
  obtain ⟨_, _, _, _, _, htst, hspe, hsru, hpsc, _⟩ := s.writeRecord_frame (.summary (summaryOf y o.tallies))
  have hclosed : (s.writeRecord (.summary (summaryOf y o.tallies))).sectionClosed r.sec =
      { s.writeRecord (.summary (summaryOf y o.tallies)) with
        tst := { s.tst with
          sections := s.tst.sections.map (fun z => if z.id = r.sec then { z with state := .closed, list := [] } else z) }
        sru := { s.sru with
          openList := s.sru.openList.filter (fun b => b.sec != r.sec), reporter := none
          counters := { s.sru.counters with sectionsClosed := up32 s.sru.counters.sectionsClosed } } } := by
    rw [State.sectionClosed, htst, hsru]
  rw [hclosed]
  refine ⟨fun hdone hroom => ⟨fun hstate hall hleft hplace => ?_, fun hnot => ?_⟩, fun hnot => ?_⟩
  · rw [if_pos ⟨hdone, hroom⟩]
    have hwork : State.awaitsPlace (s.writeRecord (.summary (summaryOf y o.tallies))) = false := by
      rw [← Bool.not_eq_true, State.awaitsPlace_iff, hspe]
      exact fun ⟨q, hq⟩ => hplace q hq
    refine congrArg _ (if_pos ⟨?_, hall, hleft, hwork⟩)
    rw [← hpsc] at hstate
    exact hstate
  · rw [if_pos ⟨hdone, hroom⟩]
    refine congrArg _ (if_neg ?_)
    rintro ⟨hstate, hall, hleft, hwork⟩
    obtain hne | hfalse | hne | hq := hnot
    · refine hne ?_
      rw [← hpsc]
      exact hstate
    · exact Bool.noConfusion (hfalse.symm.trans hall)
    · exact hne hleft
    · rw [← hspe, ← State.awaitsPlace_iff] at hq
      exact Bool.noConfusion (hq.symm.trans hwork)
  · have hstays : ¬(y.list.length < p ∧ s.ulp.reports.length < 511) := by omega
    rw [if_neg hstays]

/-! ### The tally walk (R137, R138) -/

theorem Holding.passedOver_iff (h : Holding) :
    h.passedOver = true ↔ ¬((h.status = .shelved ∨ h.status = .reference) ∧ h.mark ≠ .disposed) := by
  rw [← ItemStatus.isExpected_iff, Holding.passedOver, Bool.or_eq_true, Bool.not_eq_true', beq_iff_eq, not_and_or, not_not,
    Bool.not_eq_true]

/-- The record at the tally position judged, with PSC's counters `c`. -/
def State.judged (s : State) (c : PscCounters) : State := { s with
  tst := { s.tst with holdings := s.tst.holdings.modify s.psc.tallyPosition (fun g => { g with mark := .disposed }) }
  psc := { s.psc with counters := c } }

/-- The walk after a finding of kind `k`: written where there is room, else waiting at its record. -/
def State.tallyFound (s : State) (k : FindingKind) (h : Holding) : State :=
  if s.ulp.reports.length < 511 then (s.writeRecord (.finding ⟨k, h.tag, none, some h.home, none⟩)).tallyNext
  else { s with psc := { s.psc with tallyWait := some ⟨k, h.tag, h.home⟩ } }

theorem State.tallyOne_over {h : Holding} (hat : s.tst.holdings[s.psc.tallyPosition]? = some h) (hover : h.passedOver = true) :
    s.tallyOne = s.tallyNext := by
  unfold State.tallyOne
  rw [hat]
  exact if_pos hover

theorem State.tallyOne_judged {h : Holding} (hat : s.tst.holdings[s.psc.tallyPosition]? = some h) (hwalked : h.passedOver = false) :
    (tallyOutcome s.tst.sections h.home = .notCovered → s.tallyOne =
      (s.judged { s.psc.counters with notCovered := up32 s.psc.counters.notCovered }).tallyNext) ∧
    (tallyOutcome s.tst.sections h.home = .uncertain → s.tallyOne =
      (s.judged { s.psc.counters with uncertain := up32 s.psc.counters.uncertain }).tallyFound .uncertain h) ∧
    (tallyOutcome s.tst.sections h.home = .missing → s.tallyOne =
      (s.judged { s.psc.counters with missing := up32 s.psc.counters.missing }).tallyFound .missing h) := by
  have hgo : ¬h.passedOver = true := by rw [hwalked]; exact Bool.false_ne_true
  unfold State.tallyOne
  rw [hat]
  dsimp only
  rw [if_neg hgo]
  refine ⟨fun ho => ?_, fun ho => ?_, fun ho => ?_⟩
  · rw [ho]
    rfl
  · rw [ho]
    exact if_congr (State.hasRoom_iff _) rfl rfl
  · rw [ho]
    exact if_congr (State.hasRoom_iff _) rfl rfl

theorem tallyOutcome_of_absent {sections : List Section} {home : SectionId} (h : findSection sections home = none) :
    tallyOutcome sections home = .notCovered := by
  rw [tallyOutcome, h]

theorem tallyOutcome_of_found {sections : List Section} {home : SectionId} {y : Section} (h : findSection sections home = some y) :
    tallyOutcome sections home = if y.state = .unvisited then .notCovered else if y.rushed then .uncertain else .missing := by
  rw [tallyOutcome, h]

theorem repeated_eq_iterate (f : State → State) (n : Nat) (s : State) : repeated f n s = f^[n] s := by
  induction n generalizing s with
  | zero => rfl
  | succ n ih => exact ih (f s)

theorem State.tallyRest_eq (s : State) : s.tallyRest =
    (fun t : State => if t.psc.tallyWait = none then t.tallyOne else t)^[s.tst.holdings.length - s.psc.tallyPosition] s := by
  rw [State.tallyRest, repeated_eq_iterate]
  congr 1
  funext t
  cases htally : t.psc.tallyWait with
  | none => rfl
  | some f => rfl

theorem passEndReason_eq (r : Option EndReason) :
    passEndReason r = if r = some .sweepLimit then .sweepLimit else .complete := by
  cases r with
  | none => rfl
  | some r =>
    cases r with
    | complete => rfl
    | sweepLimit => rfl

/-- The walk keeps the end reason of the pass. -/
theorem State.tallyOne_endReason (s : State) : s.tallyOne.psc.endReason = s.psc.endReason := by
  have hjudge (o : TallyOutcome) : (s.judge s.psc.tallyPosition o).psc.endReason = s.psc.endReason := by cases o <;> rfl
  have hwrite (u : State) (r : Record) : (u.writeRecord r).psc = u.psc := (u.writeRecord_frame r).2.2.2.2.2.2.2.2.1
  unfold State.tallyOne
  split
  · rfl
  · split
    · rfl
    · dsimp only
      split
      · exact hjudge _
      · split
        · rw [State.tallyNext, hwrite]
          exact hjudge _
        · exact hjudge _

theorem State.tallyRest_endReason (s : State) : s.tallyRest.psc.endReason = s.psc.endReason := by
  rw [State.tallyRest]
  refine repeated_preserves (fun t => t.psc.endReason = s.psc.endReason) _ (fun t ht => ?_) _ s rfl
  split
  · exact ht
  · exact (State.tallyOne_endReason t).trans ht

theorem mapAll_counters (v : Vector PortQueue 16) : mapAll PortQueue.counters v = Vector.ofFn (fun p : Port => v[p].counters) :=
  mapAll_eq_ofFn _ _

/-- Settles O38: a record judged, a finding written late, the end of the walk, and what PASS-END says. -/
theorem tallyWalkJudgesAndEnds : Obligations.TallyWalkJudgesAndEnds := by
  refine ⟨fun s h hat => ?_, fun s f hline hstate hwait => ?_, fun s hline hstate hwait => ?_, fun s reason => ?_⟩
  · have hover := h.passedOver_iff
    refine ⟨fun hnot => State.tallyOne_over hat (hover.mpr hnot), fun hwalked habsent => ?_, fun y hwalked hy => ?_⟩
    · have hgo : h.passedOver = false := by rw [← Bool.not_eq_true, hover, not_not]; exact hwalked
      exact (State.tallyOne_judged hat hgo).1 (tallyOutcome_of_absent habsent)
    · have hgo : h.passedOver = false := by rw [← Bool.not_eq_true, hover, not_not]; exact hwalked
      obtain ⟨hnot, huncertain, hmissing⟩ := State.tallyOne_judged hat hgo
      have houtcome := tallyOutcome_of_found hy
      refine ⟨fun hunvisited => hnot ?_, fun hclosed hrushed => huncertain ?_, fun hclosed hrushed => hmissing ?_⟩
      · rw [houtcome, if_pos hunvisited]
      · rw [houtcome, hclosed, hrushed]
        rfl
      · rw [houtcome, hclosed, hrushed]
        rfl
  · have hlive : exec .tallyFindingWrite s = .next (tallyFindingWriteStep s) := live_of_released hline _
    have hstep : tallyFindingWriteStep s = if s.ulp.reports.length < 511 then
        ((s.writeRecord f.record).setPsc { (s.writeRecord f.record).psc with tallyWait := none }).tallyNext else s := by
      rw [tallyFindingWriteStep, hwait]
      refine if_congr ?_ rfl rfl
      rw [State.hasRoom_iff]
      exact and_iff_right hstate
    rw [hlive, hstep]
    exact ⟨fun hroom => congrArg _ (if_pos hroom), fun hfull => congrArg _ (if_neg (Nat.not_lt_of_le hfull))⟩
  · have hlive : exec .tallyWalkEnd s = .next (tallyWalkEndStep s) := live_of_released hline _
    have hreason := s.tallyRest_endReason
    have hstep : tallyWalkEndStep s = if s.tallyRest.psc.tallyWait.isSome then s.tallyRest
        else ((s.tallyRest.writePassEnd (passEndReason s.tallyRest.psc.endReason)).endRhg).enterIdle := if_pos ⟨hstate, hwait⟩
    rw [hlive, hstep, ← State.tallyRest_eq]
    generalize s.tallyRest = t at hreason
    refine ⟨fun hwaits => ?_, fun hdone => ?_⟩
    · rw [if_pos (Option.isSome_iff_ne_none.mpr hwaits)]
    · have hgo : ¬t.psc.tallyWait.isSome = true := by rw [hdone]; exact Bool.false_ne_true
      rw [if_neg hgo, hreason, passEndReason_eq]
      rfl
  · have hend : s.passEnd reason = ⟨reason, s.psc.state, s.psc.source, s.psc.clock, s.psc.counters, s.mfu.counters,
        s.spe.counters, s.sru.counters, Vector.ofFn (fun p : Port => s.piq[p].counters)⟩ := by
      rw [State.passEnd, mapAll_counters]
    exact ⟨hend, rfl⟩

end Sys2Proof.Machine
end

section
/-! SUPPORT. The work of a pass ended by ABORT-PASS and by RESTART (section 7.7), and the end of an activity window (sections 10.1
and 10.2); settles O41, O42 and O43. -/

namespace Sys2Proof.Machine

variable {s t : State}

/-! ### The work in hand ended (R142) -/

theorem State.queueReply_eq (s : State) (r : Reply) : s.queueReply r = { s with ulp := s.ulp.answer r } := by
  unfold State.queueReply Ulp.answer
  by_cases h : s.ulp.replies.length < 8
  · have hroom : s.ulp.replies.length < Config.replyCapacity := h
    rw [if_pos hroom, if_pos h]
    rfl
  · have hfull : ¬s.ulp.replies.length < Config.replyCapacity := h
    rw [if_neg hfull, if_neg h]
    rfl

theorem State.abortWalk_eq (s : State) : s.abortWalk = { s with ulp := s.workEnded.ulp } := by
  unfold State.abortWalk State.workEnded
  dsimp only
  cases s.ulp.inHand with
  | none => rfl
  | some x =>
    cases x with
    | walk kind tag => exact State.queueReply_eq _ _
    | loadHoldings tag records => rfl
    | loadSections tag records => rfl

theorem State.clearRun_ports (v : Vector ScuPort 16) : mapAll ScuPort.clearRun v = Vector.ofFn (fun p : Port => { v[p] with
    nearSum := 0, nearCount := 0, farSum := 0, farCount := 0, carryOver := 0 }) := mapAll_eq_ofFn _ _

theorem State.abortScu_eq (s : State) : s.abortScu = { s with scu := { s.scu with
    ports := Vector.ofFn (fun p : Port => { s.scu.ports[p] with
      nearSum := 0, nearCount := 0, farSum := 0, farCount := 0, carryOver := 0 })
    nearTag := none, farTag := none, calPass := s.scu.calPass && !decide (s.psc.state = .calibrating) } } := by
  unfold State.abortScu State.abandonCalibration
  rw [State.clearRun_ports]
  by_cases h : s.psc.state = .calibrating
  · rw [if_pos h, decide_eq_true h, Bool.not_true, Bool.and_false]
    rfl
  · rw [if_neg h, decide_eq_false h, Bool.not_false, Bool.and_true]
    rfl

theorem Mark.dropped_eq (m : Mark) : m.dropped = if m = .disposed then .disposed else .unseen := by
  cases m <;> rfl

theorem State.endWork_eq (s : State) : s.endWork = s.workEnded := by
  unfold State.endWork
  rw [State.abortWalk_eq]
  dsimp only
  rw [State.abortScu_eq]
  simp only [State.stopGenerators, State.clearSpe, State.clearStale, State.clearSru, State.stopWindow, State.setSwg, State.setSpe,
    State.setSru, State.setPam, State.setRhg, State.dropMarks, State.setTst, State.setPsc, Mark.dropped_eq]
  rfl

/-! ### ABORT-PASS -/

/-- Settles O41: the refusal in IDLE, and the work ended. -/
theorem abortPassEndsTheWork : Obligations.AbortPassEndsTheWork := by
  intro s tag hline
  have hlive : exec (.abortPass tag) s = .next (s.abort tag) := live_of_released hline (fun t => t.abort tag)
  rw [hlive, State.abort]
  refine ⟨fun hidle => ?_, fun hbusy => ?_⟩
  · rw [if_pos hidle, State.queueReply_eq]
    rfl
  · rw [if_neg hbusy, State.endWork_eq, State.queueReply_eq]
    rfl

/-! ### RESTART -/

theorem State.restartWork_eq (s : State) : s.restartWork =
    if s.psc.state = .idle then { s with ulp := { s.ulp with reports := [] } }
    else State.writeRecord { s.workEnded with ulp := { s.workEnded.ulp with reports := [] } }
      (.passEnd (s.workEnded.passEnd .restart)) := by
  rw [State.restartWork, State.endWork_eq]
  rfl

theorem State.restarted_ports (v : Vector PortQueue 16) :
    mapAll (fun q : PortQueue => { q with counters := PiqCounters.zero })
      (mapAll (fun q : PortQueue => { q with queue := [], episode := false }) v) =
    Vector.ofFn (fun p : Port => { v[p] with queue := [], episode := false, counters := ⟨0, 0, 0, 0⟩ }) := by
  rw [mapAll_eq_ofFn, mapAll_eq_ofFn]
  congr 1
  funext p
  rw [getElem_ofFn_port]
  rfl

/-- The queues and the blocks of a restart. -/
theorem State.restartRest_eq (u : State) :
    ((((u.restartQueues).restartUplink).clearPassCounters).restartBlocks) = { u with
      piq := Vector.ofFn (fun p : Port => { u.piq[p] with queue := [], episode := false, counters := ⟨0, 0, 0, 0⟩ })
      scu := { u.scu with
        ports := Vector.ofFn (fun p : Port => { u.scu.ports[p] with
          nearSum := 0, nearCount := 0, farSum := 0, farCount := 0, carryOver := 0 })
        nearTag := none, farTag := none }
      mfu := ⟨Vector.replicate 16 ⟨none, 0, false, .unknown⟩, ⟨0, 0, 0, 0, 0, 0, 0, 0⟩⟩
      spe := ⟨[], u.spe.pointer, Vector.replicate 16 0, none, .idle, [], false, false, SpeCounters.zero⟩
      sru := ⟨[], false, none, [], SruCounters.zero⟩
      pam := ⟨none, Vector.replicate 16 ⟨0, 0, false, 0, false⟩⟩
      rhg := ⟨.idle, none, none, 0, none, [], 0⟩
      psc := ⟨.idle, .frontEnds, u.psc.verbose, 0, none, .draining, 0, 0, 0, 0, u.psc.tallyWait, ⟨0, 0, 0, 0, 0⟩⟩
      swg := { u.swg with holdAlert := false }
      ulp := { u.ulp with mgmt := [], paused := false, hold := false, frameNumber := 0 } } := by
  have hpiq := State.restarted_ports u.piq
  have hscu := State.clearRun_ports u.scu.ports
  rw [← hpiq, ← hscu]
  simp only [State.restartQueues, State.restartUplink, State.clearPassCounters, State.restartBlocks, State.setPiq,
    State.clearStale, State.setSpe, State.setScu, State.setUlp, State.setSwg, State.countMfu, State.countSpe, State.countSru,
    State.countPsc, State.setMfu, State.setSru, State.setPsc, State.clearSpe, State.clearFacings, State.clearSru, State.setPam,
    State.setRhg]
  rfl

/-- Settles O42: the work ended, then every queue and block at the values of R143. -/
theorem restartReturnsToAnEmptyIdle : Obligations.RestartReturnsToAnEmptyIdle := by
  intro s tag hline
  have hlive : exec (.restart tag) s = .next (s.restart tag) := live_of_released hline (fun t => t.restart tag)
  rw [hlive, State.restart, State.queueReply_eq, State.restartRest_eq, State.restartWork_eq]
  dsimp only
  generalize (if s.psc.state = .idle then { s with ulp := { s.ulp with reports := [] } }
    else State.writeRecord { s.workEnded with ulp := { s.workEnded.ulp with reports := [] } }
      (.passEnd (s.workEnded.passEnd .restart)) : State) = u
  rfl

/-! ### The end of an activity window (R181 to R185) -/

theorem State.startsDisqualified_eq (s : State) (p : Port) : s.startsDisqualified p =
    (decide (s.piq[p].mode = .muted) || (s.qhold && s.piq[p].follows) || decide (s.swg.driver (portSide p) = none) ||
      s.ulp.hold) := by
  have hdriven : (!s.portDriven p) = decide (s.swg.driver (portSide p) = none) := by
    rw [State.portDriven]
    cases s.swg.driver (portSide p) <;> rfl
  rw [State.startsDisqualified, hdriven, beq_eq_decide]
  rfl

theorem State.startWindow_eq (s : State) (start : Nat) : s.startWindow start = { s with pam := s.windowFrom start } := by
  have hvisited := forPorts_visited
    (fun v => { s with pam := ⟨some ⟨start, start + s.params.activityWindow⟩, Vector.ofFn (fun p =>
      if v p then { s.pam.ports[p] with reads := 0, hot := 0, disqualified := s.startsDisqualified p } else s.pam.ports[p])⟩ })
    (fun p t => t.modPam p (fun q => { q with reads := 0, hot := 0, disqualified := s.startsDisqualified p }))
    (fun p v hv => by
      have hset := ofFn_set_update
        (fun q b => if b then { s.pam.ports[q] with reads := 0, hot := 0, disqualified := s.startsDisqualified q }
          else s.pam.ports[q]) v p
        (x := { (Vector.ofFn (fun q => if v q then
            { s.pam.ports[q] with reads := 0, hot := 0, disqualified := s.startsDisqualified q } else s.pam.ports[q]))[p] with
          reads := 0, hot := 0, disqualified := s.startsDisqualified p })
        (by rw [getElem_ofFn_port, hv]; rfl)
      unfold State.modPam
      rw [modifyAt_eq_set, hset]
      rfl)
  simp only [Bool.false_eq_true, if_false, if_true, ofFn_getElem_port] at hvisited
  refine hvisited.trans ?_
  rw [State.windowFrom]
  simp only [State.startsDisqualified_eq]

theorem State.writeActivity_eq (s : State) (r : Record) : s.writeActivity r =
    if s.ulp.reports.length < s.params.highMark ∧ s.ulp.reports.length < 511 then s.writeRecord r
    else { s with ulp := { s.ulp with
      counters := { s.ulp.counters with activityDropped := up32 s.ulp.counters.activityDropped } } } := rfl

theorem State.forPorts_eq (s : State) (f : Port → State → State) :
    s.forPorts f = (List.finRange 16).foldl (fun t p => f p t) s := by rw [finRange_eq_allPorts]; rfl

theorem State.writeActivities_eq (s : State) : s.writeActivities = (List.finRange 16).foldl (fun t p =>
    if s.params.activityReporting = true ∧ t.piq[p].mode = .active ∧ 0 < t.pam.ports[p].reads then
      t.writeActivity (.activity p t.pam.ports[p].reads t.pam.ports[p].hot) else t) s := by
  unfold State.writeActivities
  by_cases h : s.params.activityReporting = true
  · rw [if_pos h, State.forPorts_eq]
    congr 1
    funext t p
    exact if_congr (and_iff_right h).symm rfl rfl
  · rw [if_neg h]
    have hnone (t : State) (p : Port) :
        ¬(s.params.activityReporting = true ∧ t.piq[p].mode = .active ∧ 0 < t.pam.ports[p].reads) := fun hh => h hh.1
    simp only [if_neg (hnone _ _), List.foldl_fixed]

theorem State.loseFacing_eq (s : State) (p : Port) :
    (s.mfu.ports[p].facing = none → s.loseFacing p = s) ∧
    ∀ x, s.mfu.ports[p].facing = some x → s.loseFacing p = State.leaveSection { s with mfu := { s.mfu with
      ports := s.mfu.ports.set p ⟨none, 0, false, s.mfu.ports[p].lastMove⟩ } } x .unknown false := by
  unfold State.loseFacing
  refine ⟨fun h => ?_, fun x h => ?_⟩
  · rw [h]
  · rw [h]
    rfl

/-- The judgement of one port: a fourth empty window in a row makes it SILENT. -/
theorem State.judgeWindow_eq (t : State) (p : Port) : t.judgeWindow p =
    if t.pam.ports[p].silent then { t with pam := { t.pam with ports := t.pam.ports.set p { t.pam.ports[p] with empty := 4 } } }
    else if 0 < t.pam.ports[p].reads ∨ t.pam.ports[p].disqualified = true then
      { t with pam := { t.pam with ports := t.pam.ports.set p { t.pam.ports[p] with empty := 0 } } }
    else if t.pam.ports[p].empty + 1 < 4 then
      { t with pam := { t.pam with ports := t.pam.ports.set p { t.pam.ports[p] with empty := t.pam.ports[p].empty + 1 } } }
    else State.loseFacing { t with
      pam := { t.pam with ports := t.pam.ports.set p { t.pam.ports[p] with empty := 4, silent := true } }
      ulp := { t.ulp with alerts := insertAlert (.portSilent p) t.ulp.alerts } } p := by
  have hiff : 4 ≤ t.pam.ports[p].empty + 1 ↔ ¬t.pam.ports[p].empty + 1 < 4 := Nat.not_lt.symm
  unfold State.judgeWindow
  dsimp only
  rw [if_congr hiff rfl rfl, ite_not]
  rfl

theorem exec_activityWindowEnd {w : Window} (hline : s.resetLine = false) (hwindow : s.pam.window = some w) :
    exec .activityWindowEnd s = .next (if w.stop ≤ s.psc.clock then
      (s.writeActivities.forPorts (fun p t => t.judgeWindow p)).startWindow w.stop else s) := by
  have hlive : exec .activityWindowEnd s = .next (activityWindowEndStep s) := live_of_released hline _
  rw [hlive, activityWindowEndStep, hwindow]

/-- Settles O43: the records, the judgement port by port, and the next window. -/
theorem activityWindowEnds : Obligations.ActivityWindowEnds := by
  refine ⟨fun s p reads hot => State.writeActivity_eq s _, fun s hline => ⟨fun hnone => ?_, fun w hwindow =>
    ⟨fun hearly => ?_, fun hend => ?_⟩⟩⟩
  · have hlive : exec .activityWindowEnd s = .next (activityWindowEndStep s) := live_of_released hline _
    rw [hlive, activityWindowEndStep, hnone]
  · rw [exec_activityWindowEnd hline hwindow, if_neg (Nat.not_le_of_lt hearly)]
  · rw [exec_activityWindowEnd hline hwindow, if_pos hend, State.startWindow_eq, State.forPorts_eq, State.writeActivities_eq]
    refine congrArg (fun j : State => Host.Outcome.next { j with pam := j.windowFrom w.stop }) ?_
    refine congrArg (fun f => List.foldl f _ (List.finRange 16)) (funext fun t => funext fun p => ?_)
    rw [State.judgeWindow_eq]
    refine if_congr Iff.rfl rfl (if_congr Iff.rfl rfl (if_congr Iff.rfl rfl ?_))
    obtain ⟨hnone, hsome⟩ := State.loseFacing_eq { t with
      pam := { t.pam with ports := t.pam.ports.set p { t.pam.ports[p] with empty := 4, silent := true } }
      ulp := { t.ulp with alerts := insertAlert (.portSilent p) t.ulp.alerts } } p
    cases hfacing : t.mfu.ports[p].facing with
    | none => exact hnone hfacing
    | some x => exact hsome x hfacing

end Sys2Proof.Machine
end

section
/-! SUPPORT. The PREPARING walk record by record, and the entry into SCANNING (section 7.2); settles O40. -/

namespace Sys2Proof.Machine

variable {s t : State}

/-! ### A list updated from the front -/

/-- The first `i` elements of a list updated. -/
def mappedTo {α : Type} (f : α → α) (l : List α) (i : Nat) : List α := (l.take i).map f ++ l.drop i

theorem mappedTo_length {α : Type} (f : α → α) (l : List α) : mappedTo f l l.length = l.map f := by
  rw [mappedTo, List.take_length, List.drop_length, List.append_nil]

theorem length_mappedTo {α : Type} (f : α → α) (l : List α) (i : Nat) : (mappedTo f l i).length = l.length := by
  rw [mappedTo, List.length_append, List.length_map, List.length_take, List.length_drop]
  omega

theorem getElem?_mappedTo {α : Type} (f : α → α) (l : List α) (i m : Nat) :
    (mappedTo f l i)[m]? = if m < i then l[m]?.map f else l[m]? := by
  rw [mappedTo, List.getElem?_append, List.length_map, List.length_take, List.getElem?_map, List.getElem?_take,
    List.getElem?_drop]
  by_cases hm : m < i
  · rw [if_pos hm, if_pos hm]
    by_cases hl : m < l.length
    · rw [if_pos (Nat.lt_min.mpr ⟨hm, hl⟩)]
    · rw [if_neg (fun h => hl (Nat.lt_min.mp h).2), List.getElem?_eq_none (Nat.le_of_not_lt hl),
        List.getElem?_eq_none (by omega)]
      rfl
  · rw [if_neg (fun h => hm (Nat.lt_min.mp h).1), if_neg hm]
    by_cases hl : i ≤ l.length
    · have hindex : i + (m - min i l.length) = m := by omega
      rw [hindex]
    · rw [List.getElem?_eq_none (by omega), List.getElem?_eq_none (by omega)]

theorem modify_mappedTo {α : Type} (f : α → α) (l : List α) (i : Nat) :
    (mappedTo f l i).modify i f = mappedTo f l (i + 1) := by
  refine List.ext_getElem? (fun m => ?_)
  rw [List.getElem?_modify, getElem?_mappedTo, getElem?_mappedTo]
  by_cases him : i = m
  · subst him
    rw [if_neg (Nat.lt_irrefl i), if_pos (Nat.lt_succ_self i)]
    simp
  · rw [if_congr (show m < i + 1 ↔ m < i by omega) rfl rfl]
    simp [him]

/-! ### The walk (R71, R129) -/

/-- A record is expected (section 4.1). -/
def Holding.expected (h : Holding) : Bool := h.status == .shelved || h.status == .reference

theorem Holding.expected_eq (h : Holding) : h.expected = h.status.isExpected := by
  unfold Holding.expected
  cases h.status <;> rfl

/-- The expected records at home in a section, among the first `k`. -/
def homedUpTo (all : List Holding) (k : Nat) (x : SectionId) : Nat := (all.take k).countP (fun h => h.expected && h.home == x)

/-- A section at its pass-open values, with the expected count that `k` records give it. -/
def Section.walkedTo (all : List Holding) (k : Nat) (y : Section) : Section :=
  ⟨y.id, y.side, y.level, homedUpTo all k y.id, .unvisited, .unknown, false, false, false, false, none, []⟩

/-- The expected records of the first `k` without a home section. -/
def unmappedUpTo (all : List Holding) (sections : List Section) (k : Nat) : Nat :=
  (all.take k).countP (fun h => h.expected && (findSection sections h.home).isNone)

/-- The state after `i` marks, `j` sections and `k` counts of the walk. -/
def State.walkedTo (s : State) (i j k : Nat) : State := { s with
  tst := ⟨mappedTo (fun h => { h with mark := .unseen }) s.tst.holdings i,
    mappedTo (Section.walkedTo s.tst.holdings k) s.tst.sections j⟩
  psc := { s.psc with
    marked := i, cleared := j, preparation := k
    counters := { s.psc.counters with unmapped := unmappedUpTo s.tst.holdings s.tst.sections k } } }

theorem Psc.eq_of_fresh {p : Psc} (hmarked : p.marked = 0) (hcleared : p.cleared = 0) (hpreparation : p.preparation = 0)
    (hunmapped : p.counters.unmapped = 0) :
    { p with marked := 0, cleared := 0, preparation := 0, counters := { p.counters with unmapped := 0 } } = p := by
  obtain ⟨state, source, verbose, clock, endReason, stage, tallyPosition, marked, cleared, preparation, tallyWait, counters⟩ := p
  obtain ⟨missing, uncertain, notCovered, unmapped, expectedTotal⟩ := counters
  dsimp only at hmarked hcleared hpreparation hunmapped
  rw [hmarked, hcleared, hpreparation, hunmapped]

theorem State.walkedTo_zero (hmarked : s.psc.marked = 0) (hcleared : s.psc.cleared = 0) (hpreparation : s.psc.preparation = 0)
    (hunmapped : s.psc.counters.unmapped = 0) : s.walkedTo 0 0 0 = s := by
  have hpsc := Psc.eq_of_fresh hmarked hcleared hpreparation hunmapped
  have hwalked : s.walkedTo 0 0 0 = { s with psc :=
    { s.psc with marked := 0, cleared := 0, preparation := 0, counters := { s.psc.counters with unmapped := 0 } } } := rfl
  rw [hwalked, hpsc]

theorem State.walkOne_mark {i : Nat} (hi : i < s.tst.holdings.length) : (s.walkedTo i 0 0).walkOne = s.walkedTo (i + 1) 0 0 := by
  have hleft : (s.walkedTo i 0 0).psc.marked < (s.walkedTo i 0 0).tst.holdings.length :=
    Nat.lt_of_lt_of_eq hi (length_mappedTo _ _ _).symm
  have hmodify := modify_mappedTo (fun h : Holding => { h with mark := .unseen }) s.tst.holdings i
  rw [State.walkOne, if_pos hleft, State.markNext]
  unfold setMark State.walkedTo
  rw [hmodify]
  rfl

theorem State.walkedTo_marked (s : State) (j k : Nat) :
    ¬(s.walkedTo s.tst.holdings.length j k).psc.marked < (s.walkedTo s.tst.holdings.length j k).tst.holdings.length :=
  Nat.not_lt_of_le (Nat.le_of_eq (length_mappedTo _ _ _))

theorem Section.passOpen_eq (all : List Holding) : Section.passOpen = Section.walkedTo all 0 := rfl

theorem State.walkOne_clear {j : Nat} (hj : j < s.tst.sections.length) :
    (s.walkedTo s.tst.holdings.length j 0).walkOne = s.walkedTo s.tst.holdings.length (j + 1) 0 := by
  have hleft : (s.walkedTo s.tst.holdings.length j 0).psc.cleared <
      (s.walkedTo s.tst.holdings.length j 0).tst.sections.length := Nat.lt_of_lt_of_eq hj (length_mappedTo _ _ _).symm
  have hmodify := modify_mappedTo (Section.walkedTo s.tst.holdings 0) s.tst.sections j
  rw [State.walkOne, if_neg (s.walkedTo_marked j 0), if_pos hleft, State.clearNext, Section.passOpen_eq s.tst.holdings]
  unfold State.walkedTo
  rw [hmodify]
  rfl

/-! ### One record counted -/

theorem findSection_walkedTo (all : List Holding) (k : Nat) (sections : List Section) (x : SectionId) :
    (findSection (sections.map (Section.walkedTo all k)) x).isSome = (findSection sections x).isSome := by
  have hmap : findSection (sections.map (Section.walkedTo all k)) x = (findSection sections x).map (Section.walkedTo all k) :=
    List.find?_map
  rw [hmap, Option.isSome_map]

variable {all : List Holding} {k : Nat} {h : Holding}

theorem homedUpTo_succ (hk : k < all.length) (x : SectionId) : homedUpTo all (k + 1) x =
    homedUpTo all k x + if all[k].expected && all[k].home == x then 1 else 0 := by
  rw [homedUpTo, homedUpTo, ← List.take_concat_get' all k hk, List.countP_append, List.countP_singleton]

theorem unmappedUpTo_succ (hk : k < all.length) (sections : List Section) : unmappedUpTo all sections (k + 1) =
    unmappedUpTo all sections k + if all[k].expected && (findSection sections all[k].home).isNone then 1 else 0 := by
  rw [unmappedUpTo, unmappedUpTo, ← List.take_concat_get' all k hk, List.countP_append, List.countP_singleton]

theorem unmappedUpTo_le (sections : List Section) : unmappedUpTo all sections k ≤ k :=
  List.countP_le_length.trans (List.length_take_le _ _)

theorem findSection_eq_none {sections : List Section} {x : SectionId} (hnone : findSection sections x = none) (y : Section)
    (hy : y ∈ sections) : y.id ≠ x := by
  have := List.find?_eq_none.mp hnone y hy
  rwa [beq_iff_eq] at this

/-- The sections after the count of one record. -/
theorem map_walkedTo_succ (hk : k < all.length) {sections : List Section} :
    (all[k].expected = true → sections.map (Section.walkedTo all (k + 1)) =
      (sections.map (Section.walkedTo all k)).map
        (fun y => if y.id = all[k].home then { y with expected := y.expected + 1 } else y)) ∧
    (all[k].expected = false ∨ findSection sections all[k].home = none →
      sections.map (Section.walkedTo all (k + 1)) = sections.map (Section.walkedTo all k)) := by
  refine ⟨fun hexpected => ?_, fun hstays => ?_⟩
  · rw [List.map_map]
    refine List.map_congr_left (fun y _ => ?_)
    rw [Function.comp_apply, Section.walkedTo, homedUpTo_succ hk, hexpected, Bool.true_and]
    by_cases hy : all[k].home = y.id
    · have hid : (Section.walkedTo all k y).id = all[k].home := hy.symm
      rw [if_pos (beq_iff_eq.mpr hy), if_pos hid]
      rfl
    · have hid : ¬(Section.walkedTo all k y).id = all[k].home := fun he => hy he.symm
      rw [if_neg (fun he => hy (beq_iff_eq.mp he)), if_neg hid]
      rfl
  · refine List.map_congr_left (fun y hy => ?_)
    have hnot : (all[k].expected && all[k].home == y.id) = false := by
      obtain hexpected | hnone := hstays
      · rw [hexpected]
        rfl
      · rw [Bool.and_eq_false_iff]
        exact .inr (beq_eq_false_iff_ne.mpr (fun he => findSection_eq_none hnone y hy he.symm))
    rw [Section.walkedTo, Section.walkedTo, homedUpTo_succ hk, hnot]
    rfl

theorem State.walkOne_count (hk : k < s.tst.holdings.length) (hbound : s.tst.holdings.length ≤ 16384) :
    (s.walkedTo s.tst.holdings.length s.tst.sections.length k).walkOne =
      s.walkedTo s.tst.holdings.length s.tst.sections.length (k + 1) := by
  have hcleared : ¬(s.walkedTo s.tst.holdings.length s.tst.sections.length k).psc.cleared <
      (s.walkedTo s.tst.holdings.length s.tst.sections.length k).tst.sections.length :=
    Nat.not_lt_of_le (Nat.le_of_eq (length_mappedTo _ _ _))
  have hat : (s.walkedTo s.tst.holdings.length s.tst.sections.length k).tst.holdings[k]? =
      some { s.tst.holdings[k] with mark := .unseen } := by
    change (mappedTo _ s.tst.holdings s.tst.holdings.length)[k]? = _
    rw [mappedTo_length, List.getElem?_map, List.getElem?_eq_getElem hk]
    rfl
  have hnext : (s.walkedTo s.tst.holdings.length s.tst.sections.length k).countNext =
      (let u := (s.walkedTo s.tst.holdings.length s.tst.sections.length k).countRecord
          { s.tst.holdings[k] with mark := .unseen }
       u.setPsc { u.psc with preparation := k + 1 }) := by
    unfold State.countNext
    have hposition : (s.walkedTo s.tst.holdings.length s.tst.sections.length k).psc.preparation = k := rfl
    rw [hposition, hat]
  rw [State.walkOne, if_neg (s.walkedTo_marked _ _), if_neg hcleared, hnext]
  obtain ⟨hraised, hstands⟩ := map_walkedTo_succ hk (sections := s.tst.sections)
  have hunmapped := unmappedUpTo_succ hk s.tst.sections
  have hfound := findSection_walkedTo s.tst.holdings k s.tst.sections s.tst.holdings[k].home
  unfold State.countRecord State.walkedTo
  simp only [mappedTo_length]
  cases hexpected : s.tst.holdings[k].expected with
  | false =>
    have hstatus : s.tst.holdings[k].status.isExpected = false := (Holding.expected_eq _).symm.trans hexpected
    rw [if_pos hstatus, hstands (.inl hexpected), hunmapped, hexpected]
    rfl
  | true =>
    have hstatus : ¬s.tst.holdings[k].status.isExpected = false := by
      rw [← Holding.expected_eq, hexpected]
      exact Bool.noConfusion
    rw [if_neg hstatus, hfound, hunmapped, hexpected, Bool.true_and]
    cases hhome : findSection s.tst.sections s.tst.holdings[k].home with
    | some y =>
      rw [hraised hexpected]
      rfl
    | none =>
      have hsmall : unmappedUpTo s.tst.holdings s.tst.sections k ≤ k := unmappedUpTo_le _
      have hsat : sat32 (unmappedUpTo s.tst.holdings s.tst.sections k) 1 =
          unmappedUpTo s.tst.holdings s.tst.sections k + 1 := Nat.min_eq_right (by change _ ≤ 4294967295; omega)
      rw [hstands (.inr hhome)]
      simp only [State.countPsc, State.setPsc, hsat, Option.isSome_none, Bool.false_eq_true, if_false]
      rfl

/-- The walk from its beginning, wherever it is ended. -/
theorem State.iterate_walkOne (hfresh : s.walkedTo 0 0 0 = s) (hbound : s.tst.holdings.length ≤ 16384) {i j k : Nat}
    (hi : i ≤ s.tst.holdings.length) (hj : j ≤ s.tst.sections.length) (hk : k ≤ s.tst.holdings.length)
    (hij : j = 0 ∨ i = s.tst.holdings.length)
    (hik : k = 0 ∨ i = s.tst.holdings.length ∧ j = s.tst.sections.length) :
    State.walkOne^[i + j + k] s = s.walkedTo i j k := by
  have hmarks (i : Nat) (hi : i ≤ s.tst.holdings.length) : State.walkOne^[i] s = s.walkedTo i 0 0 := by
    induction i with
    | zero => exact hfresh.symm
    | succ i ih => rw [Function.iterate_succ_apply', ih (Nat.le_of_lt hi), State.walkOne_mark hi]
  have hclears (j : Nat) (hj : j ≤ s.tst.sections.length) :
      State.walkOne^[s.tst.holdings.length + j] s = s.walkedTo s.tst.holdings.length j 0 := by
    induction j with
    | zero => exact hmarks _ (Nat.le_refl _)
    | succ j ih => rw [← Nat.add_assoc, Function.iterate_succ_apply', ih (Nat.le_of_lt hj), State.walkOne_clear hj]
  have hcounts (k : Nat) (hk : k ≤ s.tst.holdings.length) :
      State.walkOne^[s.tst.holdings.length + s.tst.sections.length + k] s =
        s.walkedTo s.tst.holdings.length s.tst.sections.length k := by
    induction k with
    | zero => exact hclears _ (Nat.le_refl _)
    | succ k ih => rw [← Nat.add_assoc, Function.iterate_succ_apply', ih (Nat.le_of_lt hk), State.walkOne_count hk hbound]
  obtain rfl | ⟨rfl, rfl⟩ := hik
  · obtain rfl | rfl := hij
    · exact hmarks i hi
    · exact hclears j hj
  · exact hcounts k hk

/-! ### The expected total (R71) -/

/-- An expected record counts in its one home section, or as UNMAPPED. -/
theorem sum_homed (sections : List Section) (hnodup : (sections.map Section.id).Nodup) (all : List Holding) :
    (sections.map (fun y => all.countP (fun h => h.expected && h.home == y.id))).sum +
      all.countP (fun h => h.expected && (findSection sections h.home).isNone) = all.countP Holding.expected := by
  induction all with
  | nil => simp
  | cons h all ih =>
    have hone : (sections.map (fun y => if (h.expected && h.home == y.id) = true then 1 else 0)).sum +
        (if (h.expected && (findSection sections h.home).isNone) = true then 1 else 0) =
        if h.expected = true then 1 else 0 := by
      cases hexpected : h.expected with
      | false => simp
      | true =>
        have hcount : (sections.map (fun y => if (true && h.home == y.id) = true then 1 else 0)).sum =
            (sections.map Section.id).count h.home := by
          clear hnodup ih
          induction sections with
          | nil => rfl
          | cons y sections ih =>
            rw [List.map_cons, List.sum_cons, ih, List.map_cons, List.count_cons, Nat.add_comm]
            congr 1
            by_cases hy : h.home = y.id
            · simp [hy]
            · simp [hy, Ne.symm hy]
        rw [hcount]
        cases hhome : findSection sections h.home with
        | none =>
          have hnot : h.home ∉ sections.map Section.id := fun hmem => by
            obtain ⟨y, hy, hid⟩ := List.mem_map.mp hmem
            exact findSection_eq_none hhome y hy hid
          rw [List.count_eq_zero_of_not_mem hnot]
          rfl
        | some y =>
          have hmem : h.home ∈ sections.map Section.id :=
            List.mem_map.mpr ⟨y, List.mem_of_find?_eq_some hhome, findSection_id hhome⟩
          rw [List.count_eq_one_of_mem hnodup hmem]
          rfl
    have hsum : (sections.map (fun y => (h :: all).countP (fun h => h.expected && h.home == y.id))).sum =
        (sections.map (fun y => all.countP (fun h => h.expected && h.home == y.id))).sum +
          (sections.map (fun y => if (h.expected && h.home == y.id) = true then 1 else 0)).sum := by
      rw [← List.sum_map_add]
      simp only [List.countP_cons]
    rw [hsum, List.countP_cons, List.countP_cons]
    omega

/-! ### The entry into SCANNING (R130, R181, R190, R191) -/

/-- The state in which SCANNING is entered, with PAM's first window and before RHG and the generators. -/
def State.scanningFrom (s : State) : State :=
  let u : State := { s with
    psc := { s.psc with state := .scanning, clock := 0 }
    swg := { s.swg with
      runLeft := s.params.assignLeft, runRight := s.params.assignRight, runMode := s.params.sweepMode } }
  { u with pam := u.windowFrom 0 }

theorem State.enterScanning_eq (s : State) : s.enterScanning =
    if s.scanningFrom.startRhg.psc.state = .scanning then s.scanningFrom.startRhg.startGenerators
    else s.scanningFrom.startRhg := by
  unfold State.enterScanning
  dsimp only
  rw [State.startWindow_eq]
  rfl

theorem State.enterScanning_of_frontEnds (h : s.psc.source = .frontEnds) :
    s.enterScanning = s.scanningFrom.startGenerators := by
  have hsource : s.scanningFrom.psc.source = .frontEnds := h
  have hrhg : s.scanningFrom.startRhg = s.scanningFrom := by rw [State.startRhg, hsource]
  rw [State.enterScanning_eq, hrhg]
  exact if_pos rfl

theorem State.enterScanning_of_rehearsal (h : s.psc.source = .rehearsal) :
    ((∃ side, s.scanningFrom.swg.driver side ≠ none) → s.enterScanning =
      State.startGenerators { s.scanningFrom with rhg := { s.rhg with run := .waiting } }) ∧
    ((∀ side, s.scanningFrom.swg.driver side = none) → s.enterScanning = State.settlingFrom { s.scanningFrom with
      rhg := { s.rhg with run := .idle, current := none, list := [], sweeps := 0 } } .complete) := by
  have hsource : s.scanningFrom.psc.source = .rehearsal := h
  have hrhg : s.scanningFrom.startRhg = if s.scanningFrom.swg.drives .a || s.scanningFrom.swg.drives .b then
      s.scanningFrom.setRhg { s.scanningFrom.rhg with run := .waiting } else s.scanningFrom.rhgTake 0 := by
    rw [State.startRhg, hsource]
  have hdrives : (s.scanningFrom.swg.drives .a || s.scanningFrom.swg.drives .b) = true ↔
      ∃ side, s.scanningFrom.swg.driver side ≠ none := by
    rw [Bool.or_eq_true, Swg.drives_iff, Swg.drives_iff]
    constructor
    · rintro (⟨side, hside⟩ | ⟨side, hside⟩)
      · exact ⟨side, by rw [hside]; exact Option.some_ne_none _⟩
      · exact ⟨side, by rw [hside]; exact Option.some_ne_none _⟩
    · rintro ⟨side, hside⟩
      obtain ⟨g, hg⟩ := Option.ne_none_iff_exists'.mp hside
      cases g with
      | a => exact .inl ⟨side, hg⟩
      | b => exact .inr ⟨side, hg⟩
  rw [State.enterScanning_eq, hrhg]
  refine ⟨fun hdriven => ?_, fun hnone => ?_⟩
  · rw [if_pos (hdrives.mpr hdriven)]
    exact if_pos rfl
  · have hnot : ¬(s.scanningFrom.swg.drives .a || s.scanningFrom.swg.drives .b) = true := fun hd => by
      obtain ⟨side, hside⟩ := hdrives.mp hd
      exact hside (hnone side)
    have htake := State.rhgTake_of_none (State.nextDriven_eq_none (s := s.scanningFrom) (i := 0) (fun y _ => hnone y.side))
    rw [if_neg hnot, htake, State.internalClose_eq]
    rfl

theorem State.walkLeft_source (s : State) (n : Nat) : (State.walkOne^[n] s).psc.source = s.psc.source := by
  have hphase : (State.walkOne^[n] s).phase = s.phase := by
    induction n with
    | zero => rfl
    | succ n ih => rw [Function.iterate_succ_apply', State.walkOne_phase, ih]
  exact congrArg Phase.source hphase

/-- The state in which the reply to a walk that has ended is queued and the entry into SCANNING follows. -/
def State.walkAnswered (t : State) (kind tag : Byte) : State :=
  { t with
    psc := { t.psc with counters := { t.psc.counters with expectedTotal := t.expectedTotal } }
    ulp := { t.ulp with inHand := none }.answer
      ⟨tag, kind, .done, bytesOf 4 t.expectedTotal ++ bytesOf 4 t.psc.counters.unmapped⟩ }

theorem preparingWalkEndStep_eq {kind tag : Byte} (hstate : s.psc.state = .preparing)
    (hwalk : s.ulp.inHand = some (.walk kind tag)) :
    preparingWalkEndStep s = (s.walkRest.walkAnswered kind tag).enterScanning := by
  have hstep : preparingWalkEndStep s = (State.queueReply
      { s.walkRest with
        psc := { s.walkRest.psc with counters := { s.walkRest.psc.counters with expectedTotal := s.walkRest.expectedTotal } }
        ulp := { s.walkRest.ulp with inHand := none } }
      ⟨tag, kind, .done, bytesOf 4 s.walkRest.expectedTotal ++ bytesOf 4 s.walkRest.psc.counters.unmapped⟩).enterScanning := by
    rw [preparingWalkEndStep, hstate, hwalk]
    rfl
  rw [hstep, State.queueReply_eq]
  rfl

/-- Settles O40: the walk in its three parts, the total, and the entry into SCANNING. -/
theorem preparingWalkEnds : Obligations.PreparingWalkEnds := by
  refine ⟨fun s hmarked hcleared hpreparation hunmapped hids hbound => ⟨fun i j k hi hj hk hij hik => ?_, ?_⟩,
    fun s kind tag hline hstate hwalk => ?_⟩
  · exact State.iterate_walkOne (State.walkedTo_zero hmarked hcleared hpreparation hunmapped) hbound hi hj hk hij hik
  · have hsum := sum_homed s.tst.sections hids s.tst.holdings
    dsimp only
    rw [List.take_length, List.take_length, List.drop_length, List.append_nil, List.map_map]
    exact hsum
  · have hlive : exec .preparingWalkEnd s = .next (preparingWalkEndStep s) := live_of_released hline _
    have hwalkRest : s.walkRest = State.walkOne^[(s.tst.holdings.length - s.psc.marked) +
        (s.tst.sections.length - s.psc.cleared) + (s.tst.holdings.length - s.psc.preparation)] s := repeated_eq_iterate _ _ _
    have hsource := s.walkLeft_source ((s.tst.holdings.length - s.psc.marked) +
        (s.tst.sections.length - s.psc.cleared) + (s.tst.holdings.length - s.psc.preparation))
    rw [hlive, preparingWalkEndStep_eq hstate hwalk, hwalkRest]
    generalize State.walkOne^[(s.tst.holdings.length - s.psc.marked) + (s.tst.sections.length - s.psc.cleared) +
      (s.tst.holdings.length - s.psc.preparation)] s = t at hsource
    rw [← hsource]
    have hpsc : (t.walkAnswered kind tag).psc.source = t.psc.source := rfl
    refine ⟨fun hfront => ?_, fun hrehearse hdriven => ?_, fun hrehearse hnone => ?_⟩
    · rw [State.enterScanning_of_frontEnds (s := t.walkAnswered kind tag) (hpsc.trans hfront)]
      rfl
    · rw [(State.enterScanning_of_rehearsal (s := t.walkAnswered kind tag) (hpsc.trans hrehearse)).1 hdriven]
      rfl
    · rw [(State.enterScanning_of_rehearsal (s := t.walkAnswered kind tag) (hpsc.trans hrehearse)).2 hnone]
      rfl

end Sys2Proof.Machine
end

section
/-! SUPPORT. The arbiter, its frames and the bytes they carry (sections 8.6 to 8.8 and 11.4, 11.5). -/

namespace Sys2Proof.Machine

variable {s : State}

/-! ### The arbiter's decision (R159, R160) -/

theorem State.flushDue_iff : s.flushDue = true ↔
    ∃ r, s.ulp.reports.head? = some r ∧ s.params.flushTime ≤ s.ulp.now - r.entry := by
  unfold State.flushDue
  cases s.ulp.reports with
  | nil => simp
  | cons r rest => simp

theorem State.mayBegin_iff : s.mayBegin = true ↔ s.ulp.sending = none ∧ s.ulp.paused = false := by
  simp [State.mayBegin]

theorem State.sendTest_iff : s.sendTest = true ↔ 8 ≤ s.ulp.reports.length ∨ s.flushDue = true := by
  simp [State.sendTest]

theorem State.choice_reply {r : Reply} {later : List Reply} (h : s.ulp.replies = r :: later) : s.choice = .reply r := by
  rw [State.choice, h]

theorem State.choice_alert (hr : s.ulp.replies = []) (ha : s.ulp.alerts ≠ []) : s.choice = .alert := by
  rw [State.choice, hr]
  exact if_pos ha

theorem State.choice_report (hr : s.ulp.replies = []) (ha : s.ulp.alerts = []) (ht : s.sendTest = true) :
    s.choice = .report := by
  rw [State.choice, hr]
  dsimp only
  rw [if_neg (not_not_intro ha), if_pos ht]

theorem State.choice_nothing (hr : s.ulp.replies = []) (ha : s.ulp.alerts = []) (ht : ¬s.sendTest = true) :
    s.choice = .nothing := by
  rw [State.choice, hr]
  dsimp only
  rw [if_neg (not_not_intro ha), if_neg ht]

theorem State.arbitrate_of_choice {c : Choice} (hm : s.mayBegin = true) (hc : s.choice = c) :
    s.arbitrate = s.sendChoice c := by
  rw [State.arbitrate, if_pos hm, hc]

/-- Settles O45. -/
theorem theArbiterDecides : Obligations.TheArbiterDecides := by
  intro s
  dsimp only
  rw [← State.flushDue_iff, ← State.mayBegin_iff]
  refine ⟨fun hm => ?_, fun r later hm hr => ?_, fun hm hr ha => ?_, fun hm hr ha ht => ?_, fun hr ha hfew hdue => ?_,
    fun hline => ⟨live_of_released hline _, fun hp => ?_, fun hp => ?_, fun hs => ?_, fun hs => ?_, fun hd => ?_, fun hd => ?_⟩⟩
  · exact if_neg hm
  · exact State.arbitrate_of_choice hm (State.choice_reply hr)
  · exact State.arbitrate_of_choice hm (State.choice_alert hr ha)
  · exact State.arbitrate_of_choice hm (State.choice_report hr ha (State.sendTest_iff.mpr ht))
  · have hnot : ¬s.sendTest = true := fun ht => (State.sendTest_iff.mp ht).elim (by omega) hdue
    rw [State.arbitrate, State.choice_nothing hr ha hnot]
    exact ite_self s
  · exact (live_of_released hline resumeStep).trans (congrArg _ (if_pos hp))
  · exact (live_of_released hline resumeStep).trans (congrArg _ (if_neg (by simp [hp])))
  · obtain ⟨f, hf⟩ := Option.ne_none_iff_exists'.mp hs
    rw [exec_uplinkFrameEnd s hline, uplinkFrameEndStep, hf]
    rfl
  · rw [exec_uplinkFrameEnd s hline, uplinkFrameEndStep, hs]
  · exact (live_of_released hline flushTimeExpiryStep).trans (congrArg _ (if_pos hd))
  · exact (live_of_released hline flushTimeExpiryStep).trans (congrArg _ (if_neg hd))

/-! ### How many records a frame takes (R193) -/

/-- The sizes of the first `k` records together. -/
def sizeOfFirst (reports : List QueuedRecord) (k : Nat) : Nat := ((reports.take k).map (fun r => r.record.size)).sum

theorem sizeOfFirst_cons (r : QueuedRecord) (rest : List QueuedRecord) (k : Nat) :
    sizeOfFirst (r :: rest) (k + 1) = r.record.size + sizeOfFirst rest k := by
  simp [sizeOfFirst]

/-- `packed` takes the most records that fit behind the `n` taken already. -/
theorem packed_greatest (reports : List QueuedRecord) {n size : Nat} (hn : n ≤ 8) (hsize : size ≤ 1196) :
    ∃ k, packed n size reports = n + k ∧ (n + k ≤ 8 ∧ k ≤ reports.length ∧ size + sizeOfFirst reports k ≤ 1196) ∧
      ∀ j, n + j ≤ 8 → j ≤ reports.length → size + sizeOfFirst reports j ≤ 1196 → j ≤ k := by
  induction reports generalizing n size with
  | nil => exact ⟨0, rfl, ⟨hn, le_rfl, hsize⟩, fun j _ hj _ => hj⟩
  | cons r rest ih =>
    by_cases hfull : 8 ≤ n
    · refine ⟨0, if_pos hfull, ⟨hn, Nat.zero_le _, hsize⟩, fun j hj _ _ => by omega⟩
    · by_cases hfit : 1196 < size + r.record.size
      · refine ⟨0, (if_neg hfull).trans (if_pos hfit), ⟨hn, Nat.zero_le _, hsize⟩, fun j _ _ hj => ?_⟩
        cases j with
        | zero => exact le_rfl
        | succ j =>
          rw [sizeOfFirst_cons] at hj
          omega
      · obtain ⟨k, hk, ⟨hcount, hlen, hbytes⟩, hmost⟩ := ih (n := n + 1) (size := size + r.record.size) (by omega) (by omega)
        have hpacked : packed n size (r :: rest) = packed (n + 1) (size + r.record.size) rest :=
          (if_neg hfull).trans (if_neg hfit)
        refine ⟨k + 1, by omega, ⟨by omega, Nat.succ_le_succ hlen, by rw [sizeOfFirst_cons]; omega⟩, fun j hj hl hb => ?_⟩
        cases j with
        | zero => exact Nat.zero_le _
        | succ j =>
          rw [sizeOfFirst_cons] at hb
          exact Nat.succ_le_succ (hmost j (by omega) (Nat.le_of_succ_le_succ hl) (by omega))

theorem reportCount_greatest (reports : List QueuedRecord) :
    IsGreatest (fun k => k ≤ 8 ∧ k ≤ reports.length ∧ 1 + sizeOfFirst reports k ≤ 1196) (reportCount reports) := by
  obtain ⟨k, hk, ⟨hcount, hlen, hbytes⟩, hmost⟩ := packed_greatest reports (n := 0) (size := 1) (by omega) (by omega)
  rw [Nat.zero_add] at hk hcount
  rw [reportCount, hk]
  exact ⟨⟨hcount, hlen, hbytes⟩, fun j ⟨hj, hl, hb⟩ => hmost j (by omega) hl hb⟩

/-! ### The bytes of records (section 11.5) -/

theorem oneByte_eq (n : Nat) : oneByte n = [BitVec.ofNat 8 n] := by simp [oneByte, bytesOf]

theorem sectionBytes_eq (x : Option SectionId) : sectionBytes x = bytesOf 2 (x.getD 65535) := by
  cases x <;> rfl

@[simp] theorem length_sectionBytes (x : Option SectionId) : (sectionBytes x).length = 2 := by
  rw [sectionBytes_eq, length_bytesOf]

@[simp] theorem length_counterBytes (l : List Nat) : (counterBytes l).length = l.length * 4 := by
  simp [counterBytes, List.length_flatMap]

theorem toList_eq_finRange {α : Type} (v : Vector α 16) : v.toList = (List.finRange 16).map (fun p : Port => v[p]) := by
  conv_lhs => rw [← ofFn_getElem_port v, Vector.toList_ofFn, List.ofFn_eq_map]

/-- The counters of the sixteen port queues in a PASS-END. -/
theorem piqCounters_eq (v : Vector PiqCounters 16) : v.toList.flatMap PiqCounters.toList =
    (List.finRange 16).flatMap (fun p : Port => [v[p].entered, v[p].overflowDrops, v[p].heldDrops, v[p].purged]) := by
  rw [toList_eq_finRange, List.flatMap_map]
  rfl

theorem Record.length_bytes (r : Record) : r.bytes.length = r.size := by
  cases r with
  | finding f => simp [Record.bytes, Finding.bytes, Record.size, oneByte, tagBytes]
  | summary r => simp [Record.bytes, Summary.bytes, Record.size, oneByte]
  | activity p reads hot => simp [Record.bytes, Record.size, oneByte]
  | passEnd e =>
    have hpiq : (e.piq.toList.flatMap PiqCounters.toList).length = 64 := by
      rw [piqCounters_eq]
      simp [List.length_flatMap]
    simp only [Record.bytes, PassEnd.bytes, Record.size, oneByte, List.length_append, length_bytesOf, length_counterBytes, hpiq]
    rfl

/-- The flags of a summary, each bit by its value. -/
theorem Summary.flags_eq (r : Summary) : r.flags = (if r.rushed then 1 else 0) + (if r.overfull then 2 else 0) +
    (if r.evicted then 4 else 0) + (if r.orderUnchecked then 8 else 0) + 16 * r.direction.code := by
  have hbit (b : Bool) (k : Nat) : (if b then k else 0) = k * b.toNat := by cases b <;> simp
  rw [Summary.flags, hbit, hbit, hbit, hbit, Nat.one_mul]

/-- Settles O46. -/
theorem upstreamFramesCarryTheOldest : Obligations.UpstreamFramesCarryTheOldest := by
  refine ⟨fun s hline hsend hpause => ?_, reportCount_greatest, Record.length_bytes, by decide,
    fun p l => ⟨?_, ?_, ?_, ?_, ?_⟩, fun f r p reads hot => ⟨?_, ?_, ?_⟩, fun e => ?_,
    fun x alerts h => ⟨insertAlert_pairwise h, fun y => mem_insertAlert⟩⟩
  · have hm : s.mayBegin = true := State.mayBegin_iff.mpr ⟨hsend, hpause⟩
    refine ⟨fun r later hr => ?_, fun hr ha => ?_, fun hr ha ht => ?_⟩
    · have hstep : replyFrameStep s = s.sendReply r := by rw [replyFrameStep, if_pos hm, State.choice_reply hr]
      refine (live_of_released hline _).trans (congrArg _ (hstep.trans ?_))
      rw [State.sendReply, oneByte_eq, hr]
      rfl
    · have hstep : alertFrameStep s = s.sendAlert := by rw [alertFrameStep, if_pos hm, State.choice_alert hr ha]
      refine (live_of_released hline _).trans (congrArg _ (hstep.trans ?_))
      rw [State.sendAlert, oneByte_eq, List.length_take]
      rfl
    · have hstep : reportFrameStep s = s.sendReport := by rw [reportFrameStep, if_pos hm, State.choice_report hr ha ht]
      refine (live_of_released hline _).trans (congrArg _ (hstep.trans ?_))
      rw [State.sendReport, oneByte_eq, List.flatMap_map]
      rfl
  · rw [Alert.bytes, oneByte_eq, oneByte_eq]; rfl
  · rw [Alert.bytes, oneByte_eq, oneByte_eq]; rfl
  · rw [Alert.bytes, oneByte_eq, oneByte_eq]; rfl
  · rw [Alert.bytes, oneByte_eq, oneByte_eq]; rfl
  · rw [Alert.bytes, oneByte_eq, oneByte_eq]; rfl
  · rw [Record.bytes, Finding.bytes, oneByte_eq, oneByte_eq, oneByte_eq, sectionBytes_eq, sectionBytes_eq]
    have hkind : BitVec.ofNat 8 f.kind.code = (match f.kind with
      | .found => 1 | .outOfOrder => 2 | .misshelved => 3 | .statusConflict => 4 | .foreign => 5 | .missing => 6
      | .uncertain => 7 : Byte) := by cases f.kind <;> rfl
    have hconfidence : BitVec.ofNat 8 (confidenceCode f.confidence) =
        (match f.confidence with | some .firm => 0 | some .ambiguous => 1 | none => 0xFF : Byte) := by
      rcases f.confidence with _ | _ | _ <;> rfl
    rw [hkind, hconfidence]
    rfl
  · have hdirection : 16 * r.direction.code = (match r.direction with | .unknown => 0 | .forward => 16 | .reverse => 32) := by
      cases r.direction <;> rfl
    rw [Record.bytes, Summary.bytes, oneByte_eq, oneByte_eq, Summary.flags_eq, hdirection]
    rfl
  · rw [Record.bytes, oneByte_eq, oneByte_eq]
    rfl
  · have hreason : BitVec.ofNat 8 e.reason.code =
        (match e.reason with | .complete => 1 | .sweepLimit => 2 | .aborted => 3 | .restart => 4 : Byte) := by
      cases e.reason <;> rfl
    have hstate : BitVec.ofNat 8 e.stateAtEnd.code = (match e.stateAtEnd with
      | .idle => 0 | .calibrating => 1 | .preparing => 2 | .scanning => 3 | .settling => 4 | .tallying => 5 : Byte) := by
      cases e.stateAtEnd <;> rfl
    have hsource : BitVec.ofNat 8 e.source.code = (match e.source with | .frontEnds => 0 | .rehearsal => 1 : Byte) := by
      cases e.source <;> rfl
    rw [Record.bytes, PassEnd.bytes, oneByte_eq, oneByte_eq, oneByte_eq, oneByte_eq, hreason, hstate, hsource, piqCounters_eq]
    simp only [counterBytes, List.flatMap_append, List.append_assoc]
    rfl

end Sys2Proof.Machine
end

section
/-! SUPPORT. The parameters: their ranges, SET-PARAM and its effect (section 9.3). -/

namespace Sys2Proof.Machine

variable {s : State} {f : MgmtFrame} {rest : List MgmtFrame}

/-! ### The table of R169 -/

/-- The values of all parameters by ID, 0 at IDs that name no device-wide one. -/
def Params.values (q : Params) : List Nat := (List.range 27).map q.get

theorem Params.get_eq_values (q : Params) (k : Nat) : q.get k = q.values.getD k 0 := by
  obtain hk | hk := Nat.lt_or_ge k 27
  · rw [Params.values, List.getD_eq_getElem?_getD, List.getElem?_map, List.getElem?_range hk]
    rfl
  · obtain ⟨n, rfl⟩ := Nat.exists_eq_add_of_le' hk
    rw [List.getD_eq_default _ _ (by simp [Params.values])]
    rfl

theorem Assign.code_of_lt {v : Nat} (h : v < 3) : ∃ g : Assign, v = g.code := by
  interval_cases v
  · exact ⟨.a, rfl⟩
  · exact ⟨.b, rfl⟩
  · exact ⟨.off, rfl⟩

/-- A parameter set changes its own value alone, the high mark apart, which lowers the low mark. -/
theorem Params.values_set {q : Params} {id v : Nat} (hlow : 1 ≤ id) (hhigh : id ≤ 26) (hport : id ∉ [6, 7])
    (hv : v ≤ (paramRange q id).2) :
    (q.set id v).values = (if id = 21 then q.values.set 22 (min q.lowMark (v - 16)) else q.values).set id v := by
  have hbinary (hv : v ≤ 1) : v = 0 ∨ v = 1 := by omega
  by_cases henum : id ∈ [3, 4, 5, 26]
  · simp only [List.mem_cons, List.not_mem_nil, or_false] at henum
    obtain rfl | rfl | rfl | rfl := henum
    · obtain ⟨g, rfl⟩ := Assign.code_of_lt (Nat.lt_succ_of_le hv)
      cases g <;> rfl
    · obtain ⟨g, rfl⟩ := Assign.code_of_lt (Nat.lt_succ_of_le hv)
      cases g <;> rfl
    · obtain rfl | rfl := hbinary hv
      · rfl
      · rfl
    · obtain rfl | rfl := hbinary hv
      · rfl
      · rfl
  · simp only [List.mem_cons, List.not_mem_nil, or_false, not_or] at henum hport
    obtain rfl | rfl | ⟨hmore, hless⟩ : id = 1 ∨ id = 2 ∨ 8 ≤ id ∧ id ≤ 25 := by omega
    · rfl
    · rfl
    · interval_cases id <;> rfl

/-! ### The tests of R169 -/

theorem isPerPort_iff (id : Nat) : isPerPort id = true ↔ id = 6 ∨ id = 7 := by simp [isPerPort]

theorem selectedPorts_isSome (selector : Nat) : (selectedPorts selector).isSome = true ↔ selector < 16 ∨ selector = 255 := by
  unfold selectedPorts
  split
  next h => simp [h]
  next h => split <;> simp_all

theorem paramNamed_iff (id selector : Nat) : paramNamed id selector = true ↔
    1 ≤ id ∧ id ≤ 26 ∧ (id = 6 ∨ id = 7 → selector < 16 ∨ selector = 255) := by
  rw [← isPerPort_iff, ← selectedPorts_isSome, paramNamed]
  have hcount : Config.parameterCount = 26 := rfl
  cases isPerPort id <;> simp [and_assoc, hcount]

theorem namedValues_eq (id : Nat) :
    namedValues id = if id ∈ [3, 4] then some 3 else if id ∈ [5, 6, 7, 26] then some 2 else none := by
  unfold namedValues
  split <;> simp_all

theorem valueNamed_iff (id v : Nat) : valueNamed id v = true ↔ (id ∈ [3, 4] → v < 3) ∧ (id ∈ [5, 6, 7, 26] → v < 2) := by
  rw [valueNamed, namedValues_eq]
  by_cases hthree : id ∈ [3, 4]
  · have hnot : id ∉ [5, 6, 7, 26] := by
      simp only [List.mem_cons, List.not_mem_nil, or_false] at hthree ⊢
      omega
    simp [hthree, hnot]
  · by_cases htwo : id ∈ [5, 6, 7, 26]
    · simp [hthree, htwo]
    · simp [hthree, htwo]

/-- Tests 1 to 3 of R169. -/
theorem named_iff (id selector v : Nat) : (paramNamed id selector = true ∧ valueNamed id v = true) ↔
    1 ≤ id ∧ id ≤ 26 ∧ (id = 6 ∨ id = 7 → selector < 16 ∨ selector = 255) ∧ (id ∈ [3, 4] → v < 3) ∧
      (id ∈ [5, 6, 7, 26] → v < 2) := by
  rw [paramNamed_iff, valueNamed_iff, and_assoc, and_assoc]

theorem idleOnly_iff (id : Nat) : idleOnly id = true ↔ id ∈ [3, 4, 5] ∨ 8 ≤ id ∧ id ≤ 20 := by
  simp only [idleOnly, Bool.or_eq_true, Bool.and_eq_true, decide_eq_true_eq, List.mem_cons, List.not_mem_nil, or_false]
  omega

theorem classClash_iff (q : Params) (id v : Nat) : classClash q id v = true ↔
    id = 8 ∧ clampParam q id v = q.referenceClass ∨ id = 9 ∧ clampParam q id v = q.markerClass := by
  simp [classClash]

/-! ### The effect of a parameter (R157, R159, R169) -/

theorem State.requestHold_underway (s : State) : s.requestHold.underway = s.underway := by
  rw [State.requestHold_eq]
  rfl

theorem State.releaseHold_underway (s : State) : s.releaseHold.underway = s.underway := by
  rw [State.releaseHold_eq]
  have hstart (b : Prop) [Decidable b] (u : State) (g : Generator) :
      (if b then u.startIfActive g else u).underway = u.underway := by
    split
    · exact u.startIfActive_underway g
    · rfl
  dsimp only
  rw [hstart, hstart]
  rfl

theorem State.releaseIfLow_underway (s : State) : s.releaseIfLow.underway = s.underway := by
  unfold State.releaseIfLow
  split
  · exact s.releaseHold_underway
  · rfl

theorem State.retestHold_underway (s : State) : s.retestHold.underway = s.underway := by
  unfold State.retestHold
  split
  · exact s.requestHold_underway
  · exact s.releaseIfLow_underway

theorem State.retestHold_replies (s : State) : s.retestHold.ulp.replies = s.ulp.replies :=
  congrArg Prod.snd s.retestHold_underway

/-- A decision appends no reply. -/
theorem State.arbitrate_replies (s : State) : s.arbitrate.ulp.replies.length ≤ s.ulp.replies.length := by
  have hreport : s.sendReport.ulp.replies = s.ulp.replies :=
    congrArg Prod.snd (State.releaseIfLow_underway _)
  unfold State.arbitrate
  split
  · cases s.choice with
    | reply r => exact (List.length_tail (l := s.ulp.replies)).trans_le (Nat.sub_le _ _)
    | alert => exact le_rfl
    | report => exact (congrArg List.length hreport).le
    | nothing => exact le_rfl
  · exact le_rfl

theorem State.becomeHeld_whole (s : State) (p : Port) : s.becomeHeld p = { s with
    piq := s.piq.set p { s.piq[p] with
      queue := [], episode := false
      counters := { s.piq[p].counters with purged := sat32 s.piq[p].counters.purged s.piq[p].queue.length } }
    scu := { s.scu with ports := s.scu.ports.set p { s.scu.ports[p] with carryOver := 0 } }
    spe := { s.spe with
      stale := s.spe.stale.set p 0, woken := if s.spe.woken = some p then none else s.spe.woken }
    pam := { s.pam with ports := if s.pam.window = none then s.pam.ports
      else s.pam.ports.set p { s.pam.ports[p] with disqualified := true } } } := by
  unfold State.becomeHeld
  rw [State.disqualify_eq, State.emptyPort_eq]

/-- PAM's record of a port whose window is disqualified, when `b` holds and a window runs. -/
theorem pam_disqualified (m : Pam) (p : Port) :
    (if true = true ∧ m.window ≠ none then { m with ports := m.ports.set p { m.ports[p] with disqualified := true } } else m) =
      { m with ports := if m.window = none then m.ports else m.ports.set p { m.ports[p] with disqualified := true } } := by
  by_cases h : m.window = none
  · rw [if_neg (fun hw => hw.2 h), if_pos h]
  · rw [if_pos ⟨rfl, h⟩, if_neg h]

theorem State.setPortMode_eq (s : State) (v : Nat) (p : Port) : s.setPortParam 6 v p = { s with
    piq := s.piq.set p { s.piq[p] with mode := if v = 1 then .muted else .active }
    pam := if decide (v = 1) = true ∧ s.pam.window ≠ none then
        { s.pam with ports := s.pam.ports.set p { s.pam.ports[p] with disqualified := true } }
      else s.pam } := by
  have hset (m : PortMode) : s.modPiq p (fun q => { q with mode := m }) =
      { s with piq := s.piq.set p { s.piq[p] with mode := m } } := by
    rw [State.modPiq, modifyAt_eq_set]
    rfl
  rw [State.setPortParam, if_pos rfl]
  by_cases hv : v = 1
  · subst hv
    rw [if_pos rfl, State.setPortMode, hset, State.disqualify_eq]
    exact congrArg (fun m : Pam => { s with piq := s.piq.set p { s.piq[p] with mode := .muted }, pam := m })
      (pam_disqualified s.pam p).symm
  · rw [if_neg hv, State.setPortMode, hset, if_neg (fun h => hv (of_decide_eq_true h.1))]

theorem State.setFollows_eq (s : State) (v : Nat) (p : Port) : s.setPortParam 7 v p =
    if v = 1 ∧ s.piq[p].follows = false ∧ s.qhold = true then
      State.becomeHeld { s with piq := s.piq.set p { s.piq[p] with follows := true } } p
    else { s with piq := s.piq.set p { s.piq[p] with follows := v == 1 } } := by
  have hset : s.modPiq p (fun q => { q with follows := v == 1 }) =
      { s with piq := s.piq.set p { s.piq[p] with follows := v == 1 } } := by
    rw [State.modPiq, modifyAt_eq_set]
    rfl
  rw [State.setPortParam, if_neg (by decide), State.setFollows, hset]
  have htest : (v == 1 && !s.piq[p].follows && s.qhold) = true ↔ v = 1 ∧ s.piq[p].follows = false ∧ s.qhold = true := by
    rw [Bool.and_eq_true, Bool.and_eq_true, beq_iff_eq, Bool.not_eq_true', and_assoc]
  by_cases hnew : v = 1 ∧ s.piq[p].follows = false ∧ s.qhold = true
  · have hone : (v == 1) = true := beq_iff_eq.mpr hnew.1
    rw [if_pos hnew, if_pos (htest.mpr hnew), hone]
  · rw [if_neg hnew, if_neg (fun h => hnew (htest.mp h))]

theorem State.setPortParam_replies (s : State) (id v : Nat) (p : Port) :
    (s.setPortParam id v p).ulp.replies = s.ulp.replies := by
  by_cases hid : id = 6
  · rw [hid, State.setPortMode_eq]
  · have hseven : s.setPortParam id v p = s.setPortParam 7 v p := (if_neg hid).trans (if_neg (by decide)).symm
    rw [hseven, State.setFollows_eq]
    split
    · rw [State.becomeHeld_whole]
    · rfl

theorem State.applyParam_of_port (s : State) {id : Nat} (h : id = 6 ∨ id = 7) (selector v : Nat) :
    s.applyParam id selector v = ((selectedPorts selector).getD []).foldl (fun t p => t.setPortParam id v p) s :=
  if_pos ((isPerPort_iff id).mpr h)

/-- What a parameter set on no single port does. -/
theorem State.applyParam_of_other (s : State) {id : Nat} (h : id ∉ [6, 7]) (selector v : Nat) :
    s.applyParam id selector v =
      if id = 21 ∨ id = 22 then (s.setParams (s.params.set id v)).retestHold
      else if id = 23 ∧ v ≠ s.params.flushTime then (s.setParams (s.params.set id v)).arbitrate
      else s.setParams (s.params.set id v) := by
  refine if_neg (fun hport => h ?_)
  simpa using (isPerPort_iff id).mp hport

/-- Setting a parameter leaves room for its reply where there was room. -/
theorem State.applyParam_replies (s : State) (id selector v : Nat) :
    (s.applyParam id selector v).ulp.replies.length ≤ s.ulp.replies.length := by
  have hports (ports : List Port) (t : State) :
      (ports.foldl (fun t p => t.setPortParam id v p) t).ulp.replies = t.ulp.replies := by
    induction ports generalizing t with
    | nil => rfl
    | cons p ports ih => rw [List.foldl_cons, ih, State.setPortParam_replies]
  by_cases hport : id ∈ [6, 7]
  · rw [State.applyParam_of_port s (by simpa using hport), hports]
  · rw [State.applyParam_of_other s hport]
    split
    · exact (congrArg List.length (State.retestHold_replies _)).le
    · split
      · exact State.arbitrate_replies _
      · exact le_rfl

/-! ### SET-PARAM -/

theorem setParamFields_eq {payload : List Byte} (h : payload.length = 6) : setParamFields payload =
    some ((payload.getD 0 0).toNat, (payload.getD 1 0).toNat, natOf (payload.drop 2)) := if_pos h

/-- The first test that a SET-PARAM fails. -/
theorem State.paramRefusal_of (s : State) (id selector v : Nat) :
    (¬(paramNamed id selector = true ∧ valueNamed id v = true) → s.paramRefusal id selector v = some .badParam) ∧
    (paramNamed id selector = true → valueNamed id v = true →
      (idleOnly id = true → s.psc.state ≠ .idle → s.paramRefusal id selector v = some .badState) ∧
      ((idleOnly id = true → s.psc.state = .idle) → classClash s.params id v = true →
        s.paramRefusal id selector v = some .badParam)) := by
  unfold State.paramRefusal
  refine ⟨fun hnot => ?_, fun hnamed hvalue => ⟨fun hidle hstate => ?_, fun hidle hclash => ?_⟩⟩
  · cases hnamed : paramNamed id selector with
    | false => rfl
    | true =>
      have hvalue : valueNamed id v = false := Bool.eq_false_iff.mpr (fun h => hnot ⟨hnamed, h⟩)
      rw [if_neg (by decide), if_pos hvalue]
  · rw [hnamed, hvalue, if_neg (by decide), if_neg (by decide), if_pos ⟨hidle, hstate⟩]
  · rw [hnamed, hvalue, if_neg (by decide), if_neg (by decide), if_neg (fun h => h.2 (hidle h.1)), if_pos hclash]

/-- The dispatch of a SET-PARAM. -/
theorem exec_setParam (h : s.AtHead f rest) (hkind : f.kind = 0x21#8) :
    exec .setParam s = .next (setParamAct f (s.withMgmt rest)) := by
  have hother : s.heldBack f = false := State.heldBack_of_other s (by rw [hkind]; decide) (by rw [hkind]; decide)
    (by rw [hkind]; decide)
  exact live_dispatch h hother ((ofKind_iff kindSetParam f).mpr hkind) setParamAct

theorem setParamAct_refused {r : ResultCode} (h : s.AtHead f rest) (hlen : f.payload.length = 6)
    (hr : s.paramRefusal (f.payload.getD 0 0).toNat (f.payload.getD 1 0).toNat (natOf (f.payload.drop 2)) = some r) :
    setParamAct f (s.withMgmt rest) = s.answered f rest r [] := by
  have hr : (s.withMgmt rest).paramRefusal (f.payload.getD 0 0).toNat (f.payload.getD 1 0).toNat
      (natOf (f.payload.drop 2)) = some r := hr
  rw [setParamAct, setParamFields_eq hlen]
  dsimp only
  rw [hr]
  exact State.refuse_withMgmt h r

theorem setParamAct_taken (h : s.AtHead f rest) (hlen : f.payload.length = 6)
    (hr : s.paramRefusal (f.payload.getD 0 0).toNat (f.payload.getD 1 0).toNat (natOf (f.payload.drop 2)) = none) :
    let id := (f.payload.getD 0 0).toNat
    let selector := (f.payload.getD 1 0).toNat
    let v := natOf (f.payload.drop 2)
    let t := (s.withMgmt rest).applyParam id selector (clampParam s.params id v)
    setParamAct f (s.withMgmt rest) = t.withReply f (if clampParam s.params id v = v then .done else .clamped)
      (setParamPayload t.params id selector (clampParam s.params id v)) := by
  have hr : (s.withMgmt rest).paramRefusal (f.payload.getD 0 0).toNat (f.payload.getD 1 0).toNat
      (natOf (f.payload.drop 2)) = none := hr
  rw [setParamAct, setParamFields_eq hlen]
  dsimp only
  rw [hr]
  have hroom (id selector v : Nat) : ((s.withMgmt rest).applyParam id selector v).ulp.replies.length < 8 :=
    (State.applyParam_replies (s.withMgmt rest) id selector v).trans_lt h.2.2.2
  exact State.reply_of_room (hroom _ _ _) f _ _

/-- Settles O48. -/
theorem parametersAreSet : Obligations.ParametersAreSet := by
  refine ⟨fun s f rest h hkind => ?_, fun q => ⟨rfl, fun id v hlow hhigh hport hmin hmax => ⟨?_, fun k hk hlowMark => ?_⟩⟩,
    fun q => ⟨?_, fun g => ⟨?_, ?_⟩, rfl, rfl, fun b => ?_, fun v => ⟨⟨rfl, rfl, rfl, rfl, rfl, rfl, rfl, rfl, rfl, rfl⟩,
      ⟨rfl, rfl, rfl, rfl, rfl, rfl, rfl, rfl, rfl, rfl⟩⟩⟩,
    fun s id selector v => ⟨fun hid => ?_, fun hid hv => ?_, fun hid hv => ?_, fun hid => ?_, fun hid => ?_,
      fun hid => ⟨fun p => ?_, ?_⟩, fun p => ⟨s.setPortMode_eq v p, fun hnew => ?_, fun hnew => ?_⟩⟩⟩
  · have hexec := exec_setParam h hkind
    obtain ⟨hunnamed, htests⟩ :=
      s.paramRefusal_of (f.payload.getD 0 0).toNat (f.payload.getD 1 0).toNat (natOf (f.payload.drop 2))
    rw [hexec]
    dsimp only
    have hnamed := named_iff (f.payload.getD 0 0).toNat (f.payload.getD 1 0).toNat (natOf (f.payload.drop 2))
    have hclash := classClash_iff s.params (f.payload.getD 0 0).toNat (natOf (f.payload.drop 2))
    rw [← hnamed, ← idleOnly_iff]
    refine ⟨fun hbad => ?_, fun hlen hname hidle hstate => ?_, fun hlen hname hidle hbad => ?_, fun hlen hname hidle hgood => ?_⟩
    · by_cases hlen : f.payload.length = 6
      · exact congrArg _ (setParamAct_refused h hlen (hunnamed (hbad.resolve_left (not_not_intro hlen))))
      · rw [setParamAct, setParamFields, if_neg hlen]
        exact congrArg _ (State.refuse_withMgmt h _)
    · exact congrArg _ (setParamAct_refused h hlen ((htests hname.1 hname.2).1 hidle hstate))
    · exact congrArg _ (setParamAct_refused h hlen ((htests hname.1 hname.2).2 hidle (hclash.mpr hbad)))
    · have hnone := (s.paramRefusal_eq_none_iff _ _ _).mpr
        ⟨hname.1, hname.2, hidle, Bool.eq_false_iff.mpr (fun hc => hgood (hclash.mp hc))⟩
      exact congrArg _ (setParamAct_taken h hlen hnone)
  · rw [Params.get_eq_values, Params.values_set hlow hhigh hport hmax, List.getD_eq_getElem?_getD, List.getElem?_set_self]
    · rfl
    · split <;> simp [Params.values] <;> omega
  · rw [Params.get_eq_values, Params.get_eq_values q, Params.values_set hlow hhigh hport hmax, List.getD_eq_getElem?_getD,
      List.getD_eq_getElem?_getD, List.getElem?_set_ne (Ne.symm hk)]
    split
    next hid => rw [List.getElem?_set_ne (fun h => hlowMark ⟨hid, h.symm⟩)]
    next => rfl
  · have hyes : (if q.activityReporting then 1 else 0) = q.activityReporting.toNat := by cases q.activityReporting <;> rfl
    dsimp only
    rw [hyes]
    rfl
  · cases g <;> rfl
  · cases g <;> rfl
  · cases b <;> rfl
  · simp only [List.mem_cons, List.not_mem_nil, or_false, not_or] at hid
    rw [State.applyParam_of_other s (by simp [hid.1, hid.2.1]), if_neg (by simp [hid]), if_neg (by simp [hid])]
    rfl
  · subst hid hv
    rw [State.applyParam_of_other s (by decide), if_neg (by decide), if_neg (fun h => h.2 rfl)]
    rfl
  · subst hid
    rw [State.applyParam_of_other s (by decide), if_neg (by decide), if_pos ⟨rfl, hv⟩]
    rfl
  · subst hid
    rw [State.applyParam_of_other s (by decide), if_pos (.inl rfl)]
    rfl
  · subst hid
    rw [State.applyParam_of_other s (by decide), if_pos (.inr rfl)]
    rfl
  · have hone : selectedPorts p.val = some [p] := dif_pos p.isLt
    rw [State.applyParam_of_port s hid, hone]
    rfl
  · rw [State.applyParam_of_port s hid, finRange_eq_allPorts]
    rfl
  · exact (s.setFollows_eq v p).trans (if_neg hnew)
  · rw [s.setFollows_eq v p, if_pos hnew, State.becomeHeld_whole]
    have hport (q : PortQueue) : (s.piq.set p q)[p] = q := Vector.getElem_set_self _
    have hset (q r : PortQueue) : (s.piq.set p q).set p r = s.piq.set p r := Vector.set_set _ _
    dsimp only
    rw [hport, hset, pam_disqualified]
    rfl

end Sys2Proof.Machine
end

section
/-! SUPPORT. The exchanges that read the device: IDENTIFY, GET-PARAM and READ-STATUS (sections 9.2 to 9.4 and 11.4). -/

namespace Sys2Proof.Machine

variable {s : State} {f : MgmtFrame} {rest : List MgmtFrame}

/-! ### Encodings (section 11.4) -/

theorem flagByte_eq (b : Bool) : flagByte b = bytesOf 1 b.toNat := by cases b <;> rfl

theorem orAbsent_four (x : Option Nat) : optional4 x = orAbsent 4 x := by cases x <;> rfl

theorem orAbsent_section (x : Option SectionId) : sectionBytes x = orAbsent 2 x := by cases x <;> rfl

theorem orAbsent_mean (x : Option Nat) : meanBytes x = orAbsent 2 x := by cases x <;> rfl

theorem codeOrAbsent_eq (t : Option TagCode) : optionalTag t = codeOrAbsent t := by
  cases t with
  | none => rfl
  | some t =>
    have hone : bytesOf 1 (some t).isSome.toNat = [1] := by rw [Option.isSome_some]; decide
    rw [codeOrAbsent, hone]
    rfl

theorem PassState.codeIn_eq (x : PassState) :
    oneByte x.code = codeIn [.idle, .calibrating, .preparing, .scanning, .settling, .tallying] x := by cases x <;> rfl

theorem PassSource.codeIn_eq (x : PassSource) : oneByte x.code = codeIn [.frontEnds, .rehearsal] x := by cases x <;> rfl

theorem EndReason.codeIn_eq (x : Option EndReason) :
    oneByte (endReasonCode x) = codeIn [none, some .complete, some .sweepLimit] x := by rcases x with _ | _ | _ <;> rfl

theorem SettleStage.codeIn_eq (x : SettleStage) : oneByte x.code = codeIn [.draining, .placing, .closingAll] x := by
  cases x <;> rfl

theorem RunState.codeIn_eq (x : RunState) : oneByte x.code = codeIn [.stopped, .running, .held] x := by cases x <;> rfl

theorem Assign.codeIn_eq (x : Assign) : oneByte x.code = codeIn [.a, .b, .off] x := by cases x <;> rfl

theorem SweepMode.codeIn_eq (x : SweepMode) : oneByte x.code = codeIn [.free, .interleaved] x := by cases x <;> rfl

theorem PortMode.codeIn_eq (x : PortMode) : oneByte x.code = codeIn [.active, .muted] x := by cases x <;> rfl

theorem Direction.codeIn_eq (x : Direction) : oneByte x.code = codeIn [.unknown, .forward, .reverse] x := by
  cases x <;> rfl

theorem CalStatus.codeIn_eq (x : CalStatus) : oneByte x.code = codeIn [.notRun, .ok, .clamped, .failed] x := by
  cases x <;> rfl

theorem Rx.code_eq (x : Rx) : x.code = if x = .hunting then 0 else 1 := by cases x <;> rfl

/-! ### The groups of READ-STATUS (R173 to R176) -/

theorem State.passGroup_eq (s : State) : s.passGroup = [
    codeIn [.idle, .calibrating, .preparing, .scanning, .settling, .tallying] s.psc.state,
    codeIn [.frontEnds, .rehearsal] s.psc.source, bytesOf 1 s.psc.verbose.toNat, bytesOf 4 s.psc.clock,
    codeIn [none, some .complete, some .sweepLimit] s.psc.endReason,
    codeIn [.draining, .placing, .closingAll] s.psc.stage, bytesOf 4 s.psc.tallyPosition,
    [s.swg.genA.count, s.swg.genB.count].flatMap (bytesOf 4), codeIn [.stopped, .running, .held] s.swg.genA.run,
    codeIn [.stopped, .running, .held] s.swg.genB.run, orAbsent 4 s.swg.lastB,
    codeIn [.a, .b, .off] s.swg.runLeft, codeIn [.a, .b, .off] s.swg.runRight, codeIn [.free, .interleaved] s.swg.runMode,
    bytesOf 1 s.ulp.hold.toNat, bytesOf 1 s.ulp.paused.toNat, bytesOf 1 s.qhold.toNat,
    [s.tst.holdings.length, s.tst.sections.length].flatMap (bytesOf 4),
    [Mark.unseen, .sighted, .placed, .disposed].flatMap (fun k => bytesOf 4 (s.tst.holdings.countP (fun h => h.mark = k))),
    [s.spe.table.countP (fun w => w.placement.isSome == false),
      s.spe.table.countP (fun w => w.placement.isSome == true)].flatMap (bytesOf 4),
    [s.sru.openList.length, s.sru.openList.countP (fun o => o.stage = .closing)].flatMap (bytesOf 4),
    [s.psc.counters.expectedTotal, s.psc.counters.unmapped].flatMap (bytesOf 4),
    [s.ulp.mgmt.length, s.ulp.replies.length, s.ulp.reports.length, s.ulp.alerts.length].flatMap (bytesOf 4),
    bytesOf 1 s.scu.calPass.toNat].flatten := by
  have hunplaced : s.spe.table.countP (fun w => w.placement.isSome == false) =
      s.spe.table.countP (fun e => e.placement.isNone) := List.countP_congr (fun w _ => by cases w.placement <;> simp)
  have hplaced : s.spe.table.countP (fun w => w.placement.isSome == true) =
      s.spe.table.countP (fun e => e.placement.isSome) := List.countP_congr (fun w _ => by cases w.placement <;> simp)
  have hmarks (m : Mark) : markTally s.tst.holdings m = s.tst.holdings.countP (fun h => h.mark = m) := rfl
  have hclosing : s.sru.openList.countP (fun o => o.stage == .closing) =
      s.sru.openList.countP (fun o => o.stage = .closing) := rfl
  rw [hunplaced, hplaced, ← hclosing]
  simp only [← hmarks]
  delta State.passGroup
  simp only [PassState.codeIn_eq, PassSource.codeIn_eq, EndReason.codeIn_eq, SettleStage.codeIn_eq,
    RunState.codeIn_eq, Assign.codeIn_eq, SweepMode.codeIn_eq, flagByte_eq, orAbsent_four, count4,
    List.flatten_cons, List.flatten_nil, List.flatMap_cons, List.flatMap_nil, List.append_nil, List.append_assoc]

theorem State.portRecord_eq (s : State) (p : Port) : s.portRecord p = [
    bytesOf 4 s.piq[p].queue.length, codeIn [.active, .muted] s.piq[p].mode, bytesOf 1 s.piq[p].follows.toNat,
    bytesOf 1 s.piq[p].episode.toNat, bytesOf 1 (s.qhold && s.piq[p].follows).toNat,
    [s.piq[p].counters.entered, s.piq[p].counters.overflowDrops, s.piq[p].counters.heldDrops,
      s.piq[p].counters.purged].flatMap (bytesOf 4),
    orAbsent 2 s.mfu.ports[p].facing, bytesOf 2 s.mfu.ports[p].transit, bytesOf 1 s.mfu.ports[p].stalled.toNat,
    codeIn [.unknown, .forward, .reverse] s.mfu.ports[p].lastMove,
    [BitVec.ofInt 8 s.scu.ports[p].offset], bytesOf 2 s.scu.ports[p].gain,
    bytesOf 1 s.pam.ports[p].silent.toNat,
    [s.pam.ports[p].empty, s.pam.ports[p].reads, s.pam.ports[p].hot].flatMap (bytesOf 4)].flatten := by
  simp only [State.portRecord, PortMode.codeIn_eq, Direction.codeIn_eq, flagByte_eq, orAbsent_section, count4, counterBytes,
    PiqCounters.toList, State.portHeld, List.flatten_cons, List.flatten_nil, List.flatMap_cons, List.flatMap_nil, List.append_nil,
    List.append_assoc]

theorem ScuPort.statusBytes_eq (c : ScuPort) : c.statusBytes = [
    codeIn [.notRun, .ok, .clamped, .failed] c.status, [BitVec.ofInt 8 c.offset], bytesOf 2 c.gain, bytesOf 4 c.last.nearCount,
    orAbsent 2 c.last.nearMean, bytesOf 4 c.last.farCount, orAbsent 2 c.last.farMean].flatten := by
  simp only [ScuPort.statusBytes, CalStatus.codeIn_eq, orAbsent_mean, count4, List.flatten_cons, List.flatten_nil,
    List.append_nil, List.append_assoc]

theorem ScuPort.runBytes_eq (b : Bool) (c : ScuPort) : c.runBytes b =
    [c.nearSum, c.nearCount, c.farSum, c.farCount, c.carryOver].flatMap (fun k => orAbsent 4 (if b then some k else none)) := by
  simp only [ScuPort.runBytes, orAbsent_four, shownIf]

theorem State.countersGroup_eq (s : State) : s.countersGroup =
    (s.mfu.counters.toList ++ s.spe.counters.toList ++ s.sru.counters.toList ++ s.psc.counters.toList).flatMap (bytesOf 4) := rfl

theorem State.calibrationGroup_eq (s : State) : s.calibrationGroup =
    bytesOf 1 s.scu.calPass.toNat ++
      [s.scu.tallyCarryOver, s.scu.tallyNonReference, s.scu.tallyOtherReference, s.scu.tallyOverCount].flatMap (bytesOf 4) ++
      (List.finRange 16).flatMap (fun p : Port => [
        codeIn [.notRun, .ok, .clamped, .failed] s.scu.ports[p].status, [BitVec.ofInt 8 s.scu.ports[p].offset],
        bytesOf 2 s.scu.ports[p].gain, bytesOf 4 s.scu.ports[p].last.nearCount, orAbsent 2 s.scu.ports[p].last.nearMean,
        bytesOf 4 s.scu.ports[p].last.farCount, orAbsent 2 s.scu.ports[p].last.farMean].flatten) ++
      codeOrAbsent (if s.psc.state = .calibrating then s.scu.nearTag else none) ++
      codeOrAbsent (if s.psc.state = .calibrating then s.scu.farTag else none) ++
      (List.finRange 16).flatMap (fun p : Port =>
        [s.scu.ports[p].nearSum, s.scu.ports[p].nearCount, s.scu.ports[p].farSum, s.scu.ports[p].farCount,
          s.scu.ports[p].carryOver].flatMap (fun k => orAbsent 4 (if s.psc.state = .calibrating then some k else none))) := by
  have htallies : [s.scu.tallyCarryOver, s.scu.tallyNonReference, s.scu.tallyOtherReference,
      s.scu.tallyOverCount].flatMap (bytesOf 4) = bytesOf 4 s.scu.tallyCarryOver ++ (bytesOf 4 s.scu.tallyNonReference ++
        (bytesOf 4 s.scu.tallyOtherReference ++ bytesOf 4 s.scu.tallyOverCount)) := by
    simp only [List.flatMap_cons, List.flatMap_nil, List.append_nil]
  have hrun (p : Port) : s.scu.ports[p].runBytes (s.psc.state == .calibrating) =
      [s.scu.ports[p].nearSum, s.scu.ports[p].nearCount, s.scu.ports[p].farSum, s.scu.ports[p].farCount,
        s.scu.ports[p].carryOver].flatMap (fun k => orAbsent 4 (if s.psc.state = .calibrating then some k else none)) := by
    rw [ScuPort.runBytes_eq]
    simp only [beq_iff_eq]
  rw [htallies, finRange_eq_allPorts]
  unfold State.calibrationGroup
  simp only [flagByte_eq, ScuPort.statusBytes_eq, hrun, codeOrAbsent_eq, count4, beq_iff_eq, List.append_assoc]

theorem State.linksGroup_eq (s : State) : s.linksGroup =
    (List.finRange 4).flatMap (fun l : Link =>
      [s.links[l].goodFrames, s.links[l].badFrames, s.links[l].ignoredReads, s.links[l].sweepsSent,
        s.links[l].superseded].flatMap (bytesOf 4) ++ bytesOf 1 s.links[l].errorLatch.toNat ++
        bytesOf 1 (if s.links[l].rx = .hunting then 0 else 1)) ++
      [s.ulp.counters.goodFrames, s.ulp.counters.badLength, s.ulp.counters.badCrc, s.ulp.counters.mgmtOverrun,
        s.ulp.counters.replyLost, s.ulp.counters.activityDropped, s.ulp.counters.holdEpisodes, s.ulp.counters.sentFrames,
        s.ulp.counters.recordsSent].flatMap (bytesOf 4) ++ bytesOf 1 s.ulp.frameNumber := by
  have hlinks : List.finRange 4 = allLinks := by decide
  have hlink (l : Link) : counterBytes s.links[l].counters ++ flagByte s.links[l].errorLatch ++
      oneByte s.links[l].rx.code = [s.links[l].goodFrames, s.links[l].badFrames, s.links[l].ignoredReads,
        s.links[l].sweepsSent, s.links[l].superseded].flatMap (bytesOf 4) ++ bytesOf 1 s.links[l].errorLatch.toNat ++
        bytesOf 1 (if s.links[l].rx = .hunting then 0 else 1) := by
    rw [flagByte_eq, Rx.code_eq]
    rfl
  rw [hlinks, ← List.flatMap_congr (fun l _ => hlink l)]
  rfl

/-! ### READ-STATUS -/

theorem State.heldBack_of_kind {k : Byte} (s : State) (hkind : f.kind = k) (hk : k ≠ 0x28#8 ∧ k ≠ 0x29#8 ∧ k ≠ 0x2A#8) :
    s.heldBack f = false :=
  State.heldBack_of_other s (by rw [hkind]; exact hk.2.1) (by rw [hkind]; exact hk.2.2) (by rw [hkind]; exact hk.1)

theorem statusGroup_eq_none {payload : List Byte}
    (h : payload.length ≠ 1 ∨ (payload.getD 0 0).toNat = 0 ∨ 5 < (payload.getD 0 0).toNat) : statusGroup payload = none := by
  unfold statusGroup
  split
  next hlen =>
    obtain hzero | hmore : (payload.getD 0 0).toNat = 0 ∨ 5 < (payload.getD 0 0).toNat := h.resolve_left (not_not_intro hlen)
    · rw [hzero]
      rfl
    · obtain ⟨n, hn⟩ := Nat.exists_eq_add_of_le' (Nat.succ_le_of_lt hmore)
      rw [hn]
      rfl
  next => rfl

theorem isStatusOf_iff (g : StatusGroup) (f : MgmtFrame) : isStatusOf g f = true ↔
    f.kind = 0x23#8 ∧ (statusGroup f.payload = some g ∨ statusGroup f.payload = none) := by
  rw [isStatusOf, Bool.and_eq_true, ofKind_iff, Bool.or_eq_true, beq_iff_eq, beq_iff_eq]
  rfl

/-- The two answers of one of the five READ-STATUS commands. -/
theorem readStatus_answers (h : s.AtHead f rest) (hkind : f.kind = 0x23#8) {c : Instr} {g : StatusGroup} {n : Nat}
    {payload : List Byte} (hc : exec c s = live s (readStatusStep g)) (hn : statusGroup [BitVec.ofNat 8 n] = some g)
    (hp : (s.withMgmt rest).group g = payload) :
    (f.payload = [BitVec.ofNat 8 n] → exec c s = .next (s.answered f rest .done payload)) ∧
    (f.payload.length ≠ 1 ∨ (f.payload.getD 0 0).toNat = 0 ∨ 5 < (f.payload.getD 0 0).toNat →
      exec c s = .next (s.answered f rest .badParam [])) := by
  have hother : s.heldBack f = false := s.heldBack_of_kind hkind (by decide)
  refine ⟨fun hpayload => ?_, fun hbad => ?_⟩
  · have hg : statusGroup f.payload = some g := by rw [hpayload, hn]
    have hact : readStatusAct f (s.withMgmt rest) = s.answered f rest .done payload := by
      rw [readStatusAct, hg]
      dsimp only
      rw [hp]
      exact State.reply_withMgmt h _ _
    rw [hc, ← hact]
    exact live_dispatch h hother ((isStatusOf_iff g f).mpr ⟨hkind, .inl hg⟩) readStatusAct
  · have hg : statusGroup f.payload = none := statusGroup_eq_none hbad
    have hact : readStatusAct f (s.withMgmt rest) = s.answered f rest .badParam [] := by
      rw [readStatusAct, hg]
      exact State.refuse_withMgmt h _
    rw [hc, ← hact]
    exact live_dispatch h hother ((isStatusOf_iff g f).mpr ⟨hkind, .inr hg⟩) readStatusAct

/-! ### GET-PARAM (R171) -/

theorem exec_getParam (h : s.AtHead f rest) (hkind : f.kind = 0x22#8) :
    exec .getParam s = .next (getParamAct f (s.withMgmt rest)) :=
  live_dispatch h (s.heldBack_of_kind hkind (by decide)) ((ofKind_iff kindGetParam f).mpr hkind) getParamAct

theorem getParamAct_named (h : s.AtHead f rest) (hlen : f.payload.length = 2)
    (hnamed : paramNamed (f.payload.getD 0 0).toNat (f.payload.getD 1 0).toNat = true) {values : List Nat}
    (hv : s.paramValues (f.payload.getD 0 0).toNat (f.payload.getD 1 0).toNat = values) :
    getParamAct f (s.withMgmt rest) = s.answered f rest .done
      (bytesOf 1 (f.payload.getD 0 0).toNat ++ bytesOf 1 (f.payload.getD 1 0).toNat ++ values.flatMap (bytesOf 4)) := by
  have hv : (s.withMgmt rest).paramValues (f.payload.getD 0 0).toNat (f.payload.getD 1 0).toNat = values := hv
  rw [getParamAct, getParamFields, if_pos hlen]
  dsimp only
  rw [if_pos hnamed, hv]
  exact State.reply_withMgmt h _ _

theorem getParamAct_refused (h : s.AtHead f rest) (hnot : ¬(f.payload.length = 2 ∧
    paramNamed (f.payload.getD 0 0).toNat (f.payload.getD 1 0).toNat = true)) :
    getParamAct f (s.withMgmt rest) = s.answered f rest .badParam [] := by
  rw [getParamAct, getParamFields]
  by_cases hlen : f.payload.length = 2
  · rw [if_pos hlen]
    exact (if_neg (fun hnamed => hnot ⟨hlen, hnamed⟩)).trans (State.refuse_withMgmt h _)
  · rw [if_neg hlen]
    exact State.refuse_withMgmt h _

/-- Settles O49. -/
theorem snapshotsAreAnswered : Obligations.SnapshotsAreAnswered := by
  intro s f rest h
  refine ⟨fun hkind => ?_, fun hkind => ?_, fun hkind => ⟨?_, ?_, ?_, ?_, ?_⟩, fun hkind => ?_⟩
  · have hexec : exec .identify s = .next (identifyAct f (s.withMgmt rest)) :=
      live_dispatch h (s.heldBack_of_kind hkind (by decide)) ((ofKind_iff kindIdentify f).mpr hkind) identifyAct
    refine ⟨fun hempty => ?_, fun hfull => ?_⟩
    · refine hexec.trans (congrArg _ ?_)
      rw [identifyAct, if_pos hempty]
      exact State.reply_withMgmt h _ _
    · refine hexec.trans (congrArg _ ?_)
      rw [identifyAct, if_neg hfull]
      exact State.refuse_withMgmt h _
  · dsimp only
    rw [← paramNamed_iff]
    refine ⟨fun hnot => ?_, fun hnamed hport => ?_, fun hnamed hport hall => ?_, fun p hnamed hport hp => ?_⟩
    · exact (exec_getParam h hkind).trans (congrArg _ (getParamAct_refused h hnot))
    · have hv : s.paramValues (f.payload.getD 0 0).toNat (f.payload.getD 1 0).toNat =
          [s.params.get (f.payload.getD 0 0).toNat] := if_neg (fun hp => hport ((isPerPort_iff _).mp hp))
      rw [exec_getParam h hkind, getParamAct_named h hnamed.1 hnamed.2 hv, List.flatMap_singleton]
    · have hv : s.paramValues (f.payload.getD 0 0).toNat (f.payload.getD 1 0).toNat =
          allPorts.map (s.portValue (f.payload.getD 0 0).toNat) := by
        rw [State.paramValues, if_pos ((isPerPort_iff _).mpr hport), hall]
        rfl
      rw [exec_getParam h hkind, getParamAct_named h hnamed.1 hnamed.2 hv, List.flatMap_map, finRange_eq_allPorts]
      rfl
    · have hv : s.paramValues (f.payload.getD 0 0).toNat (f.payload.getD 1 0).toNat =
          [s.portValue (f.payload.getD 0 0).toNat p] := by
        have hone : selectedPorts p.val = some [p] := dif_pos p.isLt
        rw [State.paramValues, if_pos ((isPerPort_iff _).mpr hport), hp, hone]
        rfl
      rw [exec_getParam h hkind, getParamAct_named h hnamed.1 hnamed.2 hv, List.flatMap_singleton]
      rfl
  · exact readStatus_answers h hkind (g := .pass) rfl rfl (State.passGroup_eq _)
  · refine readStatus_answers h hkind (g := .ports) rfl rfl ?_
    rw [finRange_eq_allPorts]
    exact List.flatMap_congr (fun p _ => State.portRecord_eq _ p)
  · exact readStatus_answers h hkind (g := .calibration) rfl rfl (State.calibrationGroup_eq _)
  · exact readStatus_answers h hkind (g := .counters) rfl rfl (State.countersGroup_eq _)
  · exact readStatus_answers h hkind (g := .links) rfl rfl (State.linksGroup_eq _)
  · have hout (k : Byte) (hk : 0x20 ≤ k.toNat ∧ k.toNat ≤ 0x2B) : f.kind ≠ k := fun hf => by
      rw [hf] at hkind
      omega
    have hother : s.heldBack f = false :=
      State.heldBack_of_other s (hout _ (by decide)) (hout _ (by decide)) (hout _ (by decide))
    have hunknown : (!kindKnown f.kind) = true := by
      rw [kindKnown, Bool.not_eq_true', Bool.and_eq_false_iff, decide_eq_false_iff_not, decide_eq_false_iff_not]
      omega
    have hact : badKindAct f (s.withMgmt rest) = s.answered f rest .badKind [f.kind] := State.reply_withMgmt h _ _
    exact (live_dispatch h hother hunknown badKindAct).trans (congrArg _ hact)

end Sys2Proof.Machine
end

section
/-! SUPPORT. Loading and clearing the tables (sections 4.3 and 11.3). -/

namespace Sys2Proof.Machine

variable {s : State} {f : MgmtFrame} {rest : List MgmtFrame}

/-! ### A block stored (R64, R66) -/

/-- A block is stored up to its first record that fails its test, each record tested against the table behind those before it. -/
theorem storeBlock_spec {ρ α : Type} (test : List α → ρ → Except ResultCode α) (block : List ρ) (table : List α) (n : Nat) :
    ∃ stored, (storeBlock test table block n).1 = table ++ stored ∧
      (storeBlock test table block n).2.1 = n + stored.length ∧ stored.length ≤ block.length ∧
      (∀ k y, stored[k]? = some y → ∃ r, block[k]? = some r ∧ test (table ++ stored.take k) r = .ok y) ∧
      (∀ r, block[stored.length]? = some r → test (table ++ stored) r = .error (storeBlock test table block n).2.2) ∧
      (stored.length = block.length → (storeBlock test table block n).2.2 = .done) := by
  induction block generalizing table n with
  | nil =>
    exact ⟨[], (List.append_nil table).symm, rfl, le_rfl, fun k y hy => absurd hy (by simp), fun r hr => absurd hr (by simp),
      fun _ => rfl⟩
  | cons r block ih =>
    cases htest : test table r with
    | error code =>
      have hstop : storeBlock test table (r :: block) n = (table, n, code) := by rw [storeBlock, htest]
      rw [hstop]
      refine ⟨[], (List.append_nil table).symm, rfl, Nat.zero_le _, fun k y hy => absurd hy (by simp), fun r' hr => ?_,
        fun hlen => absurd hlen (by simp)⟩
      have hr : r = r' := by simpa using hr
      rw [List.append_nil, ← hr, htest]
    | ok x =>
      have hgo : storeBlock test table (r :: block) n = storeBlock test (table ++ [x]) block (n + 1) := by
        rw [storeBlock, htest]
      obtain ⟨stored, htable, hcount, hlen, hstored, hfails, hdone⟩ := ih (table ++ [x]) (n + 1)
      rw [hgo]
      refine ⟨x :: stored, htable.trans (List.append_assoc _ _ _), ?_, Nat.succ_le_succ hlen, fun k y hy => ?_, fun r' hr => ?_,
        fun h => hdone (Nat.succ.inj h)⟩
      · rw [hcount, List.length_cons]
        omega
      · cases k with
        | zero =>
          have hy : x = y := by simpa using hy
          exact ⟨r, rfl, by rw [List.take_zero, List.append_nil, htest, hy]⟩
        | succ k =>
          obtain ⟨r', hr, hok⟩ := hstored k y hy
          refine ⟨r', hr, ?_⟩
          rw [List.take_succ_cons, ← hok, List.append_assoc]
          rfl
      · rw [← hfails r' hr, List.append_assoc]
        rfl

/-! ### The tests of a record -/

theorem testHolding_special {q : Params} {r : RawHolding} (table : List Holding)
    (h : tagClass r.tag = q.markerClass ∨ tagClass r.tag = q.referenceClass) : testHolding q table r = .error .badClass := if_pos h

theorem testHolding_unnamed {q : Params} {r : RawHolding} (table : List Holding)
    (h : ¬(tagClass r.tag = q.markerClass ∨ tagClass r.tag = q.referenceClass)) (hstatus : statusOf r.status = none) :
    testHolding q table r = .error .badStatus := by
  rw [testHolding, if_neg h, hstatus]

theorem testHolding_named {q : Params} {r : RawHolding} (table : List Holding) {status : ItemStatus}
    (h : ¬(tagClass r.tag = q.markerClass ∨ tagClass r.tag = q.referenceClass)) (hstatus : statusOf r.status = some status) :
    testHolding q table r =
      if 4095 < r.home then .error .badParam else if ∃ h ∈ table, h.tag = r.tag then .error .duplicate
      else if 16384 ≤ table.length then .error .tableFull else .ok ⟨r.tag, r.key, r.home, status, .unseen⟩ := by
  rw [testHolding, if_neg h, hstatus]
  exact if_congr Iff.rfl rfl (if_congr findHolding_isSome_iff rfl rfl)

theorem testSection_eq (table : List Section) (r : RawSection) : testSection table r =
    if 4095 < r.id then .error .badParam else if r.level < 1 ∨ 8 < r.level ∨ 1 < r.side then .error .badLevel
    else if ∃ y ∈ table, y.id = r.id then .error .duplicate else if 1024 ≤ table.length then .error .tableFull
    else .ok ⟨r.id, if r.side = 0 then .left else .right, r.level, 0, .unvisited, .unknown, false, false, false, false, none, []⟩ := by
  unfold testSection
  refine if_congr Iff.rfl rfl ?_
  by_cases hside : 1 < r.side
  · obtain ⟨n, hn⟩ := Nat.exists_eq_add_of_le' (Nat.succ_le_of_lt hside)
    rw [if_pos (.inr (.inr hside)), hn]
    rfl
  · have hknown : sideOf r.side = some (if r.side = 0 then .left else .right) := by
      obtain hzero | hone : r.side = 0 ∨ r.side = 1 := by omega
      · rw [hzero]; rfl
      · rw [hone]; rfl
    rw [hknown]
    exact if_congr (by simp [hside]) rfl (if_congr findSection_isSome_iff rfl rfl)

/-! ### The fields of a record (section 11.3) -/

theorem natOf_bytesOf_of_lt {k n : Nat} (h : n < 256 ^ k) : natOf (bytesOf k n) = n := by
  rw [natOf_bytesOf, Nat.mod_eq_of_lt h]

theorem rawHolding_bytes (tag : TagCode) {key home status : Nat} (hkey : key < 2 ^ 64) (hhome : home < 65536)
    (hstatus : status < 256) :
    rawHolding (bytesOf 12 tag.toNat ++ bytesOf 8 key ++ bytesOf 2 home ++ bytesOf 1 status) = ⟨tag, key, home, status⟩ := by
  have htag : tagOf (bytesOf 12 tag.toNat) = tag := by
    rw [tagOf, natOf_bytesOf_of_lt (tag.isLt.trans_eq (by norm_num)), BitVec.ofNat_toNat, BitVec.setWidth_eq]
  have hkeyBytes : natOf (bytesOf 8 key) = key := natOf_bytesOf_of_lt (hkey.trans_eq (by norm_num))
  have hhomeBytes : natOf (bytesOf 2 home) = home := natOf_bytesOf_of_lt hhome
  have hstatusByte : (BitVec.ofNat 8 status).toNat = status := Nat.mod_eq_of_lt hstatus
  have hlast : bytesOf 1 status = [BitVec.ofNat 8 status] := oneByte_eq status
  have hlength : (bytesOf 12 tag.toNat ++ bytesOf 8 key).length = 20 := by simp
  have hlength' : (bytesOf 12 tag.toNat ++ bytesOf 8 key ++ bytesOf 2 home).length = 22 := by simp
  rw [rawHolding, List.getD_append_right _ _ _ _ hlength'.le, hlength', hlast, List.append_assoc, List.drop_left' hlength,
    List.take_left' (length_bytesOf _ _), hhomeBytes, List.append_assoc, List.take_left' (length_bytesOf _ _),
    List.drop_left' (length_bytesOf _ _), List.take_left' (length_bytesOf _ _), htag, hkeyBytes]
  exact congrArg (RawHolding.mk tag key home) hstatusByte

theorem rawSection_bytes {id side level : Nat} (hid : id < 65536) (hside : side < 256) (hlevel : level < 256) :
    rawSection (bytesOf 2 id ++ bytesOf 1 side ++ bytesOf 1 level) = ⟨id, side, level⟩ := by
  have hidBytes : natOf (bytesOf 2 id) = id := natOf_bytesOf_of_lt hid
  have hsideByte : (BitVec.ofNat 8 side).toNat = side := Nat.mod_eq_of_lt hside
  have hlevelByte : (BitVec.ofNat 8 level).toNat = level := Nat.mod_eq_of_lt hlevel
  have hone (n : Nat) : bytesOf 1 n = [BitVec.ofNat 8 n] := oneByte_eq n
  rw [rawSection, List.append_assoc, List.take_left' (length_bytesOf _ _), hidBytes, hone, hone]
  exact congrArg₂ (RawSection.mk id) hsideByte hlevelByte

/-! ### The load exchanges (R63 to R66) -/

theorem chunks_eq (size n : Nat) (bytes : List Byte) :
    chunks size n bytes = (List.range n).map (fun k => (bytes.drop (k * size)).take size) := by
  induction n generalizing bytes with
  | zero => rfl
  | succ n ih =>
    rw [chunks, ih, List.range_succ_eq_map, List.map_cons, List.map_map, Nat.zero_mul, List.drop_zero]
    congr 1
    refine List.map_congr_left (fun k _ => ?_)
    rw [List.drop_drop, Function.comp_apply, Nat.succ_mul, Nat.add_comm]

theorem loadBlock_eq (size : Nat) (payload : List Byte) : loadBlock size payload =
    if payload ≠ [] ∧ payload.length = 1 + (payload.getD 0 0).toNat * size then
      some (chunks size (payload.getD 0 0).toNat (payload.drop 1)) else none := by
  cases payload with
  | nil => rfl
  | cons count bytes =>
    refine if_congr ?_ rfl rfl
    simp only [ne_eq, reduceCtorEq, not_false_eq_true, true_and, List.length_cons, List.getD_cons_zero]
    omega

/-- A load command: the shape of its frame, the pass state, the size of the block. -/
theorem load_answers (h : s.AtHead f rest) {c : Instr} {size : Nat} {hold : List (List Byte) → Exchange} {block : Exchange}
    (hexec : exec c s = .next ((s.withMgmt rest).beginLoad f size hold))
    (hblock : hold (chunks size (f.payload.getD 0 0).toNat (f.payload.drop 1)) = block) :
    let n := (f.payload.getD 0 0).toNat
    let shaped := f.payload ≠ [] ∧ f.payload.length = 1 + n * size
    (¬shaped → exec c s = .next (s.answered f rest .badParam [])) ∧
    (shaped → s.psc.state ≠ .idle → exec c s = .next (s.answered f rest .badState [])) ∧
    (shaped → s.psc.state = .idle → n = 0 ∨ 32 < n → exec c s = .next (s.answered f rest .badParam [])) ∧
    (shaped → s.psc.state = .idle → 1 ≤ n → n ≤ 32 →
      exec c s = .next { s with ulp := { s.ulp with mgmt := rest, inHand := some block } }) := by
  have hlen (n : Nat) (bytes : List Byte) : (chunks size n bytes).length = n := by
    rw [chunks_eq, List.length_map, List.length_range]
  have hsize (n : Nat) (bytes : List Byte) : chunks size n bytes = [] ∨ 32 < (chunks size n bytes).length ↔ n = 0 ∨ 32 < n := by
    rw [← List.length_eq_zero_iff, hlen]
  dsimp only
  rw [hexec, State.beginLoad, loadBlock_eq, ← hblock]
  refine ⟨fun hnot => congrArg _ ?_, fun hshaped hstate => congrArg _ ?_, fun hshaped hstate hn => congrArg _ ?_,
    fun hshaped hstate hlow hhigh => congrArg _ ?_⟩
  · rw [if_neg hnot]
    exact State.refuse_withMgmt h _
  · rw [if_pos hshaped]
    exact (if_pos hstate).trans (State.refuse_withMgmt h _)
  · rw [if_pos hshaped]
    exact (if_neg (not_not_intro hstate)).trans ((if_pos ((hsize _ _).mpr hn)).trans (State.refuse_withMgmt h _))
  · rw [if_pos hshaped]
    exact (if_neg (not_not_intro hstate)).trans (if_neg (fun hn => absurd ((hsize _ _).mp hn) (by omega)))

/-! ### CLEAR-TABLES (R67) -/

theorem clearTarget_of (payload : List Byte) (hlen : payload.length = 1) (hlow : 1 ≤ (payload.getD 0 0).toNat)
    (hhigh : (payload.getD 0 0).toNat ≤ 3) : clearTarget payload =
      some (decide ((payload.getD 0 0).toNat = 1 ∨ (payload.getD 0 0).toNat = 3),
        decide ((payload.getD 0 0).toNat = 2 ∨ (payload.getD 0 0).toNat = 3)) := by
  rw [clearTarget, if_pos hlen]
  generalize (payload.getD 0 0).toNat = n at hlow hhigh
  interval_cases n <;> rfl

theorem clearTarget_eq_none (payload : List Byte) (h : ¬(payload.length = 1 ∧ 1 ≤ (payload.getD 0 0).toNat ∧
    (payload.getD 0 0).toNat ≤ 3)) : clearTarget payload = none := by
  by_cases hlen : payload.length = 1
  · rw [clearTarget, if_pos hlen]
    obtain hzero | hmore : (payload.getD 0 0).toNat = 0 ∨ 3 < (payload.getD 0 0).toNat := by omega
    · rw [hzero]
      rfl
    · obtain ⟨n, hn⟩ := Nat.exists_eq_add_of_le' (Nat.succ_le_of_lt hmore)
      rw [hn]
      rfl
  · exact if_neg hlen

/-- Settles O51. -/
theorem tablesAreLoadedAndCleared : Obligations.TablesAreLoadedAndCleared := by
  refine ⟨fun s f rest h => ⟨fun hkind => ?_, fun hkind => ?_, fun hkind => ?_⟩, fun s tag hline => ⟨fun block hhand => ?_,
    fun block hhand => ?_⟩, fun q table r => ⟨testHolding_special table, testHolding_unnamed table,
      fun status => testHolding_named table⟩, testSection_eq,
    fun tag key home status id side level hkey hhome hstatus hid hside hlevel =>
      ⟨rawHolding_bytes tag hkey hhome hstatus, rawSection_bytes hid hside hlevel⟩,
    fun ρ α test table block => ?_⟩
  · have hexec : exec .loadHoldings s = .next (loadHoldingsAct f (s.withMgmt rest)) :=
      live_dispatch h (s.heldBack_of_kind hkind (by decide)) ((ofKind_iff kindLoadHoldings f).mpr hkind) loadHoldingsAct
    refine load_answers h hexec ?_
    rw [chunks_eq, List.map_map]
    rfl
  · have hexec : exec .loadSections s = .next (loadSectionsAct f (s.withMgmt rest)) :=
      live_dispatch h (s.heldBack_of_kind hkind (by decide)) ((ofKind_iff kindLoadSections f).mpr hkind) loadSectionsAct
    refine load_answers h hexec ?_
    rw [chunks_eq, List.map_map]
    rfl
  · have hexec : exec .clearTables s = .next (clearTablesAct f (s.withMgmt rest)) :=
      live_dispatch h (s.heldBack_of_kind hkind (by decide)) ((ofKind_iff kindClearTables f).mpr hkind) clearTablesAct
    rw [hexec]
    refine ⟨fun hnot => congrArg _ ?_, fun hshaped hstate => congrArg _ ?_, fun hshaped hstate => congrArg _ ?_⟩
    · rw [clearTablesAct, clearTarget_eq_none _ hnot]
      exact State.refuse_withMgmt h _
    · rw [clearTablesAct, clearTarget_of _ hshaped.1 hshaped.2.1 hshaped.2.2]
      exact (if_pos hstate).trans (State.refuse_withMgmt h _)
    · rw [clearTablesAct, clearTarget_of _ hshaped.1 hshaped.2.1 hshaped.2.2]
      refine (if_neg (not_not_intro hstate)).trans ?_
      simp only [decide_eq_true_eq]
      have hroom (v : Tst) : ((s.withMgmt rest).setTst v).ulp.replies.length < 8 := h.2.2.2
      exact State.reply_of_room (hroom _) f _ _
  · rw [show exec .loadComplete s = .next (loadCompleteStep s) from live_of_released hline _, loadCompleteStep, hhand]
    exact congrArg _ (State.queueReply_eq _ _)
  · rw [show exec .loadComplete s = .next (loadCompleteStep s) from live_of_released hline _, loadCompleteStep, hhand]
    exact congrArg _ (State.queueReply_eq _ _)
  · have hspec := storeBlock_spec test block table 0
    simp only [Nat.zero_add] at hspec
    exact hspec

end Sys2Proof.Machine
end

section
/-! SUPPORT. The sighting table by its entries: what is kept when one is changed, taken out or put in (R82, R83, R97). -/

namespace Sys2Proof.Machine

variable {s t : State} {table : List Sighting} {v e : Sighting} {k : Nat}

/-! ### The invariant of the table -/

/-- The table alone of `State.SightingsInv`. -/
structure TableSound (table : List Sighting) : Prop where
  sorted : table.Pairwise (fun e f => e.slot < f.slot)
  tags : (table.map Sighting.tag).Nodup
  sound : ∀ e ∈ table, e.Sound

/-- What a new entry that waits for an eviction's finding needs of the table (R113). -/
def RestSound (table : List Sighting) (slot : Nat) (rest : Continuation) : Prop :=
  ∀ r ref, rest = .newEntry r ref → r.weight ≤ 65535 ∧ (∀ e ∈ table, e.tag ≠ r.tag) ∧
    (table.length < 2048 ∨ ∃ e ∈ table, e.slot = slot)

theorem State.sightingsInv_iff (s : State) : s.SightingsInv ↔
    TableSound s.spe.table ∧ ∀ d, s.spe.work = .waitRoom d → RestSound s.spe.table d.slot d.rest := by
  constructor
  · rintro ⟨hsorted, htags, hsound, hrest⟩
    exact ⟨⟨hsorted, htags, hsound⟩, fun d hd r ref hr => hrest d r ref hd hr⟩
  · rintro ⟨⟨hsorted, htags, hsound⟩, hrest⟩
    exact ⟨hsorted, htags, hsound, fun d r ref hd hr => hrest d hd r ref hr⟩

theorem RestSound.of_ne {slot : Nat} {rest : Continuation} (h : ∀ r ref, rest ≠ .newEntry r ref) : RestSound table slot rest :=
  fun r ref hr => absurd hr (h r ref)

theorem TableSound.nil : TableSound [] :=
  ⟨List.Pairwise.nil, List.nodup_nil, fun _ he => absurd he List.not_mem_nil⟩

theorem TableSound.slots (h : TableSound table) : (table.map Sighting.slot).Nodup :=
  List.pairwise_map.mpr (h.sorted.imp Nat.ne_of_lt)

theorem TableSound.eq_of_slot (h : TableSound table) {a b : Sighting} (ha : a ∈ table) (hb : b ∈ table)
    (hslot : a.slot = b.slot) : a = b := List.inj_on_of_nodup_map h.slots ha hb hslot

theorem TableSound.eq_of_tag (h : TableSound table) {a b : Sighting} (ha : a ∈ table) (hb : b ∈ table)
    (htag : a.tag = b.tag) : a = b := List.inj_on_of_nodup_map h.tags ha hb htag

/-- The lead of a sound entry. -/
theorem Sighting.Sound.lead (h : e.Sound) : ∃ c, leadOf e.candidates = some c := by
  obtain ⟨_, hmin, _⟩ := h
  cases hc : e.candidates with
  | nil => rw [hc] at hmin; exact absurd hmin (by decide)
  | cons c rest =>
    rw [leadOf]
    split
    · exact ⟨_, rfl⟩
    · split
      · exact ⟨_, rfl⟩
      · exact ⟨_, rfl⟩

theorem entryAt_mem (h : entryAt table k = some v) : v ∈ table ∧ v.slot = k :=
  ⟨List.mem_of_find?_eq_some h, beq_iff_eq.mp (List.find?_some (p := fun e : Sighting => e.slot == k) h)⟩

theorem entryAt_eq_none (h : entryAt table k = none) (he : e ∈ table) : e.slot ≠ k := by
  have := List.find?_eq_none.mp h e he
  rwa [beq_iff_eq] at this

/-- A table of sound entries with a free slot has room. -/
theorem TableSound.length_lt (h : TableSound table) (hk : k < 2048) (hfree : ∀ e ∈ table, e.slot ≠ k) :
    table.length < 2048 := by
  have hnodup : (k :: table.map Sighting.slot).Nodup := by
    refine List.nodup_cons.mpr ⟨fun hmem => ?_, h.slots⟩
    obtain ⟨e, he, hslot⟩ := List.mem_map.mp hmem
    exact hfree e he hslot
  have hsub : k :: table.map Sighting.slot ⊆ List.range 2048 := by
    intro n hn
    rw [List.mem_range]
    obtain rfl | hn := List.mem_cons.mp hn
    · exact hk
    · obtain ⟨e, he, rfl⟩ := List.mem_map.mp hn
      exact (h.sound e he).1
  have hlen := (hnodup.subperm hsub).length_le
  rw [List.length_cons, List.length_map, List.length_range] at hlen
  omega

/-! ### An entry changed, entries taken out -/

theorem mem_changed {f : Sighting → Sighting} : e ∈ table.map (fun i => if i.slot = k then f i else i) ↔
    (e ∈ table ∧ e.slot ≠ k) ∨ ∃ v ∈ table, v.slot = k ∧ e = f v := by
  rw [List.mem_map]
  constructor
  · rintro ⟨v, hv, rfl⟩
    by_cases hk : v.slot = k
    · rw [if_pos hk]
      exact .inr ⟨v, hv, hk, rfl⟩
    · rw [if_neg hk]
      exact .inl ⟨hv, hk⟩
  · rintro (⟨he, hk⟩ | ⟨v, hv, hk, rfl⟩)
    · exact ⟨e, he, if_neg hk⟩
    · exact ⟨v, hv, if_pos hk⟩

theorem TableSound.changed (h : TableSound table) {f : Sighting → Sighting}
    (hf : ∀ e ∈ table, e.slot = k → (f e).slot = e.slot ∧ (f e).tag = e.tag ∧ (f e).Sound) :
    TableSound (table.map (fun i => if i.slot = k then f i else i)) := by
  have hkeep {β : Type} (g : Sighting → β) (hg : ∀ e ∈ table, e.slot = k → g (f e) = g e) :
      (table.map (fun i => if i.slot = k then f i else i)).map g = table.map g := by
    rw [List.map_map]
    refine List.map_congr_left (fun e he => ?_)
    by_cases hk : e.slot = k
    · rw [Function.comp_apply, if_pos hk, hg e he hk]
    · rw [Function.comp_apply, if_neg hk]
  refine ⟨?_, ?_, fun e he => ?_⟩
  · have hslots := hkeep Sighting.slot (fun e he hk => (hf e he hk).1)
    rw [← List.pairwise_map (f := Sighting.slot) (R := (· < ·)), hslots]
    exact List.pairwise_map.mpr h.sorted
  · rw [hkeep Sighting.tag (fun e he hk => (hf e he hk).2.1)]
    exact h.tags
  · obtain ⟨he, _⟩ | ⟨v, hv, hk, rfl⟩ := mem_changed.mp he
    · exact h.sound e he
    · exact (hf v hv hk).2.2

theorem TableSound.filter (h : TableSound table) (p : Sighting → Bool) : TableSound (table.filter p) :=
  ⟨h.sorted.filter p, h.tags.sublist (List.filter_sublist.map _), fun e he => h.sound e (List.mem_of_mem_filter he)⟩

theorem mem_freed : e ∈ table.filter (fun i => i.slot != k) ↔ e ∈ table ∧ e.slot ≠ k := by
  rw [List.mem_filter, bne_iff_ne]

/-! ### An entry put in (R82) -/

theorem lowestFreeFrom_free {n : Nat} (hsorted : table.Pairwise (fun e f => e.slot < f.slot))
    (hfrom : ∀ e ∈ table, n ≤ e.slot) :
    lowestFreeFrom n table ≤ n + table.length ∧ ∀ e ∈ table, e.slot ≠ lowestFreeFrom n table := by
  induction table generalizing n with
  | nil => exact ⟨le_rfl, fun _ he => absurd he List.not_mem_nil⟩
  | cons v rest ih =>
    obtain ⟨hbehind, hrest⟩ := List.pairwise_cons.mp hsorted
    rw [lowestFreeFrom, List.length_cons]
    by_cases hv : v.slot = n
    · rw [if_pos hv]
      obtain ⟨hle, hfree⟩ := ih hrest (n := n + 1) (fun e he => hv ▸ hbehind e he)
      refine ⟨by omega, fun e he => ?_⟩
      obtain rfl | he := List.mem_cons.mp he
      · have hlow : ∀ (l : List Sighting) (m : Nat), m ≤ lowestFreeFrom m l := by
          intro l
          induction l with
          | nil => exact fun m => le_rfl
          | cons w l ihl =>
            intro m
            rw [lowestFreeFrom]
            split
            · exact (Nat.le_succ m).trans (ihl (m + 1))
            · exact le_rfl
        have := hlow rest (n + 1)
        omega
      · exact hfree e he
    · rw [if_neg hv]
      refine ⟨Nat.le_add_right _ _, fun e he => ?_⟩
      have hvn := hfrom v (List.mem_cons_self)
      obtain rfl | he := List.mem_cons.mp he
      · exact hv
      · have := hbehind e he
        omega

theorem TableSound.lowestFree (h : TableSound table) (hroom : table.length < 2048) :
    lowestFree table < 2048 ∧ ∀ e ∈ table, e.slot ≠ lowestFree table := by
  obtain ⟨hle, hfree⟩ := lowestFreeFrom_free (n := 0) h.sorted (fun _ _ => Nat.zero_le _)
  refine ⟨?_, hfree⟩
  rw [Machine.lowestFree]
  omega

theorem mem_insertEntry : v ∈ insertEntry e table ↔ v = e ∨ v ∈ table := by
  induction table with
  | nil => simp [insertEntry]
  | cons w rest ih =>
    rw [insertEntry]
    split
    · rw [List.mem_cons]
    · rw [List.mem_cons, ih, List.mem_cons]
      tauto

theorem insertEntry_perm : (insertEntry e table).Perm (e :: table) := by
  induction table with
  | nil => exact .refl _
  | cons w rest ih =>
    rw [insertEntry]
    split
    · exact .refl _
    · exact (ih.cons w).trans (.swap e w rest)

theorem insertEntry_sorted (hsorted : table.Pairwise (fun e f => e.slot < f.slot)) (hfree : ∀ v ∈ table, v.slot ≠ e.slot) :
    (insertEntry e table).Pairwise (fun e f => e.slot < f.slot) := by
  induction table with
  | nil => exact List.pairwise_singleton _ _
  | cons w rest ih =>
    obtain ⟨hbehind, hrest⟩ := List.pairwise_cons.mp hsorted
    rw [insertEntry]
    split
    next hlt =>
      refine List.pairwise_cons.mpr ⟨fun v hv => ?_, hsorted⟩
      obtain rfl | hv := List.mem_cons.mp hv
      · exact hlt
      · exact hlt.trans (hbehind v hv)
    next hge =>
      have hne := hfree w List.mem_cons_self
      refine List.pairwise_cons.mpr ⟨fun v hv => ?_, ih hrest (fun v hv => hfree v (List.mem_cons_of_mem _ hv))⟩
      obtain rfl | hv := mem_insertEntry.mp hv
      · omega
      · exact hbehind v hv

theorem TableSound.insert (h : TableSound table) (hsound : e.Sound) (hslot : ∀ v ∈ table, v.slot ≠ e.slot)
    (htag : ∀ v ∈ table, v.tag ≠ e.tag) : TableSound (insertEntry e table) := by
  refine ⟨insertEntry_sorted h.sorted hslot, ?_, fun v hv => ?_⟩
  · refine ((insertEntry_perm (e := e) (table := table)).map Sighting.tag).nodup_iff.mpr ?_
    refine List.nodup_cons.mpr ⟨fun hmem => ?_, h.tags⟩
    obtain ⟨v, hv, heq⟩ := List.mem_map.mp hmem
    exact htag v hv heq
  · obtain rfl | hv := mem_insertEntry.mp hv
    · exact hsound
    · exact h.sound v hv

/-! ### A scored read (R84, R85) -/

theorem Candidate.raise_sec (c : Candidate) (r : ItemRead) : (c.raise r).sec = c.sec := by
  rw [Candidate.raise]
  split <;> rfl

theorem Candidate.raise_score (c : Candidate) (r : ItemRead) : (c.raise r).score = min 65535 (c.score + r.weight) := by
  rw [Candidate.raise]
  split <;> rfl

/-- The candidate of the read's section raised, wherever it stands. -/
def raisedBy (r : ItemRead) (c : Candidate) : Candidate := if c.sec = r.sec then c.raise r else c

theorem raisedBy_sec (r : ItemRead) (c : Candidate) : (raisedBy r c).sec = c.sec := by
  rw [raisedBy]
  split
  · exact c.raise_sec r
  · rfl

theorem raisedBy_of_ne {r : ItemRead} {c : Candidate} (h : c.sec ≠ r.sec) : raisedBy r c = c := if_neg h

theorem raisedBy_score_le {r : ItemRead} {c : Candidate} (h : c.score ≤ 65535) :
    (raisedBy r c).score ≤ 65535 ∧ c.score ≤ (raisedBy r c).score := by
  rw [raisedBy]
  split
  · rw [Candidate.raise_score]
    omega
  · exact ⟨h, le_rfl⟩

/-- The three ways in which a read changes the candidates. -/
theorem Sighting.scored_cases {r : ItemRead} {list : List Candidate} (h : e.scored r = some list) :
    (∃ c ∈ e.candidates, c.sec = r.sec) ∧ list = e.candidates.map (raisedBy r) ∨
    (∀ c ∈ e.candidates, c.sec ≠ r.sec) ∧ (e.candidates.length < 3 ∧ list = e.candidates ++ [r.candidate] ∨
      3 ≤ e.candidates.length ∧
        ∃ low, lowestOf e.replaceable = some low ∧ list = e.candidates.filter (fun c => c.sec != low.sec) ++ [r.candidate]) := by
  rw [Sighting.scored] at h
  split at h
  next c hc =>
    have hmem := List.mem_of_find?_eq_some hc
    have hsec := beq_iff_eq.mp (List.find?_some (p := fun c : Candidate => c.sec == r.sec) hc)
    exact .inl ⟨⟨c, hmem, hsec⟩, (Option.some.inj h).symm⟩
  next hnone =>
    have hnew : ∀ c ∈ e.candidates, c.sec ≠ r.sec := fun c hc => by
      have := List.find?_eq_none.mp hnone c hc
      rwa [beq_iff_eq] at this
    refine .inr ⟨hnew, ?_⟩
    split at h
    next hroom => exact .inl ⟨hroom, (Option.some.inj h).symm⟩
    next hfull =>
      split at h
      · contradiction
      next low hlow =>
        split at h
        · exact .inr ⟨Nat.le_of_not_lt hfull, low, hlow, (Option.some.inj h).symm⟩
        · contradiction

theorem Sighting.replaceable_sublist (e : Sighting) : e.replaceable.Sublist e.candidates := by
  obtain ⟨p, hp, _⟩ := e.exists_replaceable
  rw [hp]
  exact List.filter_sublist

theorem nodup_secs_append {l : List Candidate} {c : Candidate} (h : (l.map Candidate.sec).Nodup)
    (hnew : ∀ d ∈ l, d.sec ≠ c.sec) : ((l ++ [c]).map Candidate.sec).Nodup := nodup_map_append_singleton h hnew

/-- The candidates after a scored read are sound. -/
theorem Sighting.Sound.scored (h : e.Sound) {r : ItemRead} (hr : r.weight ≤ 65535) {list : List Candidate}
    (hlist : e.scored r = some list) : 1 ≤ list.length ∧ list.length ≤ 3 ∧ (list.map Candidate.sec).Nodup ∧
      ∀ c ∈ list, c.score ≤ 65535 := by
  obtain ⟨_, hmin, hmax, hsecs, hscores, _⟩ := h
  obtain ⟨_, rfl⟩ | ⟨hnew, ⟨hroom, rfl⟩ | ⟨_, low, hlow, rfl⟩⟩ := e.scored_cases hlist
  · have hsame : (e.candidates.map (raisedBy r)).map Candidate.sec = e.candidates.map Candidate.sec := by
      rw [List.map_map]
      exact List.map_congr_left (fun c _ => raisedBy_sec r c)
    refine ⟨by rwa [List.length_map], by rwa [List.length_map], hsame ▸ hsecs, fun c hc => ?_⟩
    obtain ⟨d, hd, rfl⟩ := List.mem_map.mp hc
    exact (raisedBy_score_le (hscores d hd)).1
  · refine ⟨by simp, by simpa using hroom, nodup_secs_append hsecs hnew, fun c hc => ?_⟩
    obtain hc | hc := List.mem_append.mp hc
    · exact hscores c hc
    · rw [List.mem_singleton.mp hc]
      exact hr
  · have hmem := (e.replaceable_sublist).subset (lowestOf_mem hlow)
    have hshort : (e.candidates.filter (fun c => c.sec != low.sec)).length < e.candidates.length :=
      List.length_filter_lt_length_iff_exists.mpr ⟨low, hmem, by simp⟩
    refine ⟨by simp, by rw [List.length_append, List.length_singleton]; omega,
      nodup_secs_append (hsecs.sublist (List.filter_sublist.map _)) (fun c hc => hnew c (List.mem_of_mem_filter hc)),
      fun c hc => ?_⟩
    obtain hc | hc := List.mem_append.mp hc
    · exact hscores c (List.mem_of_mem_filter hc)
    · rw [List.mem_singleton.mp hc]
      exact hr

/-- After a scored read the read's section is a candidate, and the placed section still is. -/
theorem Sighting.scored_secs {r : ItemRead} {list : List Candidate} (hlist : e.scored r = some list) :
    r.sec ∈ list.map Candidate.sec ∧
    ∀ x k, e.placement = some (x, k) → x ∈ e.candidates.map Candidate.sec → x ∈ list.map Candidate.sec := by
  have hlast (l : List Candidate) : r.sec ∈ (l ++ [r.candidate]).map Candidate.sec :=
    List.mem_map_of_mem (f := Candidate.sec) (a := r.candidate) (List.mem_append_right _ (List.mem_singleton_self _))
  obtain ⟨⟨c, hc, hsec⟩, rfl⟩ | ⟨hnew, ⟨_, rfl⟩ | ⟨_, low, hlow, rfl⟩⟩ := e.scored_cases hlist
  · have hsame : (e.candidates.map (raisedBy r)).map Candidate.sec = e.candidates.map Candidate.sec := by
      rw [List.map_map]
      exact List.map_congr_left (fun c _ => raisedBy_sec r c)
    rw [hsame]
    exact ⟨hsec ▸ List.mem_map_of_mem hc, fun _ _ _ hx => hx⟩
  · refine ⟨hlast _, fun x k _ hx => ?_⟩
    rw [List.map_append]
    exact List.mem_append_left _ hx
  · refine ⟨hlast _, fun x k hplaced hx => ?_⟩
    obtain ⟨p, hreplaceable, hp⟩ := e.exists_replaceable
    have hlowp : p low = true := by
      have := lowestOf_mem hlow
      rw [hreplaceable] at this
      exact List.of_mem_filter this
    obtain ⟨c, hc, rfl⟩ := List.mem_map.mp hx
    refine List.mem_map_of_mem (List.mem_append_left _ (List.mem_filter.mpr ⟨hc, ?_⟩))
    rw [bne_iff_ne]
    exact ((hp low).mp hlowp c.sec k hplaced).symm

/-! ### The lead after a scored read (R87) -/

theorem leadOf_cons (c : Candidate) (l : List Candidate) :
    leadOf l = none ∧ leadOf (c :: l) = some c ∨
    ∃ d, leadOf l = some d ∧ (c.score < d.score ∧ leadOf (c :: l) = some d ∨ d.score ≤ c.score ∧ leadOf (c :: l) = some c) := by
  rw [leadOf]
  cases hl : leadOf l with
  | none => exact .inl ⟨rfl, rfl⟩
  | some d =>
    refine .inr ⟨d, rfl, ?_⟩
    by_cases hlt : c.score < d.score
    · exact .inl ⟨hlt, if_pos hlt⟩
    · exact .inr ⟨Nat.le_of_not_lt hlt, if_neg hlt⟩

theorem leadOf_eq_none {l : List Candidate} (h : leadOf l = none) : l = [] := by
  cases l with
  | nil => rfl
  | cons c l =>
    obtain ⟨_, hc⟩ | ⟨d, _, ⟨_, hc⟩ | ⟨_, hc⟩⟩ := leadOf_cons c l
    · rw [hc] at h; contradiction
    · rw [hc] at h; contradiction
    · rw [hc] at h; contradiction

theorem leadOf_max {l : List Candidate} {c : Candidate} (h : leadOf l = some c) : ∀ d ∈ l, d.score ≤ c.score := by
  induction l generalizing c with
  | nil => exact fun _ hd => absurd hd List.not_mem_nil
  | cons b l ih =>
    intro d hd
    obtain ⟨hnone, hb⟩ | ⟨a, ha, ⟨hlt, hb⟩ | ⟨hle, hb⟩⟩ := leadOf_cons b l
    · obtain rfl := Option.some.inj (hb.symm.trans h)
      rw [leadOf_eq_none hnone] at hd
      rw [List.mem_singleton.mp hd]
    · obtain rfl := Option.some.inj (hb.symm.trans h)
      obtain rfl | hd := List.mem_cons.mp hd
      · exact hlt.le
      · exact ih ha d hd
    · obtain rfl := Option.some.inj (hb.symm.trans h)
      obtain rfl | hd := List.mem_cons.mp hd
      · exact le_rfl
      · exact (ih ha d hd).trans hle

/-- A candidate raised leads, or the lead stands. -/
theorem leadOf_raised (r : ItemRead) {l : List Candidate} {c : Candidate} (hscores : ∀ d ∈ l, d.score ≤ 65535)
    (h : leadOf l = some c) : ∃ d, leadOf (l.map (raisedBy r)) = some d ∧ c.score ≤ d.score ∧ (d.sec = r.sec ∨ d = c) := by
  induction l generalizing c with
  | nil => contradiction
  | cons b l ih =>
    have hb := (raisedBy_score_le (r := r) (hscores b List.mem_cons_self)).2
    have hkeep : (raisedBy r b).sec = r.sec ∨ raisedBy r b = b := by
      by_cases hsec : b.sec = r.sec
      · exact .inl ((raisedBy_sec r b).trans hsec)
      · exact .inr (raisedBy_of_ne hsec)
    rw [List.map_cons]
    obtain ⟨hnone, hlead⟩ | ⟨a, ha, hcases⟩ := leadOf_cons b l
    · obtain rfl := Option.some.inj (hlead.symm.trans h)
      rw [leadOf_eq_none hnone]
      exact ⟨_, rfl, hb, hkeep⟩
    · obtain ⟨d, hd, had, hsec⟩ := ih (fun d hd => hscores d (List.mem_cons_of_mem _ hd)) ha
      obtain ⟨hnone, _⟩ | ⟨d', hd', ⟨hlt, hlead'⟩ | ⟨hle, hlead'⟩⟩ := leadOf_cons (raisedBy r b) (l.map (raisedBy r))
      · rw [hnone] at hd
        contradiction
      · obtain rfl := Option.some.inj (hd'.symm.trans hd)
        refine ⟨d', hlead', ?_, ?_⟩
        · obtain ⟨_, hc⟩ | ⟨_, hc⟩ := hcases
          · exact (Option.some.inj (hc.symm.trans h)) ▸ had
          · exact (Option.some.inj (hc.symm.trans h)) ▸ (hb.trans hlt.le)
        · obtain hsec | rfl := hsec
          · exact .inl hsec
          · obtain ⟨_, hc⟩ | ⟨hle, _⟩ := hcases
            · exact .inr (Option.some.inj (hc.symm.trans h))
            · omega
      · obtain rfl := Option.some.inj (hd'.symm.trans hd)
        refine ⟨_, hlead', ?_, ?_⟩
        · obtain ⟨_, hc⟩ | ⟨_, hc⟩ := hcases
          · exact (Option.some.inj (hc.symm.trans h)) ▸ (had.trans hle)
          · exact (Option.some.inj (hc.symm.trans h)) ▸ hb
        · obtain hkeep | hkeep := hkeep
          · exact .inl hkeep
          · rw [hkeep] at hle ⊢
            obtain ⟨hlt, _⟩ | ⟨_, hc⟩ := hcases
            · omega
            · exact .inr (Option.some.inj (hc.symm.trans h))

/-- A candidate added at the end leads, or the lead stands. -/
theorem leadOf_added {l : List Candidate} {a c : Candidate} (h : leadOf l = some c) :
    leadOf (l ++ [a]) = some (if c.score < a.score then a else c) := by
  induction l generalizing c with
  | nil => contradiction
  | cons b l ih =>
    rw [List.cons_append]
    obtain ⟨hnone, hlead⟩ | ⟨d, hd, hcases⟩ := leadOf_cons b l
    · obtain rfl := Option.some.inj (hlead.symm.trans h)
      rw [leadOf_eq_none hnone]
      exact (leadOf.eq_2 _ _).trans (by rw [List.nil_append, leadOf, leadOf]; dsimp only; split <;> rfl)
    · rw [leadOf, ih hd]
      dsimp only
      obtain ⟨hlt, hc⟩ | ⟨hle, hc⟩ := hcases
      · obtain rfl := Option.some.inj (hc.symm.trans h)
        by_cases hda : d.score < a.score
        · rw [if_pos hda]
          exact if_pos (hlt.trans hda)
        · rw [if_neg hda]
          exact if_pos hlt
      · obtain rfl := Option.some.inj (hc.symm.trans h)
        by_cases hda : d.score < a.score
        · rw [if_pos hda]
          split
          · rfl
          · rfl
        · rw [if_neg hda, if_neg (Nat.not_lt_of_le hle), if_neg (by omega)]

/-- A filter that keeps the lead keeps it the lead. -/
theorem leadOf_filter {l : List Candidate} {c : Candidate} (p : Candidate → Bool) (h : leadOf l = some c) (hp : p c = true) :
    leadOf (l.filter p) = some c := by
  induction l generalizing c with
  | nil => contradiction
  | cons b l ih =>
    obtain ⟨hnone, hlead⟩ | ⟨d, hd, ⟨hlt, hlead⟩ | ⟨hle, hlead⟩⟩ := leadOf_cons b l
    · obtain rfl := Option.some.inj (hlead.symm.trans h)
      rw [leadOf_eq_none hnone, List.filter_cons, if_pos hp]
      rfl
    · obtain rfl := Option.some.inj (hlead.symm.trans h)
      rw [List.filter_cons]
      split
      · rw [leadOf, ih hd hp]
        exact if_pos hlt
      · exact ih hd hp
    · obtain rfl := Option.some.inj (hlead.symm.trans h)
      rw [List.filter_cons, if_pos hp, leadOf]
      split
      · rfl
      next a ha =>
        have hmem := List.mem_of_mem_filter (leadOf_mem ha)
        exact if_neg (Nat.not_lt_of_le ((leadOf_max hd a hmem).trans hle))

theorem lowestOf_eq_none {l : List Candidate} (h : lowestOf l = none) : l = [] := by
  cases l with
  | nil => rfl
  | cons c l =>
    rw [lowestOf] at h
    split at h
    · contradiction
    · split at h
      · contradiction
      · contradiction

theorem lowestOf_min {l : List Candidate} {c : Candidate} (h : lowestOf l = some c) : ∀ d ∈ l, c.score ≤ d.score := by
  induction l generalizing c with
  | nil => exact fun _ hd => absurd hd List.not_mem_nil
  | cons b l ih =>
    intro d hd
    rw [lowestOf] at h
    split at h
    next hnone =>
      obtain rfl := Option.some.inj h
      rw [lowestOf_eq_none hnone] at hd
      rw [List.mem_singleton.mp hd]
    next a ha =>
      split at h
      next hle =>
        obtain rfl := Option.some.inj h
        obtain rfl | hd := List.mem_cons.mp hd
        · exact hle
        · exact ih ha d hd
      next hlt =>
        obtain rfl := Option.some.inj h
        obtain rfl | hd := List.mem_cons.mp hd
        · exact le_rfl
        · exact (Nat.le_of_not_le hlt).trans (ih ha d hd)

/-- With two candidates or more the lead is not the lowest. -/
theorem leadOf_ne_lowestOf {l : List Candidate} {c d : Candidate} (hsecs : (l.map Candidate.sec).Nodup) (hlen : 2 ≤ l.length)
    (hc : leadOf l = some c) (hd : lowestOf l = some d) : c.sec ≠ d.sec := by
  intro hsame
  obtain rfl : c = d := List.inj_on_of_nodup_map hsecs (leadOf_mem hc) (lowestOf_mem hd) hsame
  obtain ⟨a, rest, rfl⟩ := List.exists_cons_of_length_pos (Nat.lt_of_lt_of_le Nat.two_pos hlen)
  obtain ⟨hnew, _⟩ := List.nodup_cons.mp hsecs
  have hrest : rest ≠ [] := fun h => by rw [h, List.length_singleton] at hlen; omega
  have hmin := lowestOf_min hd a List.mem_cons_self
  obtain ⟨hnone, _⟩ | ⟨b, hb, ⟨hlt, hlead⟩ | ⟨_, hlead⟩⟩ := leadOf_cons a rest
  · exact hrest (leadOf_eq_none hnone)
  · obtain rfl := Option.some.inj (hlead.symm.trans hc)
    omega
  · obtain rfl := Option.some.inj (hlead.symm.trans hc)
    rw [lowestOf] at hd
    split at hd
    next hnone => exact hrest (lowestOf_eq_none hnone)
    next b hb =>
      have hbmax := leadOf_max hc b (List.mem_cons_of_mem _ (lowestOf_mem hb))
      rw [if_pos hbmax] at hd
      obtain rfl := Option.some.inj hd
      exact hnew (List.mem_map_of_mem (lowestOf_mem hb))

/-- The lead of an OPEN entry after a scored read is of the read's section, or of the section that led. -/
theorem Sighting.Sound.scored_lead (h : e.Sound) (hopen : e.placement = none) {r : ItemRead} {list : List Candidate}
    (hlist : e.scored r = some list) {c : Candidate} (hc : leadOf e.candidates = some c) :
    ∃ d, leadOf list = some d ∧ (d.sec = r.sec ∨ d.sec = c.sec) := by
  obtain ⟨_, _, _, hsecs, hscores, _⟩ := h
  obtain ⟨_, rfl⟩ | ⟨hnew, ⟨_, rfl⟩ | ⟨hfull, low, hlow, rfl⟩⟩ := e.scored_cases hlist
  · obtain ⟨d, hd, _, hsec⟩ := leadOf_raised r hscores hc
    exact ⟨d, hd, hsec.imp_right (congrArg Candidate.sec)⟩
  · refine ⟨_, leadOf_added hc, ?_⟩
    split
    · exact .inl rfl
    · exact .inr rfl
  · have hall : e.replaceable = e.candidates := by rw [Sighting.replaceable, hopen]
    rw [hall] at hlow
    have hne := leadOf_ne_lowestOf hsecs (by omega) hc hlow
    refine ⟨_, leadOf_added (leadOf_filter _ hc (bne_iff_ne.mpr hne)), ?_⟩
    split
    · exact .inl rfl
    · exact .inr rfl

end Sys2Proof.Machine
end

section
/-! SUPPORT. What the laws of sections, marks and sightings read of the device, as one view; the laws of the view, and that they
are those of `State.SectionsInv` and `State.MarksInv` in SCANNING and SETTLING. -/

namespace Sys2Proof.Machine

variable {s t : State} {v : View} {x : SectionId}

/-- What the laws read of a section: its state, and the sighting references of its list items. -/
def Section.key (y : Section) : SectionState × List (Option Nat) := (y.state, y.list.map Item.slot)

/-- What the laws of sections, marks and sightings read of the device. The stage of an open section is read without QUIET. -/
structure View where
  sect : SectionId → Option (SectionState × List (Option Nat))
  grade : SectionId → Option CloseStage
  listed : List SectionId
  reported : List SectionId
  requests : List SectionId
  markAt : Nat → Option Mark
  refOf : TagCode → Option Nat
  has : Sighting → Prop
  work : Work

def State.view (s : State) : View where
  sect x := (findSection s.tst.sections x).map Section.key
  grade x := (findOpen s.sru.openList x).map (fun o => o.stage.enter)
  listed := s.sru.openList.map OpenSection.sec
  reported := (s.sru.reporter.map Reporter.sec).toList ++ s.sru.closing
  requests := s.spe.requests
  markAt n := s.tst.holdings[n]?.map Holding.mark
  refOf t := findHolding s.tst.holdings t
  has e := e ∈ s.spe.table
  work := s.spe.work

/-- The state of a section. -/
def View.stateOf (v : View) (x : SectionId) : Option SectionState := (v.sect x).map Prod.fst

/-- The entry in a slot is placed in a section. -/
def View.PlacedAt (v : View) (slot : Nat) (x : SectionId) : Prop :=
  ∃ e, v.has e ∧ e.slot = slot ∧ e.placement.map Prod.fst = some x

/-- Entries are told apart by their slots and by their tags, and records by their references. -/
structure View.Unique (v : View) : Prop where
  slots : ∀ a b, v.has a → v.has b → a.slot = b.slot → a = b
  tags : ∀ a b, v.has a → v.has b → a.tag = b.tag → a = b
  refs : ∀ a b n, v.refOf a = some n → v.refOf b = some n → a = b

/-- The laws of SCANNING and SETTLING, the item of work of SPE apart. -/
structure View.Law (v : View) : Prop where
  nodup : v.listed.Nodup
  listed : ∀ x, x ∈ v.listed ↔ v.grade x ≠ none
  reportedNodup : v.reported.Nodup
  requestsNodup : v.requests.Nodup
  opened : ∀ x, v.stateOf x = some .opened ↔ v.grade x ≠ none ∧ v.grade x ≠ some .closing
  closing : ∀ x, v.stateOf x = some .closing ↔ v.grade x = some .closing
  empty : ∀ x l, v.sect x = some (.unvisited, l) → l = []
  reported : ∀ x, x ∈ v.reported ↔ v.grade x = some .closing
  requests : ∀ x ∈ v.requests, v.grade x = some .requested
  entries : ∀ e, v.has e → e.ref = v.refOf e.tag ∧
    ∃ x, e.anchor = some x ∧ v.stateOf x = some .opened ∧ x ∈ e.candidates.map Candidate.sec
  marks : ∀ n m, v.markAt n = some m →
    (m = .sighted ↔ ∃ e, v.has e ∧ e.ref = some n ∧ e.placement = none) ∧
    (m = .placed ↔ ∃ e, v.has e ∧ e.ref = some n ∧ e.placement ≠ none)
  items : ∀ x l, v.sect x = some (.opened, l) → ∀ slot,
    (v.PlacedAt slot x → l.count (some slot) = 1) ∧ (¬v.PlacedAt slot x → l.count (some slot) = 0)

/-- What the rest of an item of work needs while it waits (R110, R113). -/
structure View.RestLaw (v : View) (rest : Continuation) : Prop where
  force : ∀ x after, rest = .forcePlace x after → v.grade x = some .requested ∧ x ∉ v.requests ∧
    ∀ r, after = some r → v.stateOf r.sec = some .unvisited
  fresh : ∀ r ref, rest = .newEntry r ref → ref = v.refOf r.tag ∧ ref.bind v.markAt ≠ some .disposed ∧
    v.stateOf r.sec = some .opened

/-- The laws of an item of work that waits (R110, R113). -/
structure View.WorkLaw (v : View) : Prop where
  place : ∀ r, v.work = .waitPlace r → v.stateOf r.sec = some .unvisited
  room : ∀ d, v.work = .waitRoom d → v.stateOf d.sec = some .opened ∧ v.RestLaw d.rest

theorem View.WorkLaw.of_idle (h : v.work = .idle) : v.WorkLaw :=
  ⟨fun r hr => by rw [h] at hr; contradiction, fun d hd => by rw [h] at hd; contradiction⟩

/-! ### The view of a state -/

theorem CloseStage.enter_eq_closing {g : CloseStage} : g.enter = .closing ↔ g = .closing := by cases g <;> simp [CloseStage.enter]

theorem CloseStage.enter_eq_requested {g : CloseStage} : g.enter = .requested ↔ g = .requested := by
  cases g <;> simp [CloseStage.enter]

theorem State.sect_of_mem (hids : (s.tst.sections.map Section.id).Nodup) {y : Section} (hy : y ∈ s.tst.sections) :
    s.view.sect y.id = some y.key := by
  have hfind : findSection s.tst.sections y.id = some y := find?_of_nodup hids hy rfl
  exact congrArg (Option.map Section.key) hfind

theorem State.exists_of_sect {k : SectionState × List (Option Nat)} (h : s.view.sect x = some k) :
    ∃ y ∈ s.tst.sections, y.id = x ∧ y.key = k := by
  obtain ⟨y, hy, hk⟩ := Option.map_eq_some_iff.mp h
  exact ⟨y, List.mem_of_find?_eq_some hy, findSection_id hy, hk⟩

theorem State.stateOf_of_mem (hids : (s.tst.sections.map Section.id).Nodup) {y : Section} (hy : y ∈ s.tst.sections) :
    s.view.stateOf y.id = some y.state := congrArg (Option.map Prod.fst) (State.sect_of_mem hids hy)

theorem State.exists_of_stateOf {g : SectionState} (h : s.view.stateOf x = some g) :
    ∃ y ∈ s.tst.sections, y.id = x ∧ y.state = g := by
  obtain ⟨k, hk, hg⟩ := Option.map_eq_some_iff.mp h
  obtain ⟨y, hy, hid, hkey⟩ := State.exists_of_sect hk
  exact ⟨y, hy, hid, (congrArg Prod.fst hkey).trans hg⟩

theorem State.grade_of_mem (hlisted : (s.sru.openList.map OpenSection.sec).Nodup) {o : OpenSection} (ho : o ∈ s.sru.openList) :
    s.view.grade o.sec = some o.stage.enter := by
  have hfind : findOpen s.sru.openList o.sec = some o := find?_of_nodup hlisted ho rfl
  exact congrArg (Option.map (fun o : OpenSection => o.stage.enter)) hfind

theorem State.exists_of_grade {g : CloseStage} (h : s.view.grade x = some g) :
    ∃ o ∈ s.sru.openList, o.sec = x ∧ o.stage.enter = g := by
  obtain ⟨o, ho, hg⟩ := Option.map_eq_some_iff.mp h
  exact ⟨o, List.mem_of_find?_eq_some ho, findOpen_sec ho, hg⟩

theorem State.listed_iff (s : State) (x : SectionId) : x ∈ s.view.listed ↔ s.view.grade x ≠ none := by
  have hnone : s.view.grade x = none ↔ ∀ o ∈ s.sru.openList, ¬(o.sec == x) = true :=
    Option.map_eq_none_iff.trans List.find?_eq_none
  rw [ne_eq, hnone]
  constructor
  · intro hx hall
    obtain ⟨o, ho, hsec⟩ := List.mem_map.mp hx
    exact hall o ho (beq_iff_eq.mpr hsec)
  · intro hsome
    by_contra hx
    exact hsome (fun o ho hsec => hx (List.mem_map.mpr ⟨o, ho, beq_iff_eq.mp hsec⟩))

theorem State.sectionOpen_iff (s : State) (x : SectionId) : s.sectionOpen x = true ↔ s.view.stateOf x = some .opened := by
  unfold State.sectionOpen View.stateOf State.view
  dsimp only
  cases findSection s.tst.sections x with
  | none => simp
  | some y => simp [Section.key]

theorem State.disposed_iff (s : State) (ref : Option Nat) : s.disposed ref = true ↔ ref.bind s.view.markAt = some .disposed := by
  have hmap : ref.bind s.view.markAt = (ref.bind (fun r => s.tst.holdings[r]?)).map Holding.mark := by
    cases ref <;> rfl
  rw [hmap, State.disposed]
  cases ref.bind (fun r => s.tst.holdings[r]?) with
  | none => exact ⟨fun h => absurd h Bool.false_ne_true, fun h => absurd h.symm (Option.some_ne_none _)⟩
  | some a => exact beq_iff_eq.trans (Option.some_inj (a := a.mark) (b := .disposed)).symm

theorem findHolding_tag {holdings : List Holding} {tag : TagCode} {n : Nat} (h : findHolding holdings tag = some n) :
    (holdings[n]?).map Holding.tag = some tag := by
  obtain ⟨hlt, hp, _⟩ := List.findIdx?_eq_some_iff_getElem.mp h
  rw [List.getElem?_eq_getElem hlt, Option.map_some, beq_iff_eq.mp hp]

theorem State.view_unique (h : TableSound s.spe.table) : s.view.Unique :=
  ⟨fun _ _ ha hb => h.eq_of_slot ha hb, fun _ _ ha hb => h.eq_of_tag ha hb,
    fun _ _ _ ha hb => Option.some.inj ((findHolding_tag ha).symm.trans (findHolding_tag hb))⟩

theorem View.Unique.ref (hu : v.Unique) (hl : v.Law) {a b : Sighting} {n : Nat} (ha : v.has a) (hb : v.has b)
    (har : a.ref = some n) (hbr : b.ref = some n) : a = b :=
  hu.tags a b ha hb (hu.refs _ _ n ((hl.entries a ha).1 ▸ har) ((hl.entries b hb).1 ▸ hbr))

/-- The entries of a slot that are placed in a section, counted. -/
theorem countP_placedAt (h : TableSound s.spe.table) (slot : Nat) (x : SectionId) :
    (s.view.PlacedAt slot x →
      s.spe.table.countP (fun e => e.slot == slot && (e.placement.map Prod.fst) == some x) = 1) ∧
    (¬s.view.PlacedAt slot x →
      s.spe.table.countP (fun e => e.slot == slot && (e.placement.map Prod.fst) == some x) = 0) := by
  refine ⟨fun ⟨e, he, hslot, hplaced⟩ => ?_, fun hnot => ?_⟩
  · have hone : (s.spe.table.map Sighting.slot).count slot = 1 :=
      List.count_eq_one_of_mem h.slots (hslot ▸ List.mem_map_of_mem he)
    rw [List.count, List.countP_map] at hone
    rw [← hone]
    refine List.countP_congr (fun a ha => ?_)
    simp only [Bool.and_eq_true, beq_iff_eq, Function.comp_apply]
    constructor
    · exact fun hb => hb.1
    · intro hb
      obtain rfl : a = e := h.eq_of_slot ha he (hb.trans hslot.symm)
      exact ⟨hb, hplaced⟩
  · refine List.countP_eq_zero.mpr (fun a ha hb => hnot ?_)
    simp only [Bool.and_eq_true, beq_iff_eq] at hb
    exact ⟨a, ha, hb.1, hb.2⟩

theorem count_slots (l : List Item) (slot : Nat) :
    (l.map Item.slot).count (some slot) = l.countP (fun i => i.slot == some slot) := by
  rw [List.count, List.countP_map]
  rfl

/-! ### The laws in SCANNING and SETTLING -/

/-- Reads are scored and sections opened and closed: SCANNING and SETTLING. -/
def PassState.Reads (p : PassState) : Prop := p = .scanning ∨ p = .settling

theorem State.law_of_inv (hreads : s.psc.state.Reads) (hids : (s.tst.sections.map Section.id).Nodup)
    (htable : TableSound s.spe.table) (hsections : s.SectionsInv) (hmarks : s.MarksInv) : s.view.Law ∧ s.view.WorkLaw := by
  obtain ⟨hreading, _, _, _, hopening, hroom⟩ := hsections
  obtain ⟨hnodup, hreported, hrequests, hstates, hempty, hlist, hclosing, hrequested⟩ := hreading hreads
  obtain ⟨_, hentries, hmarkLaw, hitems, hnew⟩ := hmarks
  have hrequested_iff (x : SectionId) : (∃ o ∈ s.sru.openList, o.sec = x ∧ o.stage = .requested) →
      s.view.grade x = some .requested := fun ⟨o, ho, hsec, hstage⟩ => by
    rw [← hsec, State.grade_of_mem hnodup ho, hstage]
    rfl
  have hof (x : SectionId) {g : CloseStage} (hg : s.view.grade x = some g) :
      s.view.stateOf x = some (if g = .closing then .closing else .opened) := by
    obtain ⟨o, ho, rfl, rfl⟩ := State.exists_of_grade hg
    obtain ⟨y, hy, hid, hstate⟩ := hlist o ho
    rw [← hid, State.stateOf_of_mem hids hy, hstate]
    exact congrArg some (if_congr CloseStage.enter_eq_closing.symm rfl rfl)
  have hback (x : SectionId) {g : SectionState} (hg : s.view.stateOf x = some g) (hog : g = .opened ∨ g = .closing) :
      ∃ k, s.view.grade x = some k := by
    obtain ⟨y, hy, rfl, rfl⟩ := State.exists_of_stateOf hg
    exact Option.ne_none_iff_exists'.mp ((s.listed_iff y.id).mp (hstates y hy hog))
  refine ⟨⟨hnodup, s.listed_iff, hreported, hrequests, fun x => ⟨fun hx => ?_, fun ⟨hne, hnc⟩ => ?_⟩,
    fun x => ⟨fun hx => ?_, fun hx => ?_⟩, fun x l hx => ?_, fun x => ⟨fun hx => ?_, fun hx => ?_⟩,
    fun x hx => hrequested_iff x (hrequested x hx), fun e he => ?_, fun n m hm => ?_, fun x l hx slot => ?_⟩,
    ⟨fun r hr => ?_, fun d hd => ⟨?_, ⟨fun x after hrest => ?_, fun r ref hrest => ?_⟩⟩⟩⟩
  · obtain ⟨k, hk⟩ := hback x hx (.inl rfl)
    refine ⟨by rw [hk]; exact Option.some_ne_none k, fun hc => ?_⟩
    rw [hof x hc] at hx
    exact absurd hx (by decide)
  · obtain ⟨k, hk⟩ := Option.ne_none_iff_exists'.mp hne
    rw [hof x hk, if_neg (fun hkc => hnc (by rw [hk, hkc]))]
  · obtain ⟨k, hk⟩ := hback x hx (.inr rfl)
    by_cases hkc : k = .closing
    · rw [hk, hkc]
    · rw [hof x hk, if_neg hkc] at hx
      exact absurd hx (by decide)
  · rw [hof x hx]
    rfl
  · obtain ⟨y, hy, hid, hkey⟩ := State.exists_of_sect hx
    have hstate : y.state = .unvisited := congrArg Prod.fst hkey
    have hslots : y.list.map Item.slot = l := congrArg Prod.snd hkey
    rw [← hslots, hempty y hy hstate]
    rfl
  · obtain ⟨o, ho, hsec, hstage⟩ := (hclosing x).mp hx
    rw [← hsec, State.grade_of_mem hnodup ho, hstage]
    rfl
  · obtain ⟨o, ho, hsec, hstage⟩ := State.exists_of_grade hx
    exact (hclosing x).mpr ⟨o, ho, hsec, CloseStage.enter_eq_closing.mp hstage⟩
  · obtain ⟨href, x, hanchor, hopen, hmem⟩ := hentries e he
    exact ⟨href, x, hanchor, (s.sectionOpen_iff x).mp hopen, hmem⟩
  · obtain ⟨a, ha, rfl⟩ := Option.map_eq_some_iff.mp hm
    exact hmarkLaw n a ha
  · obtain ⟨y, hy, rfl, hkey⟩ := State.exists_of_sect hx
    have hcount := hitems hreads y hy (congrArg Prod.fst hkey) slot
    have hslots : y.list.map Item.slot = l := congrArg Prod.snd hkey
    rw [← hslots, count_slots, hcount]
    exact countP_placedAt htable slot y.id
  · obtain ⟨y, hy, hid, hstate⟩ := hopening r (.inl hr)
    rw [← hid, State.stateOf_of_mem hids hy, hstate]
  · exact (s.sectionOpen_iff _).mp (hroom d hd).1
  · obtain ⟨hgrade, hnot⟩ := (hroom d hd).2 x after hrest
    refine ⟨hrequested_iff x hgrade, hnot, fun r hr => ?_⟩
    obtain ⟨y, hy, hid, hstate⟩ := hopening r (.inr ⟨d, x, hd, hr ▸ hrest⟩)
    rw [← hid, State.stateOf_of_mem hids hy, hstate]
  · obtain ⟨href, hfree, hopen⟩ := hnew d r ref hd hrest
    refine ⟨href, fun hdisposed => ?_, (s.sectionOpen_iff _).mp hopen⟩
    rw [(s.disposed_iff ref).mpr hdisposed] at hfree
    contradiction

theorem State.inv_of_law (hreads : s.psc.state.Reads) (hids : (s.tst.sections.map Section.id).Nodup)
    (htable : TableSound s.spe.table) (hl : s.view.Law) (hw : s.view.WorkLaw) : s.SectionsInv ∧ s.MarksInv := by
  have hnotTallying : s.psc.state ≠ .tallying := by rintro h; rw [h] at hreads; obtain h | h := hreads <;> contradiction
  have hnotPreparing : s.psc.state ≠ .preparing := by rintro h; rw [h] at hreads; obtain h | h := hreads <;> contradiction
  have hgrade (x : SectionId) (hx : s.view.grade x = some .requested) :
      ∃ o ∈ s.sru.openList, o.sec = x ∧ o.stage = .requested := by
    obtain ⟨o, ho, hsec, hstage⟩ := State.exists_of_grade hx
    exact ⟨o, ho, hsec, CloseStage.enter_eq_requested.mp hstage⟩
  have hunvisited (x : SectionId) (hx : s.view.stateOf x = some .unvisited) :
      ∃ y ∈ s.tst.sections, y.id = x ∧ y.state = .unvisited := State.exists_of_stateOf hx
  refine ⟨⟨fun _ => ⟨hl.nodup, hl.reportedNodup, hl.requestsNodup, fun y hy hstate => ?_, fun y hy hstate => ?_, fun o ho => ?_,
      fun x => ⟨fun hx => ?_, fun ⟨o, ho, hsec, hstage⟩ => ?_⟩, fun x hx => hgrade x (hl.requests x hx)⟩,
    fun hnot => absurd hreads hnot, fun h => absurd h hnotTallying, fun h => absurd h hnotPreparing, fun r hr => ?_,
    fun d hd => ⟨(s.sectionOpen_iff _).mpr (hw.room d hd).1, fun x after hrest => ?_⟩⟩,
    ⟨fun h h' => absurd hreads (not_or_intro h h'), fun e he => ?_, fun n h hn => ?_, fun _ y hy hstate slot => ?_,
      fun d r ref hd hrest => ?_⟩⟩
  · have hof := State.stateOf_of_mem hids hy
    obtain hstate | hstate := hstate
    · exact (hl.listed _).mpr ((hl.opened _).mp (hof.trans (congrArg some hstate))).1
    · refine (hl.listed _).mpr ?_
      rw [(hl.closing _).mp (hof.trans (congrArg some hstate))]
      exact Option.some_ne_none _
  · have hof := State.sect_of_mem hids hy
    rw [Section.key, hstate] at hof
    exact List.map_eq_nil_iff.mp (hl.empty _ _ hof)
  · have hg := State.grade_of_mem hl.nodup ho
    by_cases hc : o.stage = .closing
    · rw [if_pos hc]
      exact State.exists_of_stateOf ((hl.closing o.sec).mpr (hg.trans (congrArg some (CloseStage.enter_eq_closing.mpr hc))))
    · rw [if_neg hc]
      refine State.exists_of_stateOf ((hl.opened o.sec).mpr ?_)
      rw [hg]
      exact ⟨Option.some_ne_none _, fun h => hc (CloseStage.enter_eq_closing.mp (Option.some.inj h))⟩
  · obtain ⟨o, ho, hsec, hstage⟩ := State.exists_of_grade ((hl.reported x).mp hx)
    exact ⟨o, ho, hsec, CloseStage.enter_eq_closing.mp hstage⟩
  · refine (hl.reported x).mpr ?_
    rw [← hsec, State.grade_of_mem hl.nodup ho, hstage]
    rfl
  · obtain hplace | ⟨d, x, hd, hrest⟩ := hr
    · exact hunvisited _ (hw.place r hplace)
    · exact hunvisited _ (((hw.room d hd).2.force x (some r) hrest).2.2 r rfl)
  · obtain ⟨hg, hnot, _⟩ := (hw.room d hd).2.force x after hrest
    exact ⟨hgrade x hg, hnot⟩
  · obtain ⟨href, x, hanchor, hopen, hmem⟩ := hl.entries e he
    exact ⟨href, x, hanchor, (s.sectionOpen_iff x).mpr hopen, hmem⟩
  · exact hl.marks n h.mark (congrArg (Option.map Holding.mark) hn)
  · have hof := State.sect_of_mem hids hy
    rw [Section.key, hstate] at hof
    obtain ⟨hin, hout⟩ := hl.items _ _ hof slot
    obtain ⟨hin', hout'⟩ := countP_placedAt htable slot y.id
    rw [← count_slots]
    by_cases hp : s.view.PlacedAt slot y.id
    · rw [hin hp, hin' hp]
    · rw [hout hp, hout' hp]
  · obtain ⟨href, hfree, hopen⟩ := (hw.room d hd).2.fresh r ref hrest
    refine ⟨href, Bool.eq_false_iff.mpr (fun h => hfree ((s.disposed_iff ref).mp h)), (s.sectionOpen_iff _).mpr hopen⟩

end Sys2Proof.Machine
end

section
/-! SUPPORT. What keeps the laws of the view: an entry put in, changed or taken out, a section opened, its close begun, closing and
closed (sections 4.4, 5.3 to 5.6, 6.2 to 6.6). -/

namespace Sys2Proof.Machine

variable {v w u : View} {x : SectionId} {old new : Sighting} {P : Sighting → Prop}

/-! ### Changes of entries, marks and lists -/

/-- `w` differs from `v` in its entries, its marks, the lists of OPEN sections and the item of work alone. -/
structure View.Within (v w : View) : Prop where
  grade : w.grade = v.grade
  listed : w.listed = v.listed
  reported : w.reported = v.reported
  requests : w.requests = v.requests
  refOf : w.refOf = v.refOf
  states : ∀ x, w.stateOf x = v.stateOf x
  others : ∀ x, v.stateOf x ≠ some .opened → w.sect x = v.sect x

theorem View.Within.refl (v : View) : v.Within v := ⟨rfl, rfl, rfl, rfl, rfl, fun _ => rfl, fun _ _ => rfl⟩

theorem View.Within.trans (h : v.Within w) (k : w.Within u) : v.Within u :=
  ⟨k.grade.trans h.grade, k.listed.trans h.listed, k.reported.trans h.reported, k.requests.trans h.requests,
    k.refOf.trans h.refOf, fun x => (k.states x).trans (h.states x),
    fun x hx => (k.others x (by rwa [h.states x])).trans (h.others x hx)⟩

/-- What an item of work waits for with its opening or its close stands. -/
theorem View.Within.rest (h : v.Within w) {rest : Continuation} (hr : v.RestLaw rest)
    (hnew : ∀ r ref, rest ≠ .newEntry r ref) : w.RestLaw rest := by
  refine ⟨fun x after hx => ?_, fun r ref hn => absurd hn (hnew r ref)⟩
  obtain ⟨hg, hnot, hafter⟩ := hr.force x after hx
  rw [h.grade, h.requests]
  exact ⟨hg, hnot, fun r hr => (h.states _).trans (hafter r hr)⟩

theorem View.stateOf_of_sect {g : SectionState} {l : List (Option Nat)} (h : v.sect x = some (g, l)) : v.stateOf x = some g :=
  congrArg (Option.map Prod.fst) h

theorem View.exists_sect {g : SectionState} (h : v.stateOf x = some g) : ∃ l, v.sect x = some (g, l) := by
  obtain ⟨⟨g', l⟩, hk, rfl⟩ := Option.map_eq_some_iff.mp h
  exact ⟨l, hk⟩

/-- The laws after a change within the entries, the marks and the lists. -/
theorem View.Within.law (h : v.Within w) (hl : v.Law)
    (hentries : ∀ e, w.has e → e.ref = w.refOf e.tag ∧
      ∃ x, e.anchor = some x ∧ w.stateOf x = some .opened ∧ x ∈ e.candidates.map Candidate.sec)
    (hmarks : ∀ n m, w.markAt n = some m →
      (m = .sighted ↔ ∃ e, w.has e ∧ e.ref = some n ∧ e.placement = none) ∧
      (m = .placed ↔ ∃ e, w.has e ∧ e.ref = some n ∧ e.placement ≠ none))
    (hitems : ∀ x l, w.sect x = some (.opened, l) → ∀ slot,
      (w.PlacedAt slot x → l.count (some slot) = 1) ∧ (¬w.PlacedAt slot x → l.count (some slot) = 0)) : w.Law where
  nodup := h.listed ▸ hl.nodup
  listed := fun x => by rw [h.listed, h.grade]; exact hl.listed x
  reportedNodup := h.reported ▸ hl.reportedNodup
  requestsNodup := h.requests ▸ hl.requestsNodup
  opened := fun x => by rw [h.states, h.grade]; exact hl.opened x
  closing := fun x => by rw [h.states, h.grade]; exact hl.closing x
  empty := fun x l hx => by
    have hstate : v.stateOf x ≠ some .opened := by
      rw [← h.states x, View.stateOf_of_sect hx]
      decide
    rw [h.others x hstate] at hx
    exact hl.empty x l hx
  reported := fun x => by rw [h.reported, h.grade]; exact hl.reported x
  requests := fun x hx => by
    rw [h.requests] at hx
    rw [h.grade]
    exact hl.requests x hx
  entries := hentries
  marks := hmarks
  items := hitems

/-- The laws do not read the item of work. -/
theorem View.Law.setWork (h : v.Law) (work : Work) : View.Law { v with work := work } :=
  ⟨h.nodup, h.listed, h.reportedNodup, h.requestsNodup, h.opened, h.closing, h.empty, h.reported, h.requests, h.entries,
    h.marks, h.items⟩

/-- One entry changed in place. -/
theorem View.Law.replace (hl : v.Law) (hu : v.Unique) (hw : v.Within w) (hold : v.has old)
    (hhas : ∀ e, w.has e ↔ v.has e ∧ e ≠ old ∨ e = new) (hslot : new.slot = old.slot) (htag : new.tag = old.tag)
    (href : new.ref = old.ref)
    (hanchor : ∃ x, new.anchor = some x ∧ v.stateOf x = some .opened ∧ x ∈ new.candidates.map Candidate.sec)
    (hmark : ∀ n m, w.markAt n = some m →
      (old.ref = some n → (m = .sighted ↔ new.placement = none) ∧ (m = .placed ↔ new.placement ≠ none)) ∧
      (old.ref ≠ some n → v.markAt n = some m))
    (hitems : ∀ x l', w.sect x = some (.opened, l') → ∃ l, v.sect x = some (.opened, l) ∧
      (∀ slot, slot ≠ old.slot → l'.count (some slot) = l.count (some slot)) ∧
      (new.placement.map Prod.fst = some x → l'.count (some old.slot) = 1) ∧
      (new.placement.map Prod.fst ≠ some x → l'.count (some old.slot) = 0)) : w.Law := by
  refine hw.law hl (fun e he => ?_) (fun n m hm => ?_) (fun x l' hx slot => ?_)
  · rw [hw.refOf]
    obtain ⟨he, _⟩ | rfl := (hhas e).mp he
    · obtain ⟨hr, y, hy, hopen, hmem⟩ := hl.entries e he
      exact ⟨hr, y, hy, (hw.states y).trans hopen, hmem⟩
    · obtain ⟨y, hy, hopen, hmem⟩ := hanchor
      exact ⟨by rw [href, htag]; exact (hl.entries old hold).1, y, hy, (hw.states y).trans hopen, hmem⟩
  · obtain ⟨hmine, hothers⟩ := hmark n m hm
    by_cases hn : old.ref = some n
    · have honly (Q : Option (SectionId × Confidence) → Prop) :
          (∃ e, w.has e ∧ e.ref = some n ∧ Q e.placement) ↔ Q new.placement := by
        constructor
        · rintro ⟨e, he, hr, hq⟩
          obtain ⟨he, hne⟩ | rfl := (hhas e).mp he
          · exact absurd (hu.ref hl he hold hr hn) hne
          · exact hq
        · exact fun hq => ⟨new, (hhas new).mpr (.inr rfl), href.trans hn, hq⟩
      rw [honly (· = none), honly (· ≠ none)]
      exact hmine hn
    · have hsame (Q : Option (SectionId × Confidence) → Prop) :
          (∃ e, w.has e ∧ e.ref = some n ∧ Q e.placement) ↔ ∃ e, v.has e ∧ e.ref = some n ∧ Q e.placement := by
        constructor
        · rintro ⟨e, he, hr, hq⟩
          obtain ⟨he, _⟩ | rfl := (hhas e).mp he
          · exact ⟨e, he, hr, hq⟩
          · exact absurd (href.symm.trans hr) hn
        · rintro ⟨e, he, hr, hq⟩
          exact ⟨e, (hhas e).mpr (.inl ⟨he, fun h => hn (h ▸ hr)⟩), hr, hq⟩
      rw [hsame (· = none), hsame (· ≠ none)]
      exact hl.marks n m (hothers hn)
  · obtain ⟨l, hv, hother, hin, hout⟩ := hitems x l' hx
    by_cases hs : slot = old.slot
    · have honly : w.PlacedAt slot x ↔ new.placement.map Prod.fst = some x := by
        constructor
        · rintro ⟨e, he, hes, hp⟩
          obtain ⟨he, hne⟩ | rfl := (hhas e).mp he
          · exact absurd (hu.slots e old he hold (hes.trans hs)) hne
          · exact hp
        · exact fun hp => ⟨new, (hhas new).mpr (.inr rfl), hslot.trans hs.symm, hp⟩
      rw [honly, hs]
      exact ⟨hin, hout⟩
    · have hsame : w.PlacedAt slot x ↔ v.PlacedAt slot x := by
        constructor
        · rintro ⟨e, he, hes, hp⟩
          obtain ⟨he, _⟩ | rfl := (hhas e).mp he
          · exact ⟨e, he, hes, hp⟩
          · exact absurd (hes.symm.trans hslot) hs
        · rintro ⟨e, he, hes, hp⟩
          exact ⟨e, (hhas e).mpr (.inl ⟨he, fun h => hs (hes ▸ h ▸ rfl)⟩), hes, hp⟩
      rw [hsame, hother slot hs]
      exact hl.items x l hv slot

/-- The marks when entries leave and their records are DISPOSED. -/
theorem View.Law.marks_removed (hl : v.Law) (hu : v.Unique) (hhas : ∀ e, w.has e ↔ v.has e ∧ ¬P e)
    (hmark : ∀ n m, w.markAt n = some m → ((∃ e, v.has e ∧ P e ∧ e.ref = some n) → m = .disposed) ∧
      ((¬∃ e, v.has e ∧ P e ∧ e.ref = some n) → v.markAt n = some m)) (n : Nat) (m : Mark) (hm : w.markAt n = some m) :
    (m = .sighted ↔ ∃ e, w.has e ∧ e.ref = some n ∧ e.placement = none) ∧
    (m = .placed ↔ ∃ e, w.has e ∧ e.ref = some n ∧ e.placement ≠ none) := by
  obtain ⟨hmine, hothers⟩ := hmark n m hm
  by_cases hn : ∃ e, v.has e ∧ P e ∧ e.ref = some n
  · obtain ⟨a, ha, hpa, har⟩ := hn
    have hnone (e : Sighting) (he : w.has e) (hr : e.ref = some n) : False := by
      obtain ⟨he, hpe⟩ := (hhas e).mp he
      exact hpe (hu.ref hl he ha hr har ▸ hpa)
    rw [hmine ⟨a, ha, hpa, har⟩]
    exact ⟨⟨fun h => absurd h (by decide), fun ⟨e, he, hr, _⟩ => (hnone e he hr).elim⟩,
      ⟨fun h => absurd h (by decide), fun ⟨e, he, hr, _⟩ => (hnone e he hr).elim⟩⟩
  · have hsame (Q : Option (SectionId × Confidence) → Prop) :
        (∃ e, w.has e ∧ e.ref = some n ∧ Q e.placement) ↔ ∃ e, v.has e ∧ e.ref = some n ∧ Q e.placement := by
      constructor
      · rintro ⟨e, he, hr, hq⟩
        exact ⟨e, ((hhas e).mp he).1, hr, hq⟩
      · rintro ⟨e, he, hr, hq⟩
        exact ⟨e, (hhas e).mpr ⟨he, fun hp => hn ⟨e, he, hp, hr⟩⟩, hr, hq⟩
    rw [hsame (· = none), hsame (· ≠ none)]
    exact hl.marks n m (hothers hn)

/-- Where an entry that stays is placed. -/
theorem View.placedAt_removed (hhas : ∀ e, w.has e ↔ v.has e ∧ ¬P e) {slot : Nat}
    (hnone : ¬∃ e, v.has e ∧ P e ∧ e.slot = slot) : w.PlacedAt slot x ↔ v.PlacedAt slot x := by
  constructor
  · rintro ⟨e, he, hes, hp⟩
    exact ⟨e, ((hhas e).mp he).1, hes, hp⟩
  · rintro ⟨e, he, hes, hp⟩
    exact ⟨e, (hhas e).mpr ⟨he, fun hpe => hnone ⟨e, he, hpe, hes⟩⟩, hes, hp⟩

/-- Entries taken out, their records DISPOSED and their list items gone or without a sighting reference. -/
theorem View.Law.remove (hl : v.Law) (hu : v.Unique) (hw : v.Within w) (hhas : ∀ e, w.has e ↔ v.has e ∧ ¬P e)
    (hmark : ∀ n m, w.markAt n = some m → ((∃ e, v.has e ∧ P e ∧ e.ref = some n) → m = .disposed) ∧
      ((¬∃ e, v.has e ∧ P e ∧ e.ref = some n) → v.markAt n = some m))
    (hitems : ∀ x l', w.sect x = some (.opened, l') → ∃ l, v.sect x = some (.opened, l) ∧ ∀ slot,
      ((∃ e, v.has e ∧ P e ∧ e.slot = slot) → l'.count (some slot) = 0) ∧
      ((¬∃ e, v.has e ∧ P e ∧ e.slot = slot) → l'.count (some slot) = l.count (some slot))) : w.Law := by
  refine hw.law hl (fun e he => ?_) (hl.marks_removed hu hhas hmark) (fun x l' hx slot => ?_)
  · rw [hw.refOf]
    obtain ⟨hr, y, hy, hopen, hmem⟩ := hl.entries e ((hhas e).mp he).1
    exact ⟨hr, y, hy, (hw.states y).trans hopen, hmem⟩
  · obtain ⟨l, hv, hslots⟩ := hitems x l' hx
    obtain ⟨hin, hout⟩ := hslots slot
    by_cases hs : ∃ e, v.has e ∧ P e ∧ e.slot = slot
    · obtain ⟨a, ha, hpa, hsa⟩ := hs
      refine ⟨fun ⟨e, he, hes, _⟩ => ?_, fun _ => hin ⟨a, ha, hpa, hsa⟩⟩
      obtain ⟨he, hpe⟩ := (hhas e).mp he
      exact absurd (hu.slots e a he ha (hes.trans hsa.symm) ▸ hpa) hpe
    · rw [View.placedAt_removed hhas hs, hout hs]
      exact hl.items x l hv slot

/-- A new OPEN entry of a record that is not DISPOSED, in a slot and for a tag that have none (R82). -/
theorem View.Law.insert (hl : v.Law) (hw : v.Within w) (hhas : ∀ e, w.has e ↔ e = new ∨ v.has e)
    (hu : ∀ a b n, v.refOf a = some n → v.refOf b = some n → a = b)
    (htag : ∀ e, v.has e → e.tag ≠ new.tag) (href : new.ref = v.refOf new.tag) (hopen : new.placement = none)
    (hanchor : ∃ x, new.anchor = some x ∧ v.stateOf x = some .opened ∧ x ∈ new.candidates.map Candidate.sec)
    (hmark : ∀ n m, w.markAt n = some m → (new.ref = some n → m = .sighted) ∧ (new.ref ≠ some n → v.markAt n = some m))
    (hsect : w.sect = v.sect) : w.Law := by
  have hplaced (slot : Nat) (x : SectionId) : w.PlacedAt slot x ↔ v.PlacedAt slot x := by
    constructor
    · rintro ⟨e, he, hes, hp⟩
      obtain rfl | he := (hhas e).mp he
      · rw [hopen] at hp
        contradiction
      · exact ⟨e, he, hes, hp⟩
    · rintro ⟨e, he, hes, hp⟩
      exact ⟨e, (hhas e).mpr (.inr he), hes, hp⟩
  refine hw.law hl (fun e he => ?_) (fun n m hm => ?_) (fun x l hx slot => ?_)
  · rw [hw.refOf]
    obtain rfl | he := (hhas e).mp he
    · obtain ⟨y, hy, hop, hmem⟩ := hanchor
      exact ⟨href, y, hy, (hw.states y).trans hop, hmem⟩
    · obtain ⟨hr, y, hy, hop, hmem⟩ := hl.entries e he
      exact ⟨hr, y, hy, (hw.states y).trans hop, hmem⟩
  · obtain ⟨hmine, hothers⟩ := hmark n m hm
    by_cases hn : new.ref = some n
    · have hnone (e : Sighting) (he : v.has e) (hr : e.ref = some n) : False :=
        htag e he (hu _ _ n ((hl.entries e he).1 ▸ hr) (href ▸ hn))
      rw [hmine hn]
      refine ⟨⟨fun _ => ⟨new, (hhas new).mpr (.inl rfl), hn, hopen⟩, fun _ => rfl⟩, fun h => absurd h (by decide), ?_⟩
      rintro ⟨e, he, hr, hp⟩
      obtain rfl | he := (hhas e).mp he
      · exact absurd hopen hp
      · exact (hnone e he hr).elim
    · have hsame (Q : Option (SectionId × Confidence) → Prop) :
          (∃ e, w.has e ∧ e.ref = some n ∧ Q e.placement) ↔ ∃ e, v.has e ∧ e.ref = some n ∧ Q e.placement := by
        constructor
        · rintro ⟨e, he, hr, hq⟩
          obtain rfl | he := (hhas e).mp he
          · exact absurd hr hn
          · exact ⟨e, he, hr, hq⟩
        · rintro ⟨e, he, hr, hq⟩
          exact ⟨e, (hhas e).mpr (.inr he), hr, hq⟩
      rw [hsame (· = none), hsame (· ≠ none)]
      exact hl.marks n m (hothers hn)
  · rw [hplaced]
    rw [hsect] at hx
    exact hl.items x l hx slot

/-! ### Sections opened, asked to close, closing and closed -/

/-- `w` has the entries and marks of `v`, and its sections but one. -/
structure View.Beside (x : SectionId) (v w : View) : Prop where
  markAt : w.markAt = v.markAt
  refOf : w.refOf = v.refOf
  has : w.has = v.has
  sect : ∀ y, y ≠ x → w.sect y = v.sect y
  grade : ∀ y, y ≠ x → w.grade y = v.grade y

theorem View.Beside.stateOf (h : v.Beside x w) {y : SectionId} (hy : y ≠ x) : w.stateOf y = v.stateOf y :=
  congrArg (Option.map Prod.fst) (h.sect y hy)

theorem View.Beside.placedAt (h : v.Beside x w) (slot : Nat) (y : SectionId) : w.PlacedAt slot y ↔ v.PlacedAt slot y := by
  rw [View.PlacedAt, View.PlacedAt, h.has]

/-- The entries of sections that stand. -/
theorem View.Beside.entries (h : v.Beside x w) (hl : v.Law) (hx : ∀ e, v.has e → e.anchor = some x → w.stateOf x = some .opened)
    (e : Sighting) (he : w.has e) : e.ref = w.refOf e.tag ∧
      ∃ y, e.anchor = some y ∧ w.stateOf y = some .opened ∧ y ∈ e.candidates.map Candidate.sec := by
  rw [h.has] at he
  obtain ⟨hr, y, hy, hopen, hmem⟩ := hl.entries e he
  rw [h.refOf]
  refine ⟨hr, y, hy, ?_, hmem⟩
  by_cases hyx : y = x
  · exact hyx ▸ hx e he (hyx ▸ hy)
  · exact (h.stateOf hyx).trans hopen

theorem View.Beside.marks (h : v.Beside x w) (hl : v.Law) (n : Nat) (m : Mark) (hm : w.markAt n = some m) :
    (m = .sighted ↔ ∃ e, w.has e ∧ e.ref = some n ∧ e.placement = none) ∧
    (m = .placed ↔ ∃ e, w.has e ∧ e.ref = some n ∧ e.placement ≠ none) := by
  rw [h.has]
  exact hl.marks n m (h.markAt ▸ hm)

/-- No entry is placed in a section that is not OPEN. -/
theorem View.Law.not_placedAt (hl : v.Law) (hx : v.stateOf x ≠ some .opened) (slot : Nat) : ¬v.PlacedAt slot x := by
  rintro ⟨e, he, _, hp⟩
  obtain ⟨_, y, hy, hopen, _⟩ := hl.entries e he
  obtain ⟨⟨z, k⟩, hplacement, hz⟩ := Option.map_eq_some_iff.mp hp
  rw [Sighting.anchor, hplacement] at hy
  have hyx : y = x := (Option.some.inj hy).symm.trans hz
  exact hx (hyx ▸ hopen)

/-- An UNVISITED section opens (R106). -/
theorem View.Law.opening (hl : v.Law) (h : v.Beside x w) (hx : v.stateOf x = some .unvisited)
    (hsect : w.sect x = some (.opened, [])) (hgrade : w.grade x = some .faced) (hlisted : w.listed = v.listed ++ [x])
    (hreported : w.reported = v.reported) (hrequests : w.requests = v.requests) : w.Law := by
  have hopened : w.stateOf x = some .opened := View.stateOf_of_sect hsect
  have hnone : v.grade x = none := by
    by_contra hne
    by_cases hc : v.grade x = some .closing
    · rw [(hl.closing x).mpr hc] at hx
      exact absurd hx (by decide)
    · rw [(hl.opened x).mpr ⟨hne, hc⟩] at hx
      exact absurd hx (by decide)
  have hnew : x ∉ v.listed := fun hmem => (hl.listed x).mp hmem hnone
  refine ⟨?_, fun y => ?_, hreported ▸ hl.reportedNodup, hrequests ▸ hl.requestsNodup, fun y => ?_, fun y => ?_, fun y l hy => ?_,
    fun y => ?_, fun y hy => ?_, h.entries hl (fun _ _ _ => hopened), h.marks hl, fun y l hy slot => ?_⟩
  · rw [hlisted]
    exact hl.nodup.append (List.nodup_singleton x) (List.disjoint_singleton.mpr hnew)
  · rw [hlisted, List.mem_append, List.mem_singleton]
    by_cases hyx : y = x
    · rw [hyx, hgrade]
      exact ⟨fun _ => Option.some_ne_none _, fun _ => .inr rfl⟩
    · rw [h.grade y hyx, ← hl.listed y]
      exact ⟨fun hm => hm.resolve_right hyx, .inl⟩
  · by_cases hyx : y = x
    · rw [hyx, hopened, hgrade]
      exact ⟨fun _ => ⟨Option.some_ne_none _, by decide⟩, fun _ => rfl⟩
    · rw [h.stateOf hyx, h.grade y hyx]
      exact hl.opened y
  · by_cases hyx : y = x
    · rw [hyx, hopened, hgrade]
      exact ⟨fun hc => absurd hc (by decide), fun hc => absurd hc (by decide)⟩
    · rw [h.stateOf hyx, h.grade y hyx]
      exact hl.closing y
  · by_cases hyx : y = x
    · rw [hyx, hsect] at hy
      cases hy
    · rw [h.sect y hyx] at hy
      exact hl.empty y l hy
  · rw [hreported, hl.reported]
    by_cases hyx : y = x
    · rw [hyx, hgrade, hnone]
      exact ⟨fun hc => absurd hc (by decide), fun hc => absurd hc (by decide)⟩
    · rw [h.grade y hyx]
  · rw [hrequests] at hy
    have hreq := hl.requests y hy
    have hyx : y ≠ x := fun hyx => by
      rw [hyx, hnone] at hreq
      contradiction
    rw [h.grade y hyx]
    exact hreq
  · rw [h.placedAt]
    by_cases hyx : y = x
    · rw [hyx, hsect] at hy
      have hnil : l = [] := (congrArg Prod.snd (Option.some.inj hy)).symm
      rw [hyx, hnil]
      refine ⟨fun hp => absurd hp (hl.not_placedAt ?_ slot), fun _ => rfl⟩
      rw [hx]
      decide
    · rw [h.sect y hyx] at hy
      exact hl.items y l hy slot

/-- A section whose close has begun is REQUESTED, and the requests of others stand (R108, R110). -/
theorem View.Law.requesting (hl : v.Law) (h : v.Beside x w) (hx : v.stateOf x = some .opened) (hsect : w.sect x = v.sect x)
    (hgrade : w.grade x = some .requested) (hlisted : w.listed = v.listed) (hreported : w.reported = v.reported)
    (hnodup : w.requests.Nodup) (hrequests : ∀ y ∈ w.requests, y = x ∨ y ∈ v.requests) : w.Law := by
  have hstate (y : SectionId) : w.stateOf y = v.stateOf y := by
    by_cases hyx : y = x
    · rw [hyx]
      exact congrArg (Option.map Prod.fst) hsect
    · exact h.stateOf hyx
  have hall (y : SectionId) : w.sect y = v.sect y := by
    by_cases hyx : y = x
    · rw [hyx, hsect]
    · exact h.sect y hyx
  obtain ⟨hsome, hnc⟩ := (hl.opened x).mp hx
  refine ⟨hlisted ▸ hl.nodup, fun y => ?_, hreported ▸ hl.reportedNodup, hnodup, fun y => ?_, fun y => ?_, fun y l hy => ?_,
    fun y => ?_, fun y hy => ?_, h.entries hl (fun _ _ _ => (hstate x).trans hx), h.marks hl, fun y l hy slot => ?_⟩
  · rw [hlisted, hl.listed]
    by_cases hyx : y = x
    · rw [hyx, hgrade]
      exact ⟨fun _ => Option.some_ne_none _, fun _ => hsome⟩
    · rw [h.grade y hyx]
  · rw [hstate, hl.opened]
    by_cases hyx : y = x
    · rw [hyx, hgrade]
      exact ⟨fun _ => ⟨Option.some_ne_none _, by decide⟩, fun _ => ⟨hsome, hnc⟩⟩
    · rw [h.grade y hyx]
  · rw [hstate, hl.closing]
    by_cases hyx : y = x
    · rw [hyx, hgrade]
      exact ⟨fun hc => absurd hc hnc, fun hc => absurd hc (by decide)⟩
    · rw [h.grade y hyx]
  · rw [hall y] at hy
    exact hl.empty y l hy
  · rw [hreported, hl.reported]
    by_cases hyx : y = x
    · rw [hyx, hgrade]
      exact ⟨fun hc => absurd hc hnc, fun hc => absurd hc (by decide)⟩
    · rw [h.grade y hyx]
  · by_cases hyx : y = x
    · rw [hyx, hgrade]
    · rw [h.grade y hyx]
      exact hl.requests y ((hrequests y hy).resolve_left hyx)
  · rw [h.placedAt]
    rw [hall y] at hy
    exact hl.items y l hy slot

/-- A CLOSING section is CLOSED: its items released, its entry out of the open-section list, the reporter behind it (R119). -/
theorem View.Law.closed (hl : v.Law) (h : v.Beside x w) (hreported : v.reported = x :: w.reported)
    (hsect : w.sect x = some (.closed, [])) (hgrade : w.grade x = none) (hlisted : w.listed = v.listed.filter (· != x))
    (hrequests : w.requests = v.requests) : w.Law := by
  have hclosed : w.stateOf x = some .closed := View.stateOf_of_sect hsect
  have hx : v.grade x = some .closing := (hl.reported x).mp (hreported ▸ List.mem_cons_self)
  have hnotOpen : v.stateOf x ≠ some .opened := fun ho => ((hl.opened x).mp ho).2 hx
  have hnodup := hl.reportedNodup
  rw [hreported] at hnodup
  obtain ⟨hout, hrest⟩ := List.nodup_cons.mp hnodup
  refine ⟨hlisted ▸ hl.nodup.filter _, fun y => ?_, hrest, hrequests ▸ hl.requestsNodup, fun y => ?_, fun y => ?_,
    fun y l hy => ?_, fun y => ?_, fun y hy => ?_, h.entries hl (fun e he ha => ?_), h.marks hl, fun y l hy slot => ?_⟩
  · rw [hlisted, List.mem_filter, bne_iff_ne, hl.listed]
    by_cases hyx : y = x
    · rw [hyx, hgrade]
      exact ⟨fun hm => absurd rfl hm.2, fun hm => absurd rfl hm⟩
    · rw [h.grade y hyx]
      exact and_iff_left hyx
  · by_cases hyx : y = x
    · rw [hyx, hclosed, hgrade]
      exact ⟨fun hc => absurd hc (by decide), fun hc => absurd rfl hc.1⟩
    · rw [h.stateOf hyx, h.grade y hyx]
      exact hl.opened y
  · by_cases hyx : y = x
    · rw [hyx, hclosed, hgrade]
      exact ⟨fun hc => absurd hc (by decide), fun hc => absurd hc (by decide)⟩
    · rw [h.stateOf hyx, h.grade y hyx]
      exact hl.closing y
  · by_cases hyx : y = x
    · rw [hyx, hsect] at hy
      cases hy
    · rw [h.sect y hyx] at hy
      exact hl.empty y l hy
  · by_cases hyx : y = x
    · rw [hyx, hgrade]
      exact ⟨fun hm => absurd hm hout, fun hc => absurd hc (by decide)⟩
    · rw [h.grade y hyx, ← hl.reported, hreported, List.mem_cons]
      exact (or_iff_right hyx).symm
  · rw [hrequests] at hy
    have hreq := hl.requests y hy
    have hyx : y ≠ x := fun hyx => by
      rw [hyx, hx] at hreq
      exact absurd hreq (by decide)
    rw [h.grade y hyx]
    exact hreq
  · obtain ⟨_, y, hy, hopen, _⟩ := hl.entries e he
    exact absurd (Option.some.inj (hy.symm.trans ha) ▸ hopen) hnotOpen
  · rw [h.placedAt]
    by_cases hyx : y = x
    · rw [hyx, hsect] at hy
      cases hy
    · rw [h.sect y hyx] at hy
      exact hl.items y l hy slot

/-- A REQUESTED section enters CLOSING, its entries retired (R92 steps 2 and 3). -/
theorem View.Law.closeOff (hl : v.Law) (hu : v.Unique) (hx : v.grade x = some .requested) (hnot : x ∉ v.requests)
    (hplaced : ∀ e, v.has e → e.anchor = some x → e.placement.map Prod.fst = some x)
    (hhas : ∀ e, w.has e ↔ v.has e ∧ ¬(e.placement.map Prod.fst = some x))
    (hmark : ∀ n m, w.markAt n = some m →
      ((∃ e, v.has e ∧ e.placement.map Prod.fst = some x ∧ e.ref = some n) → m = .disposed) ∧
      ((¬∃ e, v.has e ∧ e.placement.map Prod.fst = some x ∧ e.ref = some n) → v.markAt n = some m))
    (hrefOf : w.refOf = v.refOf) (hstate : w.stateOf x = some .closing) (hsect : ∀ y, y ≠ x → w.sect y = v.sect y)
    (hgradeAt : w.grade x = some .closing) (hgrade : ∀ y, y ≠ x → w.grade y = v.grade y) (hlisted : w.listed = v.listed)
    (hreported : w.reported = v.reported ++ [x]) (hrequests : w.requests = v.requests) : w.Law := by
  have hstates {y : SectionId} (hyx : y ≠ x) : w.stateOf y = v.stateOf y := congrArg (Option.map Prod.fst) (hsect y hyx)
  have hsome : v.grade x ≠ none := by rw [hx]; exact Option.some_ne_none _
  have hout : x ∉ v.reported := fun hm => by
    rw [(hl.reported x).mp hm] at hx
    exact absurd hx (by decide)
  refine ⟨hlisted ▸ hl.nodup, fun y => ?_, ?_, hrequests ▸ hl.requestsNodup, fun y => ?_, fun y => ?_, fun y l hy => ?_, fun y => ?_,
    fun y hy => ?_, fun e he => ?_, hl.marks_removed hu hhas hmark, fun y l hy slot => ?_⟩
  · rw [hlisted, hl.listed]
    by_cases hyx : y = x
    · rw [hyx, hgradeAt]
      exact ⟨fun _ => Option.some_ne_none _, fun _ => hsome⟩
    · rw [hgrade y hyx]
  · rw [hreported]
    exact hl.reportedNodup.append (List.nodup_singleton x) (List.disjoint_singleton.mpr hout)
  · by_cases hyx : y = x
    · rw [hyx, hstate, hgradeAt]
      exact ⟨fun hc => absurd hc (by decide), fun hc => absurd rfl hc.2⟩
    · rw [hstates hyx, hgrade y hyx]
      exact hl.opened y
  · by_cases hyx : y = x
    · rw [hyx, hstate, hgradeAt]
      exact ⟨fun _ => rfl, fun _ => rfl⟩
    · rw [hstates hyx, hgrade y hyx]
      exact hl.closing y
  · by_cases hyx : y = x
    · have := View.stateOf_of_sect hy
      rw [hyx, hstate] at this
      exact absurd this (by decide)
    · rw [hsect y hyx] at hy
      exact hl.empty y l hy
  · rw [hreported, List.mem_append, List.mem_singleton, hl.reported]
    by_cases hyx : y = x
    · rw [hyx, hgradeAt]
      exact ⟨fun _ => rfl, fun _ => .inr rfl⟩
    · rw [hgrade y hyx]
      exact or_iff_left hyx
  · rw [hrequests] at hy
    rw [hgrade y (fun hyx => hnot (hyx ▸ hy))]
    exact hl.requests y hy
  · obtain ⟨he, hne⟩ := (hhas e).mp he
    obtain ⟨hr, y, hy, hopen, hmem⟩ := hl.entries e he
    rw [hrefOf]
    have hyx : y ≠ x := fun hyx => hne (hplaced e he (hyx ▸ hy))
    exact ⟨hr, y, hy, (hstates hyx).trans hopen, hmem⟩
  · by_cases hyx : y = x
    · have := View.stateOf_of_sect hy
      rw [hyx, hstate] at this
      exact absurd this (by decide)
    · rw [hsect y hyx] at hy
      have hsame : w.PlacedAt slot y ↔ v.PlacedAt slot y := by
        constructor
        · rintro ⟨e, he, hes, hp⟩
          exact ⟨e, ((hhas e).mp he).1, hes, hp⟩
        · rintro ⟨e, he, hes, hp⟩
          exact ⟨e, (hhas e).mpr ⟨he, fun hpx => hyx (Option.some.inj (hp.symm.trans hpx))⟩, hes, hp⟩
      rw [hsame]
      exact hl.items y l hy slot

end Sys2Proof.Machine
end

section
/-! SUPPORT. The view under the operations on sections, marks and entries, and what the handling of one entry keeps (sections 5.4
to 5.6, R113). -/

namespace Sys2Proof.Machine

variable {s t u : State} {x : SectionId} {k : Nat} {b : Prop} {v : Sighting}

/-! ### The view under the named operations -/

theorem findSection_update {f : Section → Section} (hid : ∀ y, (f y).id = y.id) (sections : List Section) (x z : SectionId) :
    findSection (sections.map (fun y => if y.id = x then f y else y)) z =
      if z = x then (findSection sections z).map f else findSection sections z := by
  have hmap : findSection (sections.map (fun y => if y.id = x then f y else y)) z =
      (findSection sections z).map (fun y => if y.id = x then f y else y) := by
    rw [findSection, List.find?_map]
    congr 2
    funext y
    rw [Function.comp_apply]
    split
    · rw [hid]
    · rfl
  rw [hmap]
  cases hz : findSection sections z with
  | none => split <;> rfl
  | some y =>
    rw [Option.map_some, findSection_id hz]
    split <;> rfl

theorem findOpen_update {f : OpenSection → OpenSection} (hsec : ∀ o, (f o).sec = o.sec) (openList : List OpenSection)
    (x z : SectionId) : findOpen (openList.map (fun o => if o.sec = x then f o else o)) z =
      if z = x then (findOpen openList z).map f else findOpen openList z := by
  have hmap : findOpen (openList.map (fun o => if o.sec = x then f o else o)) z =
      (findOpen openList z).map (fun o => if o.sec = x then f o else o) := by
    rw [findOpen, List.find?_map]
    congr 2
    funext o
    rw [Function.comp_apply]
    split
    · rw [hsec]
    · rfl
  rw [hmap]
  cases hz : findOpen openList z with
  | none => split <;> rfl
  | some o =>
    rw [Option.map_some, findOpen_sec hz]
    split <;> rfl

theorem State.modSection_view {f : Section → Section} {g : SectionState × List (Option Nat) → SectionState × List (Option Nat)}
    (s : State) (x : SectionId) (hid : ∀ y, (f y).id = y.id) (hkey : ∀ y, (f y).key = g y.key) : (s.modSection x f).view =
      { s.view with sect := fun z => if z = x then (s.view.sect z).map g else s.view.sect z } := by
  have hsect : (s.modSection x f).view.sect = fun z => if z = x then (s.view.sect z).map g else s.view.sect z := by
    funext z
    have hz := congrArg (Option.map Section.key) (findSection_update hid s.tst.sections x z)
    refine hz.trans ?_
    split
    · show ((findSection s.tst.sections z).map f).map Section.key = ((findSection s.tst.sections z).map Section.key).map g
      rw [Option.map_map, Option.map_map]
      congr 1
      funext y
      exact hkey y
    · rfl
  exact congrArg (fun h => { s.view with sect := h }) hsect

/-- A change of a section that the laws do not read. -/
theorem State.modSection_view_same {f : Section → Section} (s : State) (x : SectionId) (hid : ∀ y, (f y).id = y.id)
    (hkey : ∀ y, (f y).key = y.key) : (s.modSection x f).view = s.view := by
  rw [s.modSection_view x (g := id) hid hkey]
  simp only [Option.map_id, id_eq, ite_self]

theorem State.modOpen_view {f : OpenSection → OpenSection} {g : CloseStage → CloseStage} (s : State) (x : SectionId)
    (hsec : ∀ o, (f o).sec = o.sec) (hstage : ∀ o, (f o).stage.enter = g o.stage.enter) : (s.modOpen x f).view =
      { s.view with grade := fun z => if z = x then (s.view.grade z).map g else s.view.grade z } := by
  have hgrade : (s.modOpen x f).view.grade = fun z => if z = x then (s.view.grade z).map g else s.view.grade z := by
    funext z
    have hz := congrArg (Option.map (fun o : OpenSection => o.stage.enter)) (findOpen_update hsec s.sru.openList x z)
    refine hz.trans ?_
    split
    · show ((findOpen s.sru.openList z).map f).map (fun o : OpenSection => o.stage.enter) =
        ((findOpen s.sru.openList z).map (fun o : OpenSection => o.stage.enter)).map g
      rw [Option.map_map, Option.map_map]
      congr 1
      funext o
      exact hstage o
    · rfl
  have hlisted : (s.modOpen x f).view.listed = s.view.listed := by
    show (s.sru.openList.map (fun o => if o.sec = x then f o else o)).map OpenSection.sec = s.sru.openList.map OpenSection.sec
    rw [List.map_map]
    refine List.map_congr_left (fun o _ => ?_)
    rw [Function.comp_apply]
    split
    · exact hsec o
    · rfl
  exact congrArg₂ (fun h l => { s.view with grade := h, listed := l }) hgrade hlisted

theorem State.modOpen_view_same {f : OpenSection → OpenSection} (s : State) (x : SectionId) (hsec : ∀ o, (f o).sec = o.sec)
    (hstage : ∀ o, (f o).stage.enter = o.stage.enter) : (s.modOpen x f).view = s.view := by
  rw [s.modOpen_view x (g := id) hsec hstage]
  simp only [Option.map_id, id_eq, ite_self]

theorem findHolding_tags (holdings : List Holding) (t : TagCode) :
    findHolding holdings t = (holdings.map Holding.tag).findIdx? (fun a => a == t) := by
  rw [List.findIdx?_map]
  rfl

theorem map_tag_markedAt (holdings : List Holding) (ref : Option Nat) (m : Mark) :
    (markedAt holdings ref m).map Holding.tag = holdings.map Holding.tag := by
  refine List.ext_getElem? (fun i => ?_)
  rw [List.getElem?_map, List.getElem?_map, getElem?_markedAt, Option.map_map]
  congr 1
  funext h
  rw [Function.comp_apply]
  split <;> rfl

theorem State.mark_view (s : State) (ref : Option Nat) (m : Mark) : (s.mark ref m).view =
    { s.view with markAt := fun n => if ref = some n then (s.view.markAt n).map (fun _ => m) else s.view.markAt n } := by
  have hmark : (s.mark ref m).view.markAt =
      fun n => if ref = some n then (s.view.markAt n).map (fun _ => m) else s.view.markAt n := by
    funext n
    rw [State.mark_eq]
    show ((markedAt s.tst.holdings ref m)[n]?).map Holding.mark = _
    rw [getElem?_markedAt, Option.map_map]
    split
    next h =>
      show _ = ((s.tst.holdings[n]?).map Holding.mark).map (fun _ => m)
      rw [Option.map_map]
      rfl
    next h =>
      show _ = (s.tst.holdings[n]?).map Holding.mark
      rfl
  have href : (s.mark ref m).view.refOf = s.view.refOf := by
    funext t
    rw [State.mark_eq]
    show findHolding (markedAt s.tst.holdings ref m) t = findHolding s.tst.holdings t
    rw [findHolding_tags, map_tag_markedAt, ← findHolding_tags]
  have hrest : (s.mark ref m).view = { s.view with markAt := (s.mark ref m).view.markAt, refOf := (s.mark ref m).view.refOf } := by
    rw [State.mark_eq]
    rfl
  rw [hrest, hmark, href]

theorem State.setTable_view (s : State) (table : List Sighting) :
    (s.setTable table).view = { s.view with has := fun e => e ∈ table } := rfl

theorem State.setWork_view (s : State) (w : Work) : (s.setWork w).view = { s.view with work := w } := rfl

theorem State.view_congr (htst : t.tst = s.tst) (hsru : t.sru = s.sru) (htable : t.spe.table = s.spe.table)
    (hwork : t.spe.work = s.spe.work) (hrequests : t.spe.requests = s.spe.requests) : t.view = s.view := by
  unfold State.view
  rw [htst, hsru, htable, hwork, hrequests]

theorem State.writeRecord_view (s : State) (r : Record) : (s.writeRecord r).view = s.view :=
  State.view_congr (by simp) (by simp) (by simp) (by simp) (by simp)

theorem State.tallyFinding_view (s : State) (x : SectionId) (k : FindingKind) : (s.tallyFinding x k).view = s.view := by
  have hopen := s.modOpen_view_same x (f := fun o => { o with tallies := o.tallies.raise k }) (fun _ => rfl) (fun _ => rfl)
  exact hopen

/-- The lists of one section, if any, changed. -/
def View.withSlots (v : View) (p : Option SectionId) (g : List (Option Nat) → List (Option Nat)) : View :=
  { v with sect := fun z => if p = some z then (v.sect z).map (fun a => (a.1, g a.2)) else v.sect z }

theorem State.modList_view {f : List Item → List Item} {g : List (Option Nat) → List (Option Nat)} (s : State) (x : SectionId)
    (hg : ∀ l, (f l).map Item.slot = g (l.map Item.slot)) :
    (s.modSection x (fun y => { y with list := f y.list })).view = s.view.withSlots (some x) g := by
  rw [s.modSection_view (f := fun y => { y with list := f y.list }) x (g := fun a => (a.1, g a.2)) (fun _ => rfl)
    (fun y => congrArg (Prod.mk y.state) (hg y.list))]
  simp only [View.withSlots, Option.some_inj, eq_comm]

/-! ### What is kept -/

/-- The sighting table is sound, and the laws of the view hold where `b` does. -/
structure State.Kept (b : Prop) (s : State) : Prop where
  table : TableSound s.spe.table
  rest : ∀ d, s.spe.work = .waitRoom d → RestSound s.spe.table d.slot d.rest
  law : b → s.view.Law
  work : b → s.view.WorkLaw

theorem State.Kept.congr (h : s.Kept b) (htable : t.spe.table = s.spe.table) (hview : t.view = s.view) : t.Kept b := by
  have hwork : t.spe.work = s.spe.work := congrArg View.work hview
  exact ⟨htable ▸ h.table, fun d hd => htable ▸ h.rest d (hwork ▸ hd), fun hb => hview ▸ h.law hb, fun hb => hview ▸ h.work hb⟩

theorem State.kept_of_idle (hidle : s.spe.work = .idle) (htable : TableSound s.spe.table) (hlaw : b → s.view.Law) :
    s.Kept b :=
  ⟨htable, fun d hd => by rw [hidle] at hd; contradiction, hlaw, fun _ => View.WorkLaw.of_idle hidle⟩

theorem State.Kept.toIdle (h : s.Kept b) : (s.setWork .idle).Kept b :=
  State.kept_of_idle rfl h.table (fun hb => (h.law hb).setWork .idle)

/-- The entry in slot `k` has been dealt with: another entry stands as it was, and that in the slot, if one is left, is the one
that stood there. -/
structure State.Handled (b : Prop) (k : Nat) (s t : State) : Prop where
  kept : t.Kept b
  within : b → s.view.Within t.view
  others : ∀ e, e.slot ≠ k → (e ∈ t.spe.table ↔ e ∈ s.spe.table)
  mine : ∀ e ∈ t.spe.table, e.slot = k → (∃ a ∈ s.spe.table, a.slot = k ∧ a.tag = e.tag) ∧
    (e.placement = none → e ∈ s.spe.table ∧ t.spe.work ≠ .idle)
  marks : ∀ n, (∀ e ∈ s.spe.table, e.slot = k → e.ref ≠ some n) → t.view.markAt n = s.view.markAt n

/-- Nothing has been done, as no entry stands in the slot. -/
theorem State.Handled.of_none (h : s.Kept b) (hnone : entryAt s.spe.table k = none) : s.Handled b k s :=
  ⟨h, fun _ => View.Within.refl _, fun _ _ => Iff.rfl, fun _ he hk => absurd hk (entryAt_eq_none hnone he), fun _ _ => rfl⟩

theorem State.Handled.congr (h : u.Handled b k t) (htable : u.spe.table = s.spe.table) (hview : u.view = s.view) :
    s.Handled b k t :=
  ⟨h.kept, fun hb => hview ▸ h.within hb, fun e hk => htable ▸ h.others e hk, fun e he hk => htable ▸ h.mine e he hk,
    fun n hn => hview ▸ h.marks n (htable ▸ hn)⟩

/-! ### An entry taken out -/

theorem View.anchored_opened {v : View} (hl : v.Law) {e : Sighting} {c : Confidence} (he : v.has e)
    (hp : e.placement = some (x, c)) : v.stateOf x = some .opened := by
  obtain ⟨_, y, hy, hopen, _⟩ := hl.entries e he
  rw [Sighting.anchor, hp] at hy
  exact Option.some.inj hy ▸ hopen

/-- An entry taken out with its record DISPOSED, where the lists lose its items or their references to it. -/
theorem State.handled_of_removed (h : s.Kept b) (hv : v ∈ s.spe.table) {g : List (Option Nat) → List (Option Nat)}
    (htable : t.spe.table = s.spe.table.filter (fun w => w.slot != v.slot)) (hidle : t.spe.work = .idle)
    (hview : t.view = { s.view with
      has := fun e => e ∈ s.spe.table.filter (fun w => w.slot != v.slot)
      markAt := fun n => if v.ref = some n then (s.view.markAt n).map (fun _ => Mark.disposed) else s.view.markAt n
      sect := fun z => if v.placement.map Prod.fst = some z then (s.view.sect z).map (fun a => (a.1, g a.2)) else s.view.sect z })
    (hg : ∀ l slot, (slot = v.slot → (g l).count (some slot) = 0) ∧ (slot ≠ v.slot → (g l).count (some slot) = l.count (some slot))) :
    s.Handled b v.slot t := by
  have hhas (e : Sighting) : t.view.has e ↔ s.view.has e ∧ ¬e.slot = v.slot := by
    rw [hview]
    exact mem_freed
  have hin (e : Sighting) : e ∈ t.spe.table ↔ e ∈ s.spe.table ∧ e.slot ≠ v.slot := by rw [htable, mem_freed]
  have hmarkAt (n : Nat) : t.view.markAt n = if v.ref = some n then (s.view.markAt n).map (fun _ => Mark.disposed)
      else s.view.markAt n := by rw [hview]
  have hsect (z : SectionId) : t.view.sect z = if v.placement.map Prod.fst = some z then
      (s.view.sect z).map (fun a => (a.1, g a.2)) else s.view.sect z := by rw [hview]
  have hwithin (hb : b) : s.view.Within t.view := by
    have hl := h.law hb
    refine ⟨by rw [hview], by rw [hview], by rw [hview], by rw [hview], by rw [hview], fun z => ?_, fun z hz => ?_⟩
    · rw [View.stateOf, hsect, View.stateOf]
      split
      · rw [Option.map_map]
        rfl
      · rfl
    · rw [hsect, if_neg]
      intro hp
      obtain ⟨⟨y, c⟩, hpl, rfl⟩ := Option.map_eq_some_iff.mp hp
      exact hz (View.anchored_opened hl hv hpl)
  refine ⟨State.kept_of_idle hidle (htable ▸ h.table.filter _) (fun hb => ?_), hwithin, fun e hk => ?_, fun e he hk => ?_,
    fun n hn => ?_⟩
  · have hl := h.law hb
    have hu := State.view_unique h.table
    refine hl.remove hu (hwithin hb) hhas (fun n m hm => ?_) (fun z l' hz => ?_)
    · have hiff : (∃ e, s.view.has e ∧ e.slot = v.slot ∧ e.ref = some n) ↔ v.ref = some n :=
        ⟨fun ⟨e, he, hes, her⟩ => hu.slots e v he hv hes ▸ her, fun hr => ⟨v, hv, rfl, hr⟩⟩
      rw [hiff]
      rw [hmarkAt] at hm
      refine ⟨fun hr => ?_, fun hr => ?_⟩
      · rw [if_pos hr] at hm
        obtain ⟨_, _, rfl⟩ := Option.map_eq_some_iff.mp hm
        rfl
      · rwa [if_neg hr] at hm
    · have hiff (slot : Nat) : (∃ e, s.view.has e ∧ e.slot = v.slot ∧ e.slot = slot) ↔ slot = v.slot :=
        ⟨fun ⟨e, _, hev, hes⟩ => hes.symm.trans hev, fun hs => ⟨v, hv, rfl, hs.symm⟩⟩
      rw [hsect] at hz
      by_cases hp : v.placement.map Prod.fst = some z
      · rw [if_pos hp] at hz
        obtain ⟨⟨g', l⟩, hl', heq⟩ := Option.map_eq_some_iff.mp hz
        obtain ⟨rfl, rfl⟩ := Prod.mk.inj heq
        refine ⟨l, hl', fun slot => ?_⟩
        rw [hiff]
        exact hg l slot
      · rw [if_neg hp] at hz
        refine ⟨l', hz, fun slot => ?_⟩
        rw [hiff]
        refine ⟨fun hs => ?_, fun _ => rfl⟩
        refine (hl.items z l' hz slot).2 ?_
        rintro ⟨e, he, hes, hep⟩
        exact hp (hu.slots e v he hv (hes.trans hs) ▸ hep)
  · rw [hin]
    exact and_iff_left hk
  · exact absurd hk ((hin e).mp he).2
  · rw [hmarkAt, if_neg (hn v hv rfl)]

theorem State.finishDisposal_handled (h : s.Kept b) (hidle : s.spe.work = .idle) (k : Nat) :
    s.Handled b k (s.finishDisposal k) := by
  cases hentry : entryAt s.spe.table k with
  | none =>
    have hsame : s.finishDisposal k = s := by rw [State.finishDisposal, hentry]
    rw [hsame]
    exact .of_none h hentry
  | some v =>
    obtain ⟨hv, rfl⟩ := entryAt_mem hentry
    have hcount (l : List (Option Nat)) (slot : Nat) :
        (slot = v.slot → (l.filter (· != some v.slot)).count (some slot) = 0) ∧
        (slot ≠ v.slot → (l.filter (· != some v.slot)).count (some slot) = l.count (some slot)) := by
      refine ⟨fun hs => List.count_eq_zero.mpr (fun hmem => ?_), fun hs => List.count_filter ?_⟩
      · rw [hs] at hmem
        exact absurd rfl (bne_iff_ne.mp (List.mem_filter.mp hmem).2)
      · rw [bne_iff_ne]
        exact fun hc => hs (Option.some.inj hc)
    have hcases : ∃ u : State, s.finishDisposal v.slot = (u.mark v.ref .disposed).freeSlot v.slot ∧ u.spe = s.spe ∧
        u.view = s.view.withSlots (v.placement.map Prod.fst) (·.filter (· != some v.slot)) := by
      rw [State.finishDisposal, hentry]
      dsimp only
      cases hp : v.placement with
      | none => exact ⟨s, rfl, rfl, rfl⟩
      | some p =>
        refine ⟨s.removeItem p.1 v.slot, rfl, by simp, ?_⟩
        exact s.modList_view p.1 (fun l => by rw [List.filter_map]; rfl)
    obtain ⟨u, hu, hspe, hview⟩ := hcases
    have hmark : (u.mark v.ref .disposed).spe = s.spe := (u.mark_frame v.ref .disposed).2.2.2.2.2.2.1.trans hspe
    have htable : (s.finishDisposal v.slot).spe.table = s.spe.table.filter (fun w => w.slot != v.slot) := by
      rw [hu, ← hmark]
      rfl
    refine State.handled_of_removed h hv htable ?_ ?_ hcount
    · rw [hu]
      exact (congrArg Spe.work hmark).trans hidle
    · rw [hu, State.freeSlot, State.setTable_view, State.mark_view, hview, hmark]
      rfl

/-- An early retire of a PLACED entry (R98). -/
theorem State.earlyRetire_handled (h : s.Kept b) (hidle : s.spe.work = .idle)
    (hplaced : ∀ e ∈ s.spe.table, e.slot = k → e.placement ≠ none) : s.Handled b k (s.earlyRetire k) := by
  cases hentry : entryAt s.spe.table k with
  | none =>
    have hsame : s.earlyRetire k = s := by rw [State.earlyRetire, hentry]
    rw [hsame]
    exact .of_none h hentry
  | some v =>
    obtain ⟨hv, rfl⟩ := entryAt_mem hentry
    obtain ⟨⟨x, c⟩, hp⟩ := Option.ne_none_iff_exists'.mp (hplaced v hv rfl)
    have hcount (l : List (Option Nat)) (slot : Nat) :
        (slot = v.slot → (l.map (fun a => if a = some v.slot then none else a)).count (some slot) = 0) ∧
        (slot ≠ v.slot → (l.map (fun a => if a = some v.slot then none else a)).count (some slot) = l.count (some slot)) := by
      refine ⟨fun hs => List.count_eq_zero.mpr (fun hmem => ?_), fun hs => ?_⟩
      · obtain ⟨a, _, ha⟩ := List.mem_map.mp hmem
        rw [hs] at ha
        split at ha
        · contradiction
        next hne => exact hne ha
      · show List.countP _ _ = List.countP _ _
        rw [List.countP_map]
        refine List.countP_congr (fun a _ => ?_)
        rw [Function.comp_apply, beq_iff_eq, beq_iff_eq]
        split
        next ha =>
          rw [ha]
          exact ⟨fun hc => absurd hc.symm (Option.some_ne_none _), fun hc => absurd (Option.some.inj hc).symm hs⟩
        next => exact Iff.rfl
    have hlist : (s.modItem x v.slot (fun i => { i with slot := none })).view =
        s.view.withSlots (v.placement.map Prod.fst) (·.map (fun a => if a = some v.slot then none else a)) := by
      rw [hp]
      refine s.modList_view x (fun l => ?_)
      rw [List.map_map, List.map_map]
      refine List.map_congr_left (fun i _ => ?_)
      rw [Function.comp_apply, Function.comp_apply]
      split <;> rfl
    have hu : s.earlyRetire v.slot =
        ((s.modItem x v.slot (fun i => { i with slot := none })).mark v.ref .disposed).freeSlot v.slot := by
      rw [State.earlyRetire, hentry]
      dsimp only
      rw [hp]
    have hmark : ((s.modItem x v.slot (fun i => { i with slot := none })).mark v.ref .disposed).spe = s.spe := by simp
    have htable : (s.earlyRetire v.slot).spe.table = s.spe.table.filter (fun w => w.slot != v.slot) := by
      rw [hu, ← hmark]
      rfl
    refine State.handled_of_removed h hv htable ?_ ?_ hcount
    · rw [hu]
      exact (congrArg Spe.work hmark).trans hidle
    · rw [hu, State.freeSlot, State.setTable_view, State.mark_view, hlist, hmark]
      rfl

/-! ### Full lists and placing -/

/-- The item of an entry for a full list: the entry is out, or its item of work waits (R113). -/
theorem State.disposeFull_handled (h : s.Kept b) (hidle : s.spe.work = .idle)
    (hx : b → s.view.stateOf x = some .opened) (c : Confidence) {rest : Continuation}
    (hrest : RestSound s.spe.table v.slot rest) (hlaw : b → s.view.RestLaw rest) :
    s.Handled b v.slot (s.disposeFull x v c rest) := by
  unfold State.disposeFull
  dsimp only
  have hview (f : FindingKind) : (((s.modSection x (fun y => { y with overfull := true })).countSru
      (fun c => { c with overfullItems := sat32 c.overfullItems 1 })).tallyFinding x f).view = s.view :=
    (State.tallyFinding_view _ x f).trans (s.modSection_view_same (f := fun y => { y with overfull := true }) x
      (fun _ => rfl) (fun _ => rfl))
  have hspe (f : FindingKind) : (((s.modSection x (fun y => { y with overfull := true })).countSru
      (fun c => { c with overfullItems := sat32 c.overfullItems 1 })).tallyFinding x f).spe = s.spe := by simp
  generalize findingOf s.tst.holdings v.ref x false = f
  specialize hview f.1
  specialize hspe f.1
  generalize ((s.modSection x (fun y => { y with overfull := true })).countSru
    (fun c => { c with overfullItems := sat32 c.overfullItems 1 })).tallyFinding x f.1 = u at hview hspe
  have hgone (w : State) (hw : w.view = s.view) (hws : w.spe = s.spe) : s.Handled b v.slot (w.finishDisposal v.slot) := by
    have hkept : w.Kept b := h.congr (congrArg Spe.table hws) hw
    exact (State.finishDisposal_handled hkept ((congrArg Spe.work hws).trans hidle) v.slot).congr (congrArg Spe.table hws) hw
  split
  · exact hgone u hview hspe
  · split
    · exact hgone _ ((u.writeRecord_view _).trans hview) (by simp [hspe])
    · have htable : (u.setWork (.waitRoom ⟨x, v.slot, f.1, v.tag, f.2, c, rest⟩)).spe.table = s.spe.table :=
        (congrArg Spe.table hspe : u.spe.table = s.spe.table)
      have hw : (u.setWork (.waitRoom ⟨x, v.slot, f.1, v.tag, f.2, c, rest⟩)).view =
          { s.view with work := .waitRoom ⟨x, v.slot, f.1, v.tag, f.2, c, rest⟩ } := by rw [State.setWork_view, hview]
      refine ⟨⟨htable ▸ h.table, fun d hd => ?_, fun hb => hw ▸ (h.law hb).setWork _, fun hb => hw ▸ ⟨fun r hr => ?_, fun d hd => ?_⟩⟩,
        fun _ => hw ▸ ⟨rfl, rfl, rfl, rfl, rfl, fun _ => rfl, fun _ _ => rfl⟩, fun e _ => by rw [htable], fun e he hk => ?_,
        fun _ _ => by rw [hw]⟩
      · obtain rfl := Work.waitRoom.inj hd
        rw [htable]
        exact hrest
      · contradiction
      · obtain rfl := Work.waitRoom.inj hd
        exact ⟨hx hb, ⟨(hlaw hb).force, (hlaw hb).fresh⟩⟩
      · rw [htable] at he
        exact ⟨⟨e, he, hk, rfl⟩, fun _ => ⟨he, fun hc => absurd hc (by intro hc; contradiction)⟩⟩

end Sys2Proof.Machine
end

section
/-! SUPPORT. The items of work of SPE keep the sighting table and the laws: placing, confirming, moving, scoring, new entries,
force-place and retire, settle (sections 5.2 to 5.6). -/

namespace Sys2Proof.Machine

variable {s t u : State} {x : SectionId} {k : Nat} {b : Prop} {v : Sighting}

/-! ### An entry changed in place -/

theorem TableSound.mem_changed (h : TableSound s.spe.table) (hv : v ∈ s.spe.table) {f : Sighting → Sighting} (e : Sighting) :
    e ∈ s.spe.table.map (fun i => if i.slot = v.slot then f i else i) ↔ e ∈ s.spe.table ∧ e ≠ v ∨ e = f v := by
  rw [Machine.mem_changed]
  constructor
  · rintro (⟨he, hne⟩ | ⟨a, ha, has, rfl⟩)
    · exact .inl ⟨he, fun hev => hne (hev ▸ rfl)⟩
    · exact .inr (h.eq_of_slot ha hv has ▸ rfl)
  · rintro (⟨he, hne⟩ | rfl)
    · exact .inl ⟨he, fun hs => hne (h.eq_of_slot he hv hs)⟩
    · exact .inr ⟨v, hv, rfl, rfl⟩

/-- One entry changed in place by an item of work, with its mark and the lists. -/
theorem State.kept_of_changed (h : s.Kept b) (hv : v ∈ s.spe.table) {f : Sighting → Sighting} (hslot : (f v).slot = v.slot)
    (htag : (f v).tag = v.tag) (hsound : (f v).Sound) (hidle : t.spe.work = .idle)
    (htable : t.spe.table = s.spe.table.map (fun i => if i.slot = v.slot then f i else i))
    (hlaw : b → s.view.Within t.view ∧ (f v).ref = v.ref ∧
      (∃ x, (f v).anchor = some x ∧ s.view.stateOf x = some .opened ∧ x ∈ (f v).candidates.map Candidate.sec) ∧
      (∀ n m, t.view.markAt n = some m →
        (v.ref = some n → (m = .sighted ↔ (f v).placement = none) ∧ (m = .placed ↔ (f v).placement ≠ none)) ∧
        (v.ref ≠ some n → s.view.markAt n = some m)) ∧
      ∀ x l', t.view.sect x = some (.opened, l') → ∃ l, s.view.sect x = some (.opened, l) ∧
        (∀ slot, slot ≠ v.slot → l'.count (some slot) = l.count (some slot)) ∧
        ((f v).placement.map Prod.fst = some x → l'.count (some v.slot) = 1) ∧
        ((f v).placement.map Prod.fst ≠ some x → l'.count (some v.slot) = 0)) : t.Kept b := by
  refine State.kept_of_idle hidle ?_ (fun hb => ?_)
  · rw [htable]
    refine h.table.changed (fun e he hes => ?_)
    obtain rfl := h.table.eq_of_slot he hv hes
    exact ⟨hslot, htag, hsound⟩
  · obtain ⟨hwithin, href, hanchor, hmark, hitems⟩ := hlaw hb
    refine (h.law hb).replace (State.view_unique h.table) hwithin hv (fun e => ?_) hslot htag href hanchor hmark hitems
    show e ∈ t.spe.table ↔ _
    rw [htable]
    exact h.table.mem_changed hv e

/-- The marks of an entry that keeps its placement or moves, where they stand. -/
theorem View.Law.mark_same {w : View} (hl : w.Law) (hu : w.Unique) (hv : w.has v) {n : Nat} {m : Mark} (hm : w.markAt n = some m)
    (hn : v.ref = some n) : (m = .sighted ↔ v.placement = none) ∧ (m = .placed ↔ v.placement ≠ none) := by
  obtain ⟨hs, hp⟩ := hl.marks n m hm
  rw [hs, hp]
  constructor
  · exact ⟨fun ⟨e, he, hr, hq⟩ => hu.ref hl he hv hr hn ▸ hq, fun hq => ⟨v, hv, hn, hq⟩⟩
  · exact ⟨fun ⟨e, he, hr, hq⟩ => hu.ref hl he hv hr hn ▸ hq, fun hq => ⟨v, hv, hn, hq⟩⟩

/-- Where the items of an entry stand (R88). -/
theorem View.Law.count_mine {w : View} (hl : w.Law) (hu : w.Unique) (hv : w.has v) {l : List (Option Nat)}
    (hx : w.sect x = some (.opened, l)) : (v.placement.map Prod.fst = some x → l.count (some v.slot) = 1) ∧
      (v.placement.map Prod.fst ≠ some x → l.count (some v.slot) = 0) := by
  obtain ⟨hin, hout⟩ := hl.items x l hx v.slot
  exact ⟨fun hp => hin ⟨v, hv, rfl, hp⟩, fun hp => hout (fun ⟨e, he, hes, hep⟩ => hp (hu.slots e v he hv hes ▸ hep))⟩

theorem View.Law.lead_opened {w : View} (hl : w.Law) (hv : w.has v) (hopen : v.placement = none) {c : Candidate}
    (hc : leadOf v.candidates = some c) : w.stateOf c.sec = some .opened := by
  obtain ⟨_, y, hy, ho, _⟩ := hl.entries v hv
  have hlead : v.anchor = some c.sec := by
    rw [Sighting.anchor, hopen]
    exact congrArg (Option.map Candidate.sec) hc
  rw [← Option.some.inj (hy.symm.trans hlead)]
  exact ho

theorem State.addItem_view (s : State) (x : SectionId) (i : Item) :
    (s.addItem x i).view = s.view.withSlots (some x) (· ++ [i.slot]) :=
  State.modList_view (f := (· ++ [i])) (g := (· ++ [i.slot])) s x (fun _ => List.map_append)

theorem View.withSlots_stateOf (w : View) (p : Option SectionId) (g : List (Option Nat) → List (Option Nat)) (z : SectionId) :
    (w.withSlots p g).stateOf z = w.stateOf z := by
  rw [View.stateOf, View.withSlots]
  dsimp only
  split
  · rw [Option.map_map]
    rfl
  · rfl

theorem View.withSlots_within {w : View} {p : Option SectionId} (hp : ∀ z, p = some z → w.stateOf z = some .opened)
    (g : List (Option Nat) → List (Option Nat)) : w.Within (w.withSlots p g) :=
  ⟨rfl, rfl, rfl, rfl, rfl, w.withSlots_stateOf p g, fun z hz => if_neg (fun h => hz (hp z h))⟩

theorem count_append_slot (l : List (Option Nat)) (a slot : Nat) :
    (l ++ [some a]).count (some slot) = l.count (some slot) + if slot = a then 1 else 0 := by
  by_cases h : slot = a
  · rw [List.count_append, h, if_pos rfl, List.count_singleton_self]
  · rw [List.count_append, if_neg h, List.count_singleton, if_neg (by simpa using fun hc => h hc.symm)]

/-- An OPEN entry placed (R88, R94). -/
theorem State.place_handled (h : s.Kept b) (hidle : s.spe.work = .idle) (r : Route) {rest : Continuation}
    (hopen : b → ∀ e ∈ s.spe.table, e.slot = k → e.placement = none) (hrest : RestSound s.spe.table k rest)
    (hlaw : b → s.view.RestLaw rest) : s.Handled b k (s.place k r rest) := by
  cases hentry : entryAt s.spe.table k with
  | none =>
    have hsame : s.place k r rest = s := by rw [State.place, hentry]
    rw [hsame]
    exact .of_none h hentry
  | some v =>
    obtain ⟨hv, rfl⟩ := entryAt_mem hentry
    obtain ⟨c, hc⟩ := (h.table.sound v hv).lead
    have hlead (hb : b) : s.view.stateOf c.sec = some .opened := (h.law hb).lead_opened hv (hopen hb v hv rfl) hc
    rw [State.place, hentry]
    dsimp only
    rw [hc]
    dsimp only
    split
    · exact (State.disposeFull_handled (s := s.countSpe (fun n => n.route r)) ⟨h.table, h.rest, h.law, h.work⟩ hidle hlead
        (confidenceOf s.params v) hrest hlaw).congr rfl rfl
    · have hislot : (itemOf s.tst.holdings v c.sweep (confidenceOf s.params v)).slot = some v.slot := rfl
      generalize itemOf s.tst.holdings v c.sweep (confidenceOf s.params v) = i at hislot ⊢
      let f : Sighting → Sighting := fun e => { e with placement := some (c.sec, confidenceOf s.params v) }
      let t0 := ((s.countSpe (fun n => n.route r)).addItem c.sec i).modEntry v.slot f
      have htable : (t0.mark v.ref .placed).spe.table = s.spe.table.map (fun i => if i.slot = v.slot then f i else i) := by
        have hspe : (t0.mark v.ref .placed).spe = t0.spe := by simp
        rw [hspe]
        rfl
      have hview : (t0.mark v.ref .placed).view = { s.view.withSlots (some c.sec) (· ++ [some v.slot]) with
          has := fun e => e ∈ s.spe.table.map (fun i : Sighting => if i.slot = v.slot then f i else i)
          markAt := fun n => if v.ref = some n then (s.view.markAt n).map (fun _ => Mark.placed) else s.view.markAt n } := by
        have ht0 : t0.view = { s.view.withSlots (some c.sec) (· ++ [some v.slot]) with
            has := fun e => e ∈ s.spe.table.map (fun i : Sighting => if i.slot = v.slot then f i else i) } := by
          show { ((s.countSpe (fun n => n.route r)).addItem c.sec i).view with
            has := fun e => e ∈ s.spe.table.map (fun i : Sighting => if i.slot = v.slot then f i else i) } = _
          rw [State.addItem_view, hislot]
          rfl
        rw [State.mark_view, ht0]
        rfl
      show s.Handled b v.slot (t0.mark v.ref .placed)
      have hmem (e : Sighting) : e ∈ (t0.mark v.ref .placed).spe.table ↔ e ∈ s.spe.table ∧ e ≠ v ∨ e = f v := by
        rw [htable]
        exact h.table.mem_changed hv e
      have hwithin (hb : b) : s.view.Within (t0.mark v.ref .placed).view := by
        have hw := View.withSlots_within (w := s.view) (p := some c.sec) (fun z hz => Option.some.inj hz ▸ hlead hb)
          (· ++ [some v.slot])
        rw [hview]
        exact ⟨hw.grade, hw.listed, hw.reported, hw.requests, hw.refOf, hw.states, hw.others⟩
      have hmarkAt (n : Nat) : (t0.mark v.ref .placed).view.markAt n =
          if v.ref = some n then (s.view.markAt n).map (fun _ => Mark.placed) else s.view.markAt n := by rw [hview]
      refine ⟨State.kept_of_changed h hv (f := f) rfl rfl (h.table.sound v hv) ?_ htable (fun hb => ⟨hwithin hb, rfl,
          ⟨c.sec, rfl, hlead hb, List.mem_map_of_mem (leadOf_mem hc)⟩, fun n m hm => ?_, fun x l' hx => ?_⟩), hwithin,
        fun e hk => ?_, fun e he hk => ?_, fun n hn => ?_⟩
      · have hspe : (t0.mark v.ref .placed).spe.work = t0.spe.work := by simp
        rw [hspe]
        have hwork : ((s.countSpe (fun n => n.route r)).addItem c.sec i).spe.work = s.spe.work := by simp [State.countSpe]
        exact hwork.trans hidle
      · rw [hmarkAt] at hm
        refine ⟨fun hr => ?_, fun hr => ?_⟩
        · rw [if_pos hr] at hm
          obtain ⟨_, _, rfl⟩ := Option.map_eq_some_iff.mp hm
          exact ⟨⟨fun hc => absurd hc (by decide), fun hc => absurd hc (Option.some_ne_none _)⟩,
            ⟨fun _ => Option.some_ne_none _, fun _ => rfl⟩⟩
        · rwa [if_neg hr] at hm
      · have hl := h.law hb
        have hu := State.view_unique h.table
        have hnone : v.placement = none := hopen hb v hv rfl
        have hsect : (t0.mark v.ref .placed).view.sect x =
            if some c.sec = some x then (s.view.sect x).map (fun a => (a.1, a.2 ++ [some v.slot])) else s.view.sect x := by
          rw [hview]
          rfl
        rw [hsect] at hx
        have hzero {l : List (Option Nat)} (hsx : s.view.sect x = some (.opened, l)) : l.count (some v.slot) = 0 :=
          (hl.count_mine hu hv hsx).2 (by rw [hnone]; exact (Option.some_ne_none _).symm)
        by_cases hcx : some c.sec = some x
        · rw [if_pos hcx] at hx
          obtain ⟨⟨g', l⟩, hsx, heq⟩ := Option.map_eq_some_iff.mp hx
          obtain ⟨rfl, rfl⟩ := Prod.mk.inj heq
          refine ⟨l, hsx, fun slot hs => ?_, fun _ => ?_, fun hne => absurd hcx hne⟩
          · rw [count_append_slot, if_neg hs]
            rfl
          · rw [count_append_slot, if_pos rfl, hzero hsx]
        · rw [if_neg hcx] at hx
          exact ⟨l', hx, fun _ _ => rfl, fun hp => absurd hp hcx, fun _ => hzero hx⟩
      · rw [hmem]
        refine ⟨fun he => he.elim And.left (fun hef => absurd (hef ▸ rfl) hk), fun he => .inl ⟨he, fun hev => hk (hev ▸ rfl)⟩⟩
      · obtain ⟨he, hne⟩ | rfl := (hmem e).mp he
        · exact absurd (h.table.eq_of_slot he hv hk) hne
        · exact ⟨⟨v, hv, rfl, rfl⟩, fun hc => absurd hc (Option.some_ne_none _)⟩
      · rw [hmarkAt, if_neg (hn v hv rfl)]

end Sys2Proof.Machine
end

section
/-! SUPPORT. The closing items of work of SPE and SRU keep the sighting table and the laws: many placings, force-place and retire,
openings and closes (sections 5.4, 6.2, 6.3). -/

namespace Sys2Proof.Machine

variable {s t u : State} {x : SectionId} {k : Nat} {b : Prop} {v : Sighting}

/-! ### Entries placed one after the other (R92, R93) -/

theorem State.idle_of_not_waiting (h : ¬s.waiting = true) : s.spe.work = .idle := not_not.mp (fun hn => h (s.waiting_iff.mpr hn))

theorem State.placeMany_of_waiting (h : s.waiting = true) (slots : List Nat) (r : Route) (rest : Continuation) :
    s.placeMany slots r rest = s := by
  induction slots with
  | nil => rfl
  | cons k slots ih =>
    rw [State.placeMany, List.foldl_cons, if_pos h]
    exact ih

/-- The entries in some slots placed one after the other, until one must wait. -/
structure State.PlacedAll (b : Prop) (slots : List Nat) (s t : State) : Prop where
  kept : t.Kept b
  within : b → s.view.Within t.view
  still : ∀ e ∈ t.spe.table, e.placement = none → e ∈ s.spe.table ∧ (t.spe.work = .idle → e.slot ∉ slots)

theorem State.placeMany_placed (h : s.Kept b) {slots : List Nat} (hnodup : slots.Nodup) (r : Route) {rest : Continuation}
    (hopen : b → ∀ e ∈ s.spe.table, e.slot ∈ slots → e.placement = none) (hrest : ∀ r ref, rest ≠ .newEntry r ref)
    (hlaw : b → s.view.RestLaw rest) : s.PlacedAll b slots (s.placeMany slots r rest) := by
  induction slots generalizing s with
  | nil => exact ⟨h, fun _ => View.Within.refl _, fun e he _ => ⟨he, fun _ => List.not_mem_nil⟩⟩
  | cons k slots ih =>
    by_cases hwait : s.waiting = true
    · rw [State.placeMany_of_waiting hwait]
      exact ⟨h, fun _ => View.Within.refl _, fun e he _ => ⟨he, fun hi => absurd hi (s.waiting_iff.mp hwait)⟩⟩
    · obtain ⟨hout, hnodup⟩ := List.nodup_cons.mp hnodup
      have hplaced := State.place_handled h (State.idle_of_not_waiting hwait) (k := k) r
        (fun hb e he hk => hopen hb e he (hk ▸ List.mem_cons_self)) (RestSound.of_ne hrest) hlaw
      have hstep : s.placeMany (k :: slots) r rest = (s.place k r rest).placeMany slots r rest := by
        rw [State.placeMany, List.foldl_cons, if_neg hwait]
        rfl
      have hne {e : Sighting} (hk : e.slot ∈ slots) : e.slot ≠ k := fun hek => hout (hek ▸ hk)
      have hlater := ih hplaced.kept hnodup
        (fun hb e he hk => hopen hb e ((hplaced.others e (hne hk)).mp he) (List.mem_cons_of_mem _ hk))
        (fun hb => (hplaced.within hb).rest (hlaw hb) hrest)
      rw [hstep]
      refine ⟨hlater.kept, fun hb => (hplaced.within hb).trans (hlater.within hb), fun e he hp => ?_⟩
      obtain ⟨hmid, hidle⟩ := hlater.still e he hp
      by_cases hk : e.slot = k
      · obtain ⟨hin, hbusy⟩ := (hplaced.mine e hmid hk).2 hp
        refine ⟨hin, fun hi => ?_⟩
        rw [State.placeMany_of_waiting ((s.place k r rest).waiting_iff.mpr hbusy)] at hi
        exact absurd hi hbusy
      · refine ⟨(hplaced.others e hk).mp hmid, fun hi hmem => ?_⟩
        exact hidle hi ((List.mem_cons.mp hmem).resolve_left hk)

theorem mem_openSlots {table : List Sighting} {p : Sighting → Bool} (h : TableSound table) {e : Sighting} (he : e ∈ table) :
    e.slot ∈ openSlots table p ↔ e.placement = none ∧ p e = true := by
  rw [openSlots, List.mem_map]
  constructor
  · rintro ⟨a, ha, has⟩
    obtain ⟨ha, hp⟩ := List.mem_filter.mp ha
    obtain rfl := h.eq_of_slot ha he has
    rwa [Bool.and_eq_true, Option.isNone_iff_eq_none] at hp
  · intro hp
    refine ⟨e, List.mem_filter.mpr ⟨he, ?_⟩, rfl⟩
    rwa [Bool.and_eq_true, Option.isNone_iff_eq_none]

theorem openSlots_nodup {table : List Sighting} (h : TableSound table) (p : Sighting → Bool) : (openSlots table p).Nodup :=
  h.slots.sublist (List.filter_sublist.map _)

/-- The OPEN entries that satisfy a test placed in ascending slot order. -/
theorem State.placeOpen_placed (h : s.Kept b) (p : Sighting → Bool) (r : Route) {rest : Continuation}
    (hrest : ∀ r ref, rest ≠ .newEntry r ref) (hlaw : b → s.view.RestLaw rest) :
    s.PlacedAll b (openSlots s.spe.table p) (s.placeMany (openSlots s.spe.table p) r rest) :=
  State.placeMany_placed h (openSlots_nodup h.table p) r (fun _ _ he hk => ((mem_openSlots h.table he).mp hk).1) hrest hlaw

/-! ### A section enters CLOSING, its entries retired (R92) -/

theorem State.enterClosing_view (s : State) (x : SectionId) : (s.enterClosing x).view = { s.view with
    sect := fun z => if z = x then (s.view.sect z).map (fun a => (.closing, a.2)) else s.view.sect z
    grade := fun z => if z = x then (s.view.grade z).map (fun _ => .closing) else s.view.grade z
    reported := s.view.reported ++ [x] } := by
  have hopen := ((s.modSection x (fun y => { y with state := .closing })).modOpen_view x
    (f := fun o => { o with stage := .closing }) (g := fun _ => .closing) (fun _ => rfl) (fun _ => rfl))
  rw [s.modSection_view x (f := fun y => { y with state := .closing }) (g := fun a => (.closing, a.2)) (fun _ => rfl)
    (fun _ => rfl)] at hopen
  have hstep : (s.enterClosing x).view = { ((s.modSection x (fun y => { y with state := .closing })).modOpen x
      (fun o => { o with stage := .closing })).view with
    reported := (s.sru.reporter.map Reporter.sec).toList ++ (s.sru.closing ++ [x]) } := rfl
  rw [hstep, hopen, ← List.append_assoc]
  rfl

theorem State.retireAll_view (s : State) (x : SectionId) : (s.retireAll x).view.sect = s.view.sect ∧
    (s.retireAll x).view.grade = s.view.grade ∧ (s.retireAll x).view.listed = s.view.listed ∧
    (s.retireAll x).view.reported = s.view.reported ∧ (s.retireAll x).view.requests = s.view.requests ∧
    (s.retireAll x).view.refOf = s.view.refOf ∧
    (∀ e, (s.retireAll x).view.has e ↔ s.view.has e ∧ ¬e.placement.map Prod.fst = some x) ∧
    ∀ n m, (s.retireAll x).view.markAt n = some m →
      ((∃ e, s.view.has e ∧ e.placement.map Prod.fst = some x ∧ e.ref = some n) → m = .disposed) ∧
      ((¬∃ e, s.view.has e ∧ e.placement.map Prod.fst = some x ∧ e.ref = some n) → s.view.markAt n = some m) := by
  have hany (n : Nat) : (s.spe.table.any (fun w => (w.placement.map Prod.fst == some x) && w.ref == some n)) = true ↔
      ∃ e, s.view.has e ∧ e.placement.map Prod.fst = some x ∧ e.ref = some n := by
    simp only [List.any_eq_true, Bool.and_eq_true, beq_iff_eq]
    exact Iff.rfl
  have hget (n : Nat) : (s.retireAll x).tst.holdings[n]? = s.tst.holdings[n]?.map (fun h =>
      if s.spe.table.any (fun w => (w.placement.map Prod.fst == some x) && w.ref == some n)
        then { h with mark := .disposed } else h) := by
    rw [State.retireAll_eq]
    dsimp only
    rw [List.getElem?_map, List.getElem?_zipIdx, Option.map_map]
    congr 1
    funext h
    simp
  refine ⟨by rw [State.retireAll_eq]; rfl, by rw [State.retireAll_eq]; rfl, by rw [State.retireAll_eq]; rfl,
    by rw [State.retireAll_eq]; rfl, by rw [State.retireAll_eq]; rfl, ?_, fun e => ?_, fun n m hm => ?_⟩
  · funext a
    show findHolding (s.retireAll x).tst.holdings a = findHolding s.tst.holdings a
    have htags : (s.retireAll x).tst.holdings.map Holding.tag = s.tst.holdings.map Holding.tag := by
      refine List.ext_getElem? (fun n => ?_)
      rw [List.getElem?_map, List.getElem?_map, hget, Option.map_map]
      congr 1
      funext h
      rw [Function.comp_apply]
      split <;> rfl
    rw [findHolding_tags, htags, ← findHolding_tags]
  · show e ∈ (s.retireAll x).spe.table ↔ e ∈ s.spe.table ∧ _
    rw [State.retireAll_eq]
    dsimp only
    rw [List.mem_filter, Bool.not_eq_true', beq_eq_false_iff_ne]
  · have hm : ((s.retireAll x).tst.holdings[n]?).map Holding.mark = some m := hm
    rw [hget, Option.map_map] at hm
    obtain ⟨a, ha, hm⟩ := Option.map_eq_some_iff.mp hm
    rw [Function.comp_apply] at hm
    rw [← hany]
    refine ⟨fun hin => ?_, fun hout => ?_⟩
    · rw [if_pos hin] at hm
      exact hm.symm
    · rw [if_neg hout] at hm
      show (s.tst.holdings[n]?).map Holding.mark = some m
      rw [ha, ← hm]
      rfl

/-- A REQUESTED section that no OPEN entry leads enters CLOSING, and the entries placed in it leave (R92 steps 2 and 3). -/
theorem State.closeOff_kept (h : s.Kept b) (hidle : s.spe.work = .idle)
    (hx : b → s.view.grade x = some .requested ∧ x ∉ s.view.requests)
    (hled : b → ∀ e ∈ s.spe.table, e.placement = none → e.leadSection ≠ some x) :
    ((s.enterClosing x).retireAll x).Kept b := by
  obtain ⟨hsect, hgrade, hlisted, hreported, hrequests, hrefOf, hhas, hmark⟩ := (s.enterClosing x).retireAll_view x
  have hview := s.enterClosing_view x
  have hspe : (s.enterClosing x).spe = s.spe := by simp
  refine State.kept_of_idle ?_ ?_ (fun hb => ?_)
  · rw [State.retireAll_eq]
    exact (congrArg Spe.work hspe).trans hidle
  · rw [State.retireAll_eq]
    dsimp only
    rw [hspe]
    exact h.table.filter _
  · have hl := h.law hb
    obtain ⟨hg, hnot⟩ := hx hb
    have hopened : s.view.stateOf x = some .opened := (hl.opened x).mpr (by rw [hg]; exact ⟨Option.some_ne_none _, by decide⟩)
    obtain ⟨l, hl'⟩ := View.exists_sect hopened
    refine hl.closeOff (State.view_unique h.table) hg hnot (fun e he ha => ?_) (fun e => ?_) (fun n m hm => ?_) ?_ ?_
      (fun y hy => ?_) ?_ (fun y hy => ?_) ?_ ?_ ?_
    · cases hp : e.placement with
      | none =>
        rw [Sighting.anchor, hp] at ha
        exact absurd ha (hled hb e he hp)
      | some p =>
        rw [Sighting.anchor, hp] at ha
        exact ha
    · rw [hhas, hview]
    · have := hmark n m hm
      rw [hview] at this
      exact this
    · rw [hrefOf, hview]
    · rw [View.stateOf, hsect, hview]
      dsimp only
      rw [if_pos rfl, hl']
      rfl
    · rw [hsect, hview]
      exact if_neg hy
    · rw [hgrade, hview]
      dsimp only
      rw [if_pos rfl, hg]
      rfl
    · rw [hgrade, hview]
      exact if_neg hy
    · rw [hlisted, hview]
    · rw [hreported, hview]
    · rw [hrequests, hview]

/-- What a force-place and retire request needs of its section, and of the opening behind it (R110). -/
theorem State.forcePlaceRun_kept (h : s.Kept b) (after : Option OpenRequest)
    (hx : b → s.view.RestLaw (.forcePlace x after)) : (s.forcePlaceRun x after).Kept b := by
  have hrest (r : ItemRead) (ref : Option Nat) : Continuation.forcePlace x after ≠ .newEntry r ref := by intro h; contradiction
  have hplaced := State.placeOpen_placed h (fun e => e.leadSection == some x) .close hrest hx
  rw [State.forcePlaceRun]
  split
  · exact hplaced.kept
  next hwait =>
    have hfree := State.idle_of_not_waiting hwait
    generalize s.placeMany (openSlots s.spe.table (fun e => e.leadSection == some x)) .close (.forcePlace x after) = t
      at hplaced hfree
    have hnow (hb : b) : t.view.RestLaw (.forcePlace x after) := (hplaced.within hb).rest (hx hb) hrest
    have hclosed : ((t.enterClosing x).retireAll x).Kept b := by
      refine State.closeOff_kept hplaced.kept hfree (fun hb => ?_) (fun _ e he hp hlead => ?_)
      · obtain ⟨hg, hnot, _⟩ := (hnow hb).force x after rfl
        exact ⟨hg, hnot⟩
      · obtain ⟨hin, hout⟩ := hplaced.still e he hp
        exact hout hfree ((mem_openSlots h.table hin).mpr ⟨hp, beq_iff_eq.mpr hlead⟩)
    cases after with
    | none => exact hclosed
    | some r =>
      refine ⟨hclosed.table, fun d hd => by contradiction, fun hb => (hclosed.law hb).setWork _, fun hb => ⟨fun q hq => ?_,
        fun d hd => by contradiction⟩⟩
      obtain rfl := Work.waitPlace.inj hq
      obtain ⟨hg, _, hafter⟩ := (hnow hb).force x (some r) rfl
      have hr := hafter r rfl
      have hne : r.sec ≠ x := fun hrx => by
        have hopened : t.view.stateOf x = some .opened :=
          ((hplaced.kept.law hb).opened x).mpr (by rw [hg]; exact ⟨Option.some_ne_none _, by decide⟩)
        rw [hrx, hopened] at hr
        exact absurd hr (by decide)
      show ((t.enterClosing x).retireAll x).view.stateOf r.sec = some .unvisited
      rw [View.stateOf, ((t.enterClosing x).retireAll_view x).1, t.enterClosing_view]
      dsimp only
      rw [if_neg hne]
      exact hr

/-! ### A close begins, a section opens (R106, R108) -/

theorem State.requested_view (s : State) (x : SectionId) : (s.modOpen x (fun o => { o with stage := .requested })).view =
    { s.view with grade := fun z => if z = x then (s.view.grade z).map (fun _ => .requested) else s.view.grade z } :=
  s.modOpen_view x (g := fun _ => .requested) (fun _ => rfl) (fun _ => rfl)

/-- The close of an OPEN section begins, whatever SPE has in hand (R108). -/
theorem State.beginClose_kept (h : s.Kept b) (x : SectionId) : (s.beginClose x).Kept b := by
  have hwork {u : State} (hg : b → s.view.grade x = some .faced)
      (hu : u = (s.modOpen x (fun o => { o with stage := .requested })).setSpe { s.spe with requests := s.spe.requests ++ [x] }) :
      u.Kept b := by
    have hview : u.view = { s.view with
        grade := fun z => if z = x then (s.view.grade z).map (fun _ => .requested) else s.view.grade z
        requests := s.view.requests ++ [x] } := by
      have hstep : u.view = { (s.modOpen x (fun o => { o with stage := .requested })).view with
        requests := s.view.requests ++ [x] } := hu ▸ rfl
      rw [hstep, s.requested_view]
    have hspe : u.spe = { s.spe with requests := s.spe.requests ++ [x] } := hu ▸ rfl
    refine ⟨hspe ▸ h.table, hspe ▸ h.rest, fun hb => ?_, fun hb => ?_⟩
    · have hl := h.law hb
      have hnot : x ∉ s.view.requests := fun hm => by
        have := hl.requests x hm
        rw [hg hb] at this
        exact absurd this (by decide)
      refine hl.requesting (x := x) ⟨by rw [hview], by rw [hview], by rw [hview], fun y _ => by rw [hview], fun y hy => ?_⟩
        ((hl.opened x).mpr (by rw [hg hb]; exact ⟨Option.some_ne_none _, by decide⟩)) (by rw [hview]) ?_ (by rw [hview])
        (by rw [hview]) ?_ (fun y hy => ?_)
      · rw [hview]
        exact if_neg hy
      · rw [hview]
        dsimp only
        rw [if_pos rfl, hg hb]
        rfl
      · rw [hview]
        exact hl.requestsNodup.append (List.nodup_singleton x) (List.disjoint_singleton.mpr hnot)
      · rw [hview] at hy
        exact (List.mem_append.mp hy).elim .inr (fun hm => .inl (List.mem_singleton.mp hm))
    · have hw := h.work hb
      have hstate (z : SectionId) : u.view.stateOf z = s.view.stateOf z := by rw [hview]; rfl
      refine ⟨fun r hr => ?_, fun d hd => ?_⟩
      · rw [hstate]
        exact hw.place r (by rw [hview] at hr; exact hr)
      · obtain ⟨hopen, hrest⟩ := hw.room d (by rw [hview] at hd; exact hd)
        refine ⟨(hstate _).trans hopen, fun y after hy => ?_, fun r ref hr => ?_⟩
        · obtain ⟨hgy, hnot, hafter⟩ := hrest.force y after hy
          have hyx : y ≠ x := fun hyx => by
            rw [hyx, hg hb] at hgy
            exact absurd hgy (by decide)
          refine ⟨?_, ?_, fun r hr => (hstate _).trans (hafter r hr)⟩
          · rw [hview]
            exact (if_neg hyx).trans hgy
          · rw [hview]
            exact fun hm => (List.mem_append.mp hm).elim hnot (fun hm => hyx (List.mem_singleton.mp hm))
        · obtain ⟨href, hmark, hopen⟩ := hrest.fresh r ref hr
          rw [hstate, hview]
          exact ⟨href, hmark, hopen⟩
  unfold State.beginClose
  split
  · exact h
  next o ho =>
    have hgrade : s.view.grade x = some o.stage.enter := congrArg (Option.map (fun o : OpenSection => o.stage.enter)) ho
    split
    · exact h
    · exact h
    next hs => exact hwork (fun _ => by rw [hgrade, hs]; rfl) rfl
    next hs => exact hwork (fun _ => by rw [hgrade, hs]; rfl) rfl

/-- An UNVISITED section opens (R106, R120). -/
theorem State.openSection_kept (h : s.Kept b) (hidle : s.spe.work = .idle) (r : OpenRequest)
    (hr : b → s.view.stateOf r.sec = some .unvisited) : (s.openSection r).Kept b := by
  rw [State.openSection]
  dsimp only
  generalize hu : ((s.modSection r.sec _).setSru _).countSru _ = u
  have hview : u.view = { s.view with
      sect := fun z => if z = r.sec then (s.view.sect z).map (fun a => (.opened, a.2)) else s.view.sect z
      grade := u.view.grade
      listed := s.view.listed ++ [r.sec] } := by
    have hstep : u.view = { (s.modSection r.sec (fun y => { y with state := .opened, direction := r.direction })).view with
        grade := u.view.grade, listed := u.view.listed } := hu ▸ rfl
    rw [hstep, s.modSection_view r.sec (f := fun y => { y with state := .opened, direction := r.direction })
      (g := fun a => (.opened, a.2)) (fun _ => rfl) (fun _ => rfl)]
    have hlisted : u.view.listed = s.view.listed ++ [r.sec] := by
      rw [← hu]
      exact List.map_append
    rw [hlisted]
  have hspe : u.spe = s.spe := hu ▸ rfl
  have hkept : u.Kept b := by
    refine State.kept_of_idle (hspe ▸ hidle) (hspe ▸ h.table) (fun hb => ?_)
    have hl := h.law hb
    have hfind (z : SectionId) : u.view.grade z =
        ((findOpen s.sru.openList z).or (if r.sec == z then some ⟨r.sec, .faced, Tallies.zero, none⟩ else none)).map
          (fun o : OpenSection => o.stage.enter) := by
      have hlist : u.sru.openList = s.sru.openList ++ [⟨r.sec, .faced, Tallies.zero, none⟩] := hu ▸ rfl
      show (findOpen u.sru.openList z).map _ = _
      rw [hlist, findOpen, List.find?_append, List.find?_singleton]
      rfl
    have hnone : s.view.grade r.sec = none := by
      by_contra hne
      by_cases hc : s.view.grade r.sec = some .closing
      · exact absurd ((hr hb).symm.trans ((hl.closing _).mpr hc)) (by decide)
      · exact absurd ((hr hb).symm.trans ((hl.opened _).mpr ⟨hne, hc⟩)) (by decide)
    obtain ⟨l, hsect⟩ := View.exists_sect (hr hb)
    have hnil := hl.empty _ l hsect
    refine hl.opening (x := r.sec) ⟨by rw [hview], by rw [hview], by rw [hview], fun y hy => ?_, fun y hy => ?_⟩ (hr hb) ?_ ?_
      (by rw [hview]) (by rw [hview]) (by rw [hview])
    · rw [hview]
      exact if_neg hy
    · rw [hfind, if_neg (by simpa using fun hc => hy hc.symm), Option.or_none]
      rfl
    · rw [hview]
      dsimp only
      rw [if_pos rfl, hsect, hnil]
      rfl
    · have hn : findOpen s.sru.openList r.sec = none := Option.map_eq_none_iff.mp hnone
      rw [hfind, hn, Option.none_or, if_pos (beq_self_eq_true _)]
      rfl
  split
  · exact State.beginClose_kept hkept _
  · exact hkept

/-! ### A section entered (R106, R110) -/

/-- Room made at the open-section limit (R110). -/
theorem State.makeRoom_kept (h : s.Kept b) (hidle : s.spe.work = .idle) (r : OpenRequest)
    (hr : b → s.view.stateOf r.sec = some .unvisited) : (s.makeRoom r).Kept b := by
  unfold State.makeRoom
  split
  · refine ⟨h.table, fun d hd => by contradiction, fun hb => (h.law hb).setWork _, fun hb => ⟨fun q hq => ?_,
      fun d hd => by contradiction⟩⟩
    obtain rfl := Work.waitPlace.inj hq
    exact hr hb
  next o ho =>
    dsimp only
    have hstage : o.stage ≠ .closing := bne_iff_ne.mp (List.find?_some (p := fun o : OpenSection => o.stage != .closing) ho)
    have hmem := List.mem_of_find?_eq_some ho
    generalize hu : (((s.modSection o.sec _).modOpen o.sec _).setSpe _).countSru _ = u
    have hview : u.view = { s.view with
        grade := fun z => if z = o.sec then (s.view.grade z).map (fun _ => .requested) else s.view.grade z
        requests := s.view.requests.erase o.sec } := by
      have hstep : u.view = { ((s.modSection o.sec (fun y => { y with evicted := true })).modOpen o.sec
          (fun o => { o with stage := .requested })).view with requests := s.view.requests.erase o.sec } := hu ▸ rfl
      rw [hstep, State.requested_view, s.modSection_view_same o.sec (f := fun y => { y with evicted := true })
        (fun _ => rfl) (fun _ => rfl)]
    have hspe : u.spe = { s.spe with requests := s.spe.requests.erase o.sec } := hu ▸ rfl
    have hworkIdle : u.spe.work = .idle := by rw [hspe]; exact hidle
    have hgrade (hb : b) : s.view.grade o.sec = some o.stage.enter := State.grade_of_mem (h.law hb).nodup hmem
    have hopened (hb : b) : s.view.stateOf o.sec = some .opened := by
      refine ((h.law hb).opened _).mpr ?_
      rw [hgrade hb]
      exact ⟨Option.some_ne_none _, fun hc => hstage (CloseStage.enter_eq_closing.mp (Option.some.inj hc))⟩
    have hnow (hb : b) : u.view.grade o.sec = some .requested := by
      rw [hview]
      dsimp only
      rw [if_pos rfl, hgrade hb]
      rfl
    refine State.forcePlaceRun_kept (State.kept_of_idle hworkIdle (by rw [hspe]; exact h.table) (fun hb => ?_)) _
      (fun hb => ⟨fun y after hy => ?_, fun _ _ hc => by contradiction⟩)
    · have hl := h.law hb
      refine hl.requesting (x := o.sec) ⟨by rw [hview], by rw [hview], by rw [hview], fun y _ => by rw [hview], fun y hy => ?_⟩
        (hopened hb) (by rw [hview]) (hnow hb) (by rw [hview]) (by rw [hview]) ?_ (fun y hy => ?_)
      · rw [hview]
        exact if_neg hy
      · rw [hview]
        exact hl.requestsNodup.erase _
      · rw [hview] at hy
        exact .inr (List.mem_of_mem_erase hy)
    · obtain ⟨rfl, rfl⟩ := Continuation.forcePlace.inj hy
      refine ⟨hnow hb, ?_, fun q hq => ?_⟩
      · rw [hview]
        exact (h.law hb).requestsNodup.not_mem_erase
      · obtain rfl := Option.some.inj hq
        rw [hview]
        exact hr hb

theorem State.reenterSection_view (s : State) (x : SectionId) (move : Direction) : (s.reenterSection x move).view = s.view := by
  unfold State.reenterSection
  rw [State.modOpen_view_same _ x (f := fun o => { o with stage := o.stage.enter }) (fun _ => rfl)
    (fun o => by cases o.stage <;> rfl)]
  exact s.modSection_view_same x (f := fun y => { y with unfacedSince := none, direction := y.direction.learn move })
    (fun _ => rfl) (fun _ => rfl)

theorem State.leaveSection_view (s : State) (x : SectionId) (move : Direction) (rushed : Bool) :
    (s.leaveSection x move rushed).view = s.view := by
  unfold State.leaveSection
  split
  · rw [State.modOpen_view_same _ x (f := fun o => { o with stage := o.stage.leave }) (fun _ => rfl)
      (fun o => by cases o.stage <;> rfl)]
    exact s.modSection_view_same x (f := fun y => { y with
      unfacedSince := some s.psc.clock, direction := y.direction.learn move, rushed := y.rushed || rushed })
      (fun _ => rfl) (fun _ => rfl)
  · rfl

theorem State.enterSection_kept (h : s.Kept b) (hidle : s.spe.work = .idle) (x : SectionId) (move : Direction) :
    (s.enterSection x move).Kept b := by
  unfold State.enterSection
  split
  · exact h
  next y hy =>
    have hstate : s.view.stateOf x = some y.state := congrArg (fun o => (o.map Section.key).map Prod.fst) hy
    split
    next hu =>
      split
      · exact State.openSection_kept h hidle _ (fun _ => hstate.trans (congrArg some hu))
      · exact State.makeRoom_kept h hidle _ (fun _ => hstate.trans (congrArg some hu))
    · exact h.congr (by simp) (s.reenterSection_view x move)
    · exact h
    · exact h

end Sys2Proof.Machine
end

section
/-! SUPPORT. Scored reads, new entries and evictions keep the sighting table and the laws (sections 5.2 to 5.6, R113). -/

namespace Sys2Proof.Machine

variable {s t u : State} {x : SectionId} {k : Nat} {b : Prop} {v : Sighting}

theorem View.RestLaw.done (w : View) : w.RestLaw .done := ⟨fun _ _ h => by contradiction, fun _ _ h => by contradiction⟩

theorem View.RestLaw.settle (w : View) : w.RestLaw .settle := ⟨fun _ _ h => by contradiction, fun _ _ h => by contradiction⟩

theorem RestSound.done {table : List Sighting} : RestSound table k .done := .of_ne (fun _ _ h => by contradiction)

theorem State.endScored_kept (h : s.Kept b) : s.endScored.Kept b := by
  unfold State.endScored
  split
  · exact h.congr rfl rfl
  · exact h.congr rfl rfl

/-! ### Confirm, move and freeze (R90, R95, R96) -/

theorem State.confirmTest_kept (h : s.Kept b) (hidle : s.spe.work = .idle)
    (hopen : b → ∀ e ∈ s.spe.table, e.slot = k → e.placement = none) : (s.confirmTest k).Kept b := by
  unfold State.confirmTest
  split
  · exact h
  · split
    · exact (State.place_handled h hidle .confirm hopen RestSound.done (fun _ => View.RestLaw.done _)).kept
    · exact h

theorem State.removeItem_view (s : State) (x : SectionId) (k : Nat) :
    (s.removeItem x k).view = s.view.withSlots (some x) (·.filter (· != some k)) :=
  s.modList_view x (fun l => by rw [List.filter_map]; rfl)

theorem count_filter_slot (l : List (Option Nat)) (k slot : Nat) :
    (l.filter (· != some k)).count (some slot) = if slot = k then 0 else l.count (some slot) := by
  by_cases hs : slot = k
  · rw [if_pos hs]
    refine List.count_eq_zero.mpr (fun hmem => ?_)
    rw [hs] at hmem
    exact absurd rfl (bne_iff_ne.mp (List.mem_filter.mp hmem).2)
  · rw [if_neg hs]
    refine List.count_filter ?_
    rw [bne_iff_ne]
    exact fun hc => hs (Option.some.inj hc)

/-- A PLACED entry that moves to another OPEN section (R95). -/
theorem State.moveEntry_kept (h : s.Kept b) (hidle : s.spe.work = .idle) (hv : v ∈ s.spe.table) {q : Confidence} {c : Candidate}
    (hp : v.placement = some (x, q)) (hc : c ∈ v.candidates) (hx : c.sec ≠ x) (hopen : s.sectionOpen c.sec = true)
    (hmoves : v.moves < 2) : (s.moveEntry v x c).Kept b := by
  have hopened : s.view.stateOf c.sec = some .opened := (s.sectionOpen_iff _).mp hopen
  rw [State.moveEntry]
  split
  · exact (State.disposeFull_handled (s := s.countSpe _) ⟨h.table, h.rest, h.law, h.work⟩ hidle (fun _ => hopened)
      (confidenceOf s.params v) RestSound.done (fun _ => View.RestLaw.done _)).kept
  · have hislot : (itemOf s.tst.holdings v c.sweep (confidenceOf s.params v)).slot = some v.slot := rfl
    generalize itemOf s.tst.holdings v c.sweep (confidenceOf s.params v) = i at hislot ⊢
    generalize confidenceOf s.params v = q'
    let f : Sighting → Sighting := fun e => { e with placement := some (c.sec, q'), moves := e.moves + 1 }
    let t0 := ((s.countSpe (fun n => { n with moves := sat32 n.moves 1 })).removeItem x v.slot).addItem c.sec i
    have hspe : t0.spe.table = s.spe.table ∧ t0.spe.work = s.spe.work := ⟨rfl, rfl⟩
    have hview : t0.view = (s.view.withSlots (some x) (·.filter (· != some v.slot))).withSlots (some c.sec) (· ++ [some v.slot]) := by
      rw [State.addItem_view, hislot, State.removeItem_view]
      rfl
    show (t0.modEntry v.slot f).Kept b
    obtain ⟨_, hmin, hmax, hsecs, hscores, hlow, hhigh, _⟩ := h.table.sound v hv
    refine State.kept_of_changed h hv (f := f) rfl rfl ⟨(h.table.sound v hv).1, hmin, hmax, hsecs, hscores, hlow, hhigh, ?_⟩
      (hspe.2.trans hidle) (congrArg _ hspe.1) (fun hb => ?_)
    · exact Nat.succ_le_of_lt hmoves
    · have hl := h.law hb
      have hu := State.view_unique h.table
      have hfrom : s.view.stateOf x = some .opened := View.anchored_opened hl hv hp
      have hw := View.withSlots_within (w := s.view) (p := some x) (fun z hz => Option.some.inj hz ▸ hfrom)
        (·.filter (· != some v.slot))
      have hw' := hw.trans (View.withSlots_within (p := some c.sec)
        (fun z hz => Option.some.inj hz ▸ (hw.states _).trans hopened) (· ++ [some v.slot]))
      have hsect (z : SectionId) : (t0.modEntry v.slot f).view.sect z = t0.view.sect z := rfl
      have hstates (z : SectionId) : t0.view.stateOf z = s.view.stateOf z := by rw [hview]; exact hw'.states z
      refine ⟨?_, rfl, ⟨c.sec, rfl, hopened, List.mem_map_of_mem hc⟩, fun n m hm => ⟨fun hr => ?_, fun _ => ?_⟩, fun z l' hz => ?_⟩
      · exact ⟨hw'.grade, hw'.listed, hw'.reported, hw'.requests, hw'.refOf, hstates,
          fun z hz => (hsect z).trans (hview ▸ hw'.others z hz)⟩
      · obtain ⟨hsig, hpl⟩ := hl.mark_same hu hv hm hr
        rw [hp] at hsig hpl
        rw [hsig, hpl]
        exact ⟨⟨fun hc => absurd hc (Option.some_ne_none _), fun hc => absurd hc (Option.some_ne_none _)⟩,
          ⟨fun _ => Option.some_ne_none _, fun _ => Option.some_ne_none _⟩⟩
      · exact hm
      · rw [hsect, hview, View.withSlots, View.withSlots] at hz
        dsimp only at hz
        by_cases hzc : some c.sec = some z
        · have hzx : ¬some x = some z := fun hc => hx (Option.some.inj (hzc.trans hc.symm))
          rw [if_pos hzc, if_neg hzx] at hz
          obtain ⟨⟨g', l⟩, hsz, heq⟩ := Option.map_eq_some_iff.mp hz
          obtain ⟨rfl, rfl⟩ := Prod.mk.inj heq
          have hzero : l.count (some v.slot) = 0 := (hl.count_mine hu hv hsz).2 (by rw [hp]; exact hzx)
          refine ⟨l, hsz, fun slot hs => ?_, fun _ => ?_, fun hne => absurd hzc hne⟩
          · rw [count_append_slot, if_neg hs]
            rfl
          · rw [count_append_slot, if_pos rfl, hzero]
        · rw [if_neg hzc] at hz
          by_cases hzx : some x = some z
          · rw [if_pos hzx] at hz
            obtain ⟨⟨g', l⟩, hsz, heq⟩ := Option.map_eq_some_iff.mp hz
            obtain ⟨rfl, rfl⟩ := Prod.mk.inj heq
            refine ⟨l, hsz, fun slot hs => ?_, fun hpz => absurd hpz hzc, fun _ => ?_⟩
            · rw [count_filter_slot, if_neg hs]
            · rw [count_filter_slot, if_pos rfl]
          · rw [if_neg hzx] at hz
            exact ⟨l', hz, fun _ _ => rfl, fun hpz => absurd hpz hzc,
              fun _ => (hl.count_mine hu hv hz).2 (by rw [hp]; exact hzx)⟩

/-- Nothing of a section that the laws read is changed by a change of its items that keeps their sighting references. -/
theorem State.modItem_view (s : State) (x : SectionId) (k : Nat) {f : Item → Item} (hf : ∀ i, (f i).slot = i.slot) :
    (s.modItem x k f).view = s.view := by
  refine s.modSection_view_same x (f := fun y => { y with list := y.list.map (fun i => if i.slot = some k then f i else i) })
    (fun _ => rfl) (fun y => congrArg (Prod.mk y.state) ?_)
  rw [List.map_map]
  refine List.map_congr_left (fun i _ => ?_)
  rw [Function.comp_apply]
  split
  · exact hf i
  · rfl

/-- An entry changed with its slot, tag, reference and placed section as they were. -/
theorem State.modEntry_kept (h : s.Kept b) (hidle : s.spe.work = .idle) (hv : v ∈ s.spe.table) {f : Sighting → Sighting}
    (hslot : (f v).slot = v.slot) (htag : (f v).tag = v.tag) (href : (f v).ref = v.ref) (hsound : (f v).Sound)
    (hsame : (f v).placement.map Prod.fst = v.placement.map Prod.fst)
    (hanchor : b → ∃ x, (f v).anchor = some x ∧ s.view.stateOf x = some .opened ∧ x ∈ (f v).candidates.map Candidate.sec) :
    (s.modEntry v.slot f).Kept b := by
  have hnone : (f v).placement = none ↔ v.placement = none := by
    rw [← Option.map_eq_none_iff (f := Prod.fst), hsame, Option.map_eq_none_iff]
  refine State.kept_of_changed h hv hslot htag hsound hidle rfl (fun hb => ⟨⟨rfl, rfl, rfl, rfl, rfl, fun _ => rfl, fun _ _ => rfl⟩,
    href, hanchor hb, fun n m hm => ⟨fun hr => ?_, fun _ => hm⟩, fun z l' hz => ?_⟩)
  · rw [ne_eq, hnone]
    exact (h.law hb).mark_same (State.view_unique h.table) hv hm hr
  · rw [hsame]
    obtain ⟨hin, hout⟩ := (h.law hb).count_mine (State.view_unique h.table) hv (l := l') hz
    exact ⟨l', hz, fun _ _ => rfl, hin, hout⟩

theorem State.freeze_kept (h : s.Kept b) (hidle : s.spe.work = .idle) (hv : v ∈ s.spe.table) {q : Confidence}
    (hp : v.placement = some (x, q)) : (s.freeze v x).Kept b := by
  unfold State.freeze
  have hkept : ((s.countSpe (fun n => { n with freezes := sat32 n.freezes 1 })).modEntry v.slot
      (fun e => { e with frozen := true, placement := some (x, .ambiguous) })).Kept b := by
    refine State.modEntry_kept (s := s.countSpe _) ⟨h.table, h.rest, h.law, h.work⟩ hidle hv rfl rfl rfl (h.table.sound v hv)
      (by rw [hp]; rfl) (fun hb => ?_)
    obtain ⟨_, y, hy, hopen, hmem⟩ := (h.law hb).entries v hv
    rw [Sighting.anchor, hp] at hy
    exact ⟨x, rfl, Option.some.inj hy ▸ hopen, Option.some.inj hy ▸ hmem⟩
  exact hkept.congr rfl (State.modItem_view _ x v.slot (f := fun i => { i with confidence := .ambiguous }) (fun _ => rfl))

theorem State.moveTest_kept (h : s.Kept b) (hidle : s.spe.work = .idle) (k : Nat) : (s.moveTest k).Kept b := by
  unfold State.moveTest
  split
  · exact h
  next e he =>
    have hmem := (entryAt_mem he).1
    split
    · exact h
    next x q hp =>
      split
      · exact h
      · split
        next c held hc _ =>
          split
          · split
            next hmoves =>
              obtain ⟨hin, hcond⟩ := List.mem_filter.mp (leadOf_mem hc)
              obtain ⟨hne, hopen⟩ := (Bool.and_eq_true ..).mp hcond
              exact State.moveEntry_kept h hidle hmem hp hin (bne_iff_ne.mp hne) hopen hmoves
            · exact State.freeze_kept h hidle hmem hp
          · exact h
        · exact h

/-! ### A scored read (R84 to R86) -/

theorem State.writePeak_view (s : State) (e : Sighting) : (s.writePeak e).view = s.view := by
  unfold State.writePeak
  split
  · rfl
  · split
    · rfl
    next x _ _ _ c _ => exact s.modItem_view x e.slot (f := fun i => { i with peak := c.sweep }) (fun _ => rfl)

theorem State.scoreEntry_kept (h : s.Kept b) (hidle : s.spe.work = .idle) (hv : v ∈ s.spe.table) {r : ItemRead}
    (hweight : r.weight ≤ 65535) (hr : b → s.view.stateOf r.sec = some .opened) : (s.scoreEntry v r).Kept b := by
  unfold State.scoreEntry
  split
  · exact h.congr rfl rfl
  next list hlist =>
    have hsound := h.table.sound v hv
    obtain ⟨hslot, _, _, _, _, hlow, hhigh, hmoves⟩ := id hsound
    obtain ⟨hmin, hmax, hsecs, hscores⟩ := hsound.scored hweight hlist
    obtain ⟨hnew, hold⟩ := Sighting.scored_secs hlist
    let e' : Sighting := { v with candidates := list, reads := sat16 v.reads, lastRead := s.psc.clock }
    have hkept : (s.modEntry v.slot (fun _ => e')).Kept b := by
      refine State.modEntry_kept h hidle hv rfl rfl rfl ⟨hslot, hmin, hmax, hsecs, hscores, ?_, ?_, hmoves⟩ rfl (fun hb => ?_)
      · show 1 ≤ min 65535 (v.reads + 1)
        omega
      · show min 65535 (v.reads + 1) ≤ 65535
        omega
      · obtain ⟨_, y, hy, hopen, hmem⟩ := (h.law hb).entries v hv
        cases hp : v.placement with
        | some p =>
          rw [Sighting.anchor, hp] at hy
          have hy' : p.1 = y := Option.some.inj hy
          refine ⟨p.1, ?_, hy' ▸ hopen, hold p.1 p.2 hp (hy' ▸ hmem)⟩
          show (match v.placement with | some (x, _) => some x | none => e'.leadSection) = some p.1
          rw [hp]
        | none =>
          obtain ⟨c, hc⟩ := hsound.lead
          obtain ⟨d, hd, hsec⟩ := hsound.scored_lead hp hlist hc
          have hclead := (h.law hb).lead_opened hv hp hc
          refine ⟨d.sec, ?_, ?_, List.mem_map_of_mem (leadOf_mem hd)⟩
          · show (match v.placement with | some (x, _) => some x | none => (leadOf list).map Candidate.sec) = some d.sec
            rw [hp, hd]
            rfl
          · obtain hsec | hsec := hsec
            · rw [hsec]
              exact hr hb
            · rw [hsec]
              exact hclead
    have hpeak : ((s.modEntry v.slot (fun _ => e')).writePeak e').Kept b := by
      refine hkept.congr ?_ (State.writePeak_view _ _)
      have : ((s.modEntry v.slot (fun _ => e')).writePeak e').spe = (s.modEntry v.slot (fun _ => e')).spe := by simp
      exact congrArg Spe.table this
    have hfree : ((s.modEntry v.slot (fun _ => e')).writePeak e').spe.work = .idle := by
      have : ((s.modEntry v.slot (fun _ => e')).writePeak e').spe = (s.modEntry v.slot (fun _ => e')).spe := by simp
      exact (congrArg Spe.work this).trans hidle
    dsimp only
    split
    next hp =>
      refine State.endScored_kept (State.confirmTest_kept hpeak hfree (fun _ e he hk => ?_))
      have htable : ((s.modEntry v.slot (fun _ => e')).writePeak e').spe.table =
          s.spe.table.map (fun i => if i.slot = v.slot then e' else i) := by
        have : ((s.modEntry v.slot (fun _ => e')).writePeak e').spe = (s.modEntry v.slot (fun _ => e')).spe := by simp
        exact congrArg Spe.table this
      rw [htable] at he
      obtain ⟨he, hne⟩ | rfl := (h.table.mem_changed hv (f := fun _ => e') e).mp he
      · exact absurd (h.table.eq_of_slot he hv hk) hne
      · exact hp
    · exact State.endScored_kept (State.moveTest_kept hpeak hfree _)

/-! ### New entries and evictions (R82, R97) -/

/-- What a new entry needs of the table (R82). -/
structure NewTag (table : List Sighting) (r : ItemRead) : Prop where
  weight : r.weight ≤ 65535
  tag : ∀ e ∈ table, e.tag ≠ r.tag

theorem State.makeEntry_kept (h : s.Kept b) (hidle : s.spe.work = .idle) {r : ItemRead} {ref : Option Nat}
    (hnew : NewTag s.spe.table r) (hroom : s.spe.table.length < 2048)
    (hlaw : b → ref = s.view.refOf r.tag ∧ s.view.stateOf r.sec = some .opened) : (s.makeEntry r ref).Kept b := by
  unfold State.makeEntry
  dsimp only
  obtain ⟨hlt, hfree⟩ := h.table.lowestFree hroom
  generalize lowestFree s.spe.table = slot at hlt hfree
  let e : Sighting := ⟨slot, r.tag, ref, [⟨r.sec, r.weight, r.strength, r.sweep⟩], 1, s.psc.clock, none, 0, false⟩
  let t0 := s.setTable (insertEntry e s.spe.table)
  let t := (t0.mark ref .sighted).countSpe (fun c => { c with newSightings := sat32 c.newSightings 1 })
  show ((t.confirmTest slot).endScored).Kept b
  have hspe : (t0.mark ref .sighted).spe = t0.spe := by simp
  have htable : t.spe.table = insertEntry e s.spe.table := congrArg Spe.table hspe
  have hwork : t.spe.work = .idle := (congrArg Spe.work hspe).trans hidle
  have hview : t.view = { s.view with
      has := fun a => a ∈ insertEntry e s.spe.table
      markAt := fun n => if ref = some n then (s.view.markAt n).map (fun _ => Mark.sighted) else s.view.markAt n } := by
    show (t0.mark ref .sighted).view = _
    rw [State.mark_view]
    rfl
  have hsound : e.Sound := by
    refine ⟨hlt, le_rfl, Nat.le_of_ble_eq_true rfl, List.nodup_singleton _, fun c hc => ?_, le_rfl, Nat.le_of_ble_eq_true rfl,
      Nat.zero_le _⟩
    rw [List.mem_singleton.mp hc]
    exact hnew.weight
  refine State.endScored_kept (State.confirmTest_kept (State.kept_of_idle hwork ?_ (fun hb => ?_)) hwork (fun _ a ha hk => ?_))
  · rw [htable]
    exact h.table.insert hsound hfree hnew.tag
  · obtain ⟨href, hopen⟩ := hlaw hb
    refine (h.law hb).insert (new := e) ⟨by rw [hview], by rw [hview], by rw [hview], by rw [hview], by rw [hview],
      fun _ => by rw [hview]; rfl, fun _ _ => by rw [hview]⟩ (fun a => ?_) (State.view_unique h.table).refs hnew.tag href rfl
      ⟨r.sec, rfl, hopen, List.mem_cons_self⟩ (fun n m hm => ?_) (by rw [hview])
    · rw [hview]
      exact mem_insertEntry
    · rw [hview] at hm
      dsimp only at hm
      refine ⟨fun hn => ?_, fun hn => ?_⟩
      · rw [if_pos hn] at hm
        obtain ⟨_, _, hm⟩ := Option.map_eq_some_iff.mp hm
        exact hm.symm
      · rwa [if_neg hn] at hm
  · rw [htable] at ha
    obtain rfl | ha := mem_insertEntry.mp ha
    · rfl
    · exact absurd hk (hfree a ha)

theorem victimOf_mem {table : List Sighting} (h : victimOf table = some v) : v ∈ table := by
  unfold victimOf at h
  split at h
  next e he => exact List.mem_of_mem_filter (oldestEntry_mem (he.trans h))
  · exact oldestEntry_mem h

/-- The slot of an early retire is free after it. -/
theorem State.earlyRetire_free (hplaced : ∀ e ∈ s.spe.table, e.slot = k → e.placement ≠ none) :
    ∀ e ∈ (s.earlyRetire k).spe.table, e.slot ≠ k := by
  intro e he
  unfold State.earlyRetire at he
  split at he
  next hnone => exact entryAt_eq_none hnone he
  next v hv =>
    split at he
    next hp => exact absurd hp (hplaced v (entryAt_mem hv).1 (entryAt_mem hv).2)
    · exact (mem_freed.mp he).2

/-- An early retire and the new entry in its place (R97, R98). -/
theorem State.replaceEntry_kept (h : s.Kept b) (hidle : s.spe.work = .idle) (hk : k < 2048)
    (hplaced : ∀ e ∈ s.spe.table, e.slot = k → e.placement ≠ none) {r : ItemRead} {ref : Option Nat}
    (hnew : NewTag (s.spe.table.filter (fun e => e.slot != k)) r)
    (hlaw : b → ref = s.view.refOf r.tag ∧ s.view.stateOf r.sec = some .opened) :
    ((s.earlyRetire k).makeEntry r ref).Kept b := by
  have hretired := State.earlyRetire_handled h hidle hplaced
  have hfree := State.earlyRetire_free hplaced
  have hwork : (s.earlyRetire k).spe.work = .idle := by
    have : (s.earlyRetire k).spe.work = s.spe.work := by
      unfold State.earlyRetire
      split
      · rfl
      · split
        · rfl
        · simp [State.freeSlot, State.setTable]
    exact this.trans hidle
  refine State.makeEntry_kept hretired.kept hwork ⟨hnew.weight, fun e he => ?_⟩ (hretired.kept.table.length_lt hk hfree)
    (fun hb => ?_)
  · exact hnew.tag e (mem_freed.mpr ⟨(hretired.others e (hfree e he)).mp he, hfree e he⟩)
  · obtain ⟨href, hopen⟩ := hlaw hb
    rw [(hretired.within hb).refOf, (hretired.within hb).states]
    exact ⟨href, hopen⟩

theorem State.newEntry_kept (h : s.Kept b) (hidle : s.spe.work = .idle) {r : ItemRead} {ref : Option Nat}
    (hnew : NewTag s.spe.table r)
    (hlaw : b → ref = s.view.refOf r.tag ∧ ref.bind s.view.markAt ≠ some .disposed ∧ s.view.stateOf r.sec = some .opened) :
    (s.newEntry r ref).Kept b := by
  have hopen (hb : b) : ref = s.view.refOf r.tag ∧ s.view.stateOf r.sec = some .opened := by
    obtain ⟨href, _, hopen⟩ := hlaw hb
    exact ⟨href, hopen⟩
  unfold State.newEntry
  split
  next hroom => exact State.makeEntry_kept h hidle hnew hroom hopen
  · unfold State.evictFor
    split
    · exact h
    next v hvictim =>
      have hv := victimOf_mem hvictim
      have hslot : v.slot < 2048 := (h.table.sound v hv).1
      dsimp only
      generalize ht : s.countSpe (fun c => { c with evictions := sat32 c.evictions 1 }) = t
      have hspe : t.spe.table = s.spe.table ∧ t.spe.work = s.spe.work := ht ▸ ⟨rfl, rfl⟩
      have hview : t.view = s.view := ht ▸ rfl
      have hkept : t.Kept b := h.congr hspe.1 hview
      have hfree : t.spe.work = .idle := hspe.2.trans hidle
      rw [← hspe.1] at hnew hv
      rw [← hview] at hlaw hopen
      split
      next hp =>
        have hnone : v.placement = none := Option.isNone_iff_eq_none.mp hp
        have hplaced := State.place_handled hkept hfree (k := v.slot) .evict (rest := .newEntry r ref)
          (fun _ e he hk => hkept.table.eq_of_slot he hv hk ▸ hnone)
          (fun r' ref' hr => by
            obtain ⟨rfl, rfl⟩ := Continuation.newEntry.inj hr
            exact ⟨hnew.weight, hnew.tag, .inr ⟨v, hv, rfl⟩⟩)
          (fun hb => ⟨fun _ _ hc => by contradiction, fun r' ref' hr => by
            obtain ⟨rfl, rfl⟩ := Continuation.newEntry.inj hr
            exact hlaw hb⟩)
        split
        · exact hplaced.kept
        next hwait =>
          have hidle' := State.idle_of_not_waiting hwait
          refine State.replaceEntry_kept hplaced.kept hidle' hslot (fun e he hk hnone => ?_) ⟨hnew.weight, fun e he => ?_⟩
            (fun hb => ?_)
          · exact ((hplaced.mine e he hk).2 hnone).2 hidle'
          · obtain ⟨he, hk⟩ := mem_freed.mp he
            exact hnew.tag e ((hplaced.others e hk).mp he)
          · rw [(hplaced.within hb).refOf, (hplaced.within hb).states]
            exact hopen hb
      next hp =>
        rw [if_neg (fun hw => t.waiting_iff.mp hw hfree)]
        refine State.replaceEntry_kept hkept hfree hslot (fun e he hk hnone => ?_) ⟨hnew.weight, fun e he => ?_⟩ hopen
        · exact hp (Option.isNone_iff_eq_none.mpr (hkept.table.eq_of_slot he hv hk ▸ hnone))
        · exact hnew.tag e (mem_freed.mp he).1

/-! ### Item reads (R79 to R81) -/

theorem State.sight_kept (h : s.Kept b) (hidle : s.spe.work = .idle) {r : ItemRead} (hweight : r.weight ≤ 65535)
    (hr : s.view.stateOf r.sec = some .opened) : (s.sight r).Kept b := by
  unfold State.sight
  dsimp only
  split
  · exact h.congr rfl rfl
  next hfree =>
    split
    next e he => exact State.scoreEntry_kept h hidle (List.mem_of_find?_eq_some he) hweight (fun _ => hr)
    next hnone =>
      refine State.newEntry_kept h hidle ⟨hweight, fun e he htag => ?_⟩ (fun _ => ⟨rfl, fun hd => ?_, hr⟩)
      · exact List.find?_eq_none.mp hnone e he (beq_iff_eq.mpr htag)
      · exact hfree ((s.disposed_iff _).mpr hd)

theorem State.itemRead_kept (h : s.Kept b) (hidle : s.spe.work = .idle) (e : ReadEntry) {c : Nat} (hc : c ≤ 65535) :
    (s.itemRead e c).Kept b := by
  unfold State.itemRead
  split
  · exact h.congr rfl rfl
  · split
    · exact h.congr rfl rfl
    · split
      next hopen => exact State.sight_kept h hidle ((Nat.sub_le _ _).trans hc) ((s.sectionOpen_iff _).mp hopen)
      · exact h.congr rfl rfl

/-! ### The settle request and the rest of an item of work (R93, R113, R120) -/

theorem State.signalIfClosed_view (s : State) : s.signalIfClosed.view = s.view := by
  unfold State.signalIfClosed
  split
  · rfl
  · rfl

theorem State.signalIfClosed_kept (h : s.Kept b) : s.signalIfClosed.Kept b :=
  h.congr (by simp) s.signalIfClosed_view

theorem State.closeAllSections_kept (h : s.Kept b) : s.closeAllSections.Kept b := by
  unfold State.closeAllSections
  exact State.signalIfClosed_kept (foldl_preserves (State.Kept b) _ (fun _ x ht => State.beginClose_kept ht x) _ _
    (h.congr rfl rfl))

theorem State.settleRun_kept (h : s.Kept b) : s.settleRun.Kept b := by
  have hplaced := State.placeOpen_placed h (fun _ => true) .settle (rest := .settle) (fun _ _ hc => by contradiction)
    (fun _ => View.RestLaw.settle _)
  unfold State.settleRun
  dsimp only
  split
  · exact hplaced.kept
  · exact State.closeAllSections_kept (hplaced.kept.congr rfl rfl)

/-- The item of work goes on. -/
theorem State.goOn_kept (h : s.Kept b) (hidle : s.spe.work = .idle) {rest : Continuation}
    (hnew : ∀ r ref, rest = .newEntry r ref → NewTag s.spe.table r ∧ s.spe.table.length < 2048)
    (hlaw : b → (∀ x after, rest = .forcePlace x after → s.view.RestLaw (.forcePlace x after)) ∧
      ∀ r ref, rest = .newEntry r ref → ref = s.view.refOf r.tag ∧ s.view.stateOf r.sec = some .opened) :
    (s.goOn rest).Kept b := by
  cases rest with
  | done => exact h
  | forcePlace x after => exact State.forcePlaceRun_kept h after (fun hb => (hlaw hb).1 x after rfl)
  | settle => exact State.settleRun_kept h
  | newEntry r ref =>
    obtain ⟨htag, hroom⟩ := hnew r ref rfl
    exact State.makeEntry_kept h hidle htag hroom (fun hb => (hlaw hb).2 r ref rfl)

end Sys2Proof.Machine
end

section
/-! SUPPORT. The rows of SPE, SRU and PAM keep the sighting table and the laws (sections 5.1, 5.4, 6.2 to 6.6, 10.2). -/

namespace Sys2Proof.Machine

variable {s t u : State} {x : SectionId} {k : Nat} {b : Prop} {v : Sighting}

/-! ### Reads taken (R75 to R78, R44 to R56) -/

theorem State.idle_of_speFree (h : s.speFree = true) : s.spe.work = .idle := by
  unfold State.speFree at h
  obtain ⟨h, _⟩ := (Bool.and_eq_true ..).mp h
  exact beq_iff_eq.mp ((Bool.and_eq_true ..).mp h).1

theorem convert_le (o : Int) (g r : Nat) : convert o g r ≤ 255 := by
  rw [convert]
  split
  · exact Nat.zero_le _
  · exact Nat.min_le_left _ _

theorem State.leaveSection_kept (h : s.Kept b) (x : SectionId) (move : Direction) (rushed : Bool) :
    (s.leaveSection x move rushed).Kept b :=
  h.congr (by simp) (s.leaveSection_view x move rushed)

theorem State.firstFacing_kept (h : s.Kept b) (hidle : s.spe.work = .idle) (p : Port) (y : Section) :
    (s.firstFacing p y).Kept b := by
  unfold State.firstFacing
  dsimp only
  generalize hu : (State.countMfu _ _).modFacing _ _ = u
  have hkept : u.Kept b := hu ▸ h.congr rfl rfl
  exact State.enterSection_kept hkept (hu ▸ hidle) _ _

theorem State.changeFacing_kept (h : s.Kept b) (hidle : s.spe.work = .idle) (p : Port) (x : SectionId) (y : Section) :
    (s.changeFacing p x y).Kept b := by
  unfold State.changeFacing
  dsimp only
  generalize moveDirection _ _ = move
  generalize (_ && s.sectionOpen x) = rushed
  generalize hu : (State.countMfu _ _).modFacing _ _ = u
  have hkept : u.Kept b := hu ▸ h.congr rfl rfl
  have hspe : (u.leaveSection x move rushed).spe = u.spe := by simp
  refine State.enterSection_kept (State.leaveSection_kept hkept _ _ _) ?_ _ _
  rw [hspe]
  exact hu ▸ hidle

theorem State.testMarker_kept (h : s.Kept b) (hidle : s.spe.work = .idle) (p : Port) (tag : TagCode) (c : Nat) :
    (s.testMarker p tag c).Kept b := by
  unfold State.testMarker
  split
  · exact h.congr rfl rfl
  · split
    · exact h.congr rfl rfl
    · split
      · exact h.congr rfl rfl
      · unfold State.acceptMarker
        split
        · exact State.firstFacing_kept h hidle _ _
        · split
          · exact h
          · exact State.changeFacing_kept h hidle _ _ _

theorem State.markerRead_kept (h : s.Kept b) (hidle : s.spe.work = .idle) (p : Port) (tag : TagCode) (c : Nat) :
    (s.markerRead p tag c).Kept b := by
  unfold State.markerRead
  generalize hu : State.countMfu _ _ = u
  have hkept : u.Kept b := hu ▸ h.congr rfl rfl
  exact State.testMarker_kept hkept (hu ▸ hidle) _ _ _

theorem State.countOpen_kept (h : s.Kept b) (f : SpeCounters → SpeCounters) : (s.countOpen f).Kept b := by
  unfold State.countOpen
  split
  · exact h.congr rfl rfl
  · exact h

theorem State.takeIn_kept (h : s.Kept b) (hidle : s.spe.work = .idle) (e : ReadEntry) (carried : Bool) (i : Intake) :
    (s.takeIn e carried i).Kept b := by
  cases i with
  | drop => exact h
  | unswept => exact State.countOpen_kept h _
  | errorTagged => exact State.countOpen_kept h _
  | late => exact State.countOpen_kept h _
  | settle => exact State.countOpen_kept h _
  | toScu =>
    show (s.scuRead carried e).Kept b
    unfold State.scuRead
    split
    · exact h.congr rfl rfl
    · exact h.congr rfl rfl
  | classify =>
    show (s.classifyRead e).Kept b
    unfold State.classifyRead
    split
    · exact State.markerRead_kept h hidle _ _ _
    · exact h.congr rfl rfl
    · exact State.itemRead_kept h hidle e ((convert_le ..).trans (by decide))

/-- What a take does before the intake tests changes no sighting and no section. -/
theorem State.dequeue_unread (s : State) (p : Port) : (s.dequeue p).view = s.view ∧ (s.dequeue p).spe.table = s.spe.table ∧
    (s.dequeue p).spe.work = s.spe.work := by
  unfold State.dequeue
  dsimp only
  split
  · exact ⟨rfl, rfl, rfl⟩
  · exact ⟨rfl, rfl, rfl⟩

theorem State.pamReport_unread (s : State) (p : Port) (c : Nat) : (s.pamReport p c).view = s.view ∧ (s.pamReport p c).spe = s.spe :=
  ⟨State.view_congr (by simp) (by simp) (by simp) (by simp) (by simp), by simp⟩

theorem readTakeStep_kept (h : s.Kept b) : (readTakeStep s).Kept b := by
  unfold readTakeStep
  split
  next hmay =>
    have hidle : s.spe.work = .idle := by
      unfold State.mayTake at hmay
      exact State.idle_of_speFree ((Bool.and_eq_true ..).mp hmay).1
    split
    · exact h
    · split
      · exact h
      next p _ _ e _ _ =>
        unfold State.takeEntry
        dsimp only
        obtain ⟨hview, htable, hwork⟩ := s.dequeue_unread p
        have hcounted (f : SpeCounters → SpeCounters) : ((s.dequeue p).countOpen f).Kept b :=
          State.countOpen_kept (h.congr htable hview) f
        have hbusy (f : SpeCounters → SpeCounters) : ((s.dequeue p).countOpen f).spe.work = .idle := by
          unfold State.countOpen
          split
          · exact hwork.trans hidle
          · exact hwork.trans hidle
        obtain ⟨hpam, hspe⟩ := ((s.dequeue p).countOpen (fun c => { c with taken := sat32 c.taken 1 })).pamReport_unread p
          (s.strength { e with port := p })
        exact State.takeIn_kept ((hcounted _).congr (congrArg Spe.table hspe) hpam) ((congrArg Spe.work hspe).trans (hbusy _)) _ _ _
  · exact h

/-! ### SPE's other rows (R91 to R93, R110, R113) -/

theorem quietExpiryStep_kept (h : s.Kept b) : (quietExpiryStep s).Kept b := by
  unfold quietExpiryStep
  split
  next hfree =>
    split
    · exact h
    next e he =>
      have hin : e ∈ s.spe.table ∧ e.placement = none := by
        unfold State.expiryIf at he
        split at he
        · have hp := List.find?_some he
          rw [Bool.and_eq_true, Option.isNone_iff_eq_none] at hp
          exact ⟨List.mem_of_find?_eq_some he, hp.1⟩
        · contradiction
      obtain ⟨hmem, hopen⟩ := hin
      exact (State.place_handled h (State.idle_of_speFree hfree) .quiet
        (fun _ a ha hk => h.table.eq_of_slot ha hmem hk ▸ hopen) RestSound.done (fun _ => View.RestLaw.done _)).kept
  · exact h

/-- The first request leaves the queue. -/
theorem View.Law.taken {w : View} (hl : w.Law) {rest : List SectionId} (h : w.requests = x :: rest) :
    View.Law { w with requests := rest } := by
  obtain ⟨_, hnodup⟩ := List.nodup_cons.mp (h ▸ hl.requestsNodup)
  exact ⟨hl.nodup, hl.listed, hl.reportedNodup, hnodup, hl.opened, hl.closing, hl.empty, hl.reported,
    fun y hy => hl.requests y (h ▸ List.mem_cons_of_mem _ hy), hl.entries, hl.marks, hl.items⟩

theorem forcePlaceAndRetireStep_kept (h : s.Kept b) : (forcePlaceAndRetireStep s).Kept b := by
  unfold forcePlaceAndRetireStep
  split
  next x rest hwork hrequests =>
    have hkept : (s.setSpe { s.spe with requests := rest }).Kept b :=
      State.kept_of_idle hwork h.table (fun hb => (h.law hb).taken hrequests)
    refine State.forcePlaceRun_kept hkept none (fun hb => ⟨fun y after hy => ?_, fun _ _ hc => by contradiction⟩)
    obtain ⟨rfl, rfl⟩ := Continuation.forcePlace.inj hy
    have hl := h.law hb
    have hnodup := hl.requestsNodup
    rw [show s.view.requests = x :: rest from hrequests] at hnodup
    refine ⟨hl.requests x ?_, (List.nodup_cons.mp hnodup).1, fun _ hr => by contradiction⟩
    rw [show s.view.requests = x :: rest from hrequests]
    exact List.mem_cons_self
  · exact h

theorem settleStep_kept (h : s.Kept b) : (settleStep s).Kept b := by
  unfold settleStep
  split
  · exact State.settleRun_kept h
  · exact h

theorem State.finishDisposal_table (s : State) (k : Nat) :
    (s.finishDisposal k).spe.table = s.spe.table.filter (fun e => e.slot != k) := by
  unfold State.finishDisposal
  split
  next hnone =>
    refine (List.filter_eq_self.mpr (fun e he => ?_)).symm
    rw [bne_iff_ne]
    exact entryAt_eq_none hnone he
  next e _ =>
    have hspe (u : State) (hu : u.spe = s.spe) :
        ((u.mark e.ref .disposed).freeSlot k).spe.table = s.spe.table.filter (fun e => e.slot != k) := by
      have hmark : (u.mark e.ref .disposed).spe = s.spe := (u.mark_frame e.ref .disposed).2.2.2.2.2.2.1.trans hu
      show (u.mark e.ref .disposed).spe.table.filter (fun e => e.slot != k) = _
      rw [hmark]
    dsimp only
    split
    · exact hspe s rfl
    · exact hspe _ rfl

theorem State.finishDisposal_work (s : State) (k : Nat) : (s.finishDisposal k).spe.work = s.spe.work := by
  unfold State.finishDisposal
  split
  · rfl
  next e _ =>
    have hspe (u : State) (hu : u.spe = s.spe) : ((u.mark e.ref .disposed).freeSlot k).spe.work = s.spe.work :=
      (congrArg Spe.work ((u.mark_frame e.ref .disposed).2.2.2.2.2.2.1.trans hu) : (u.mark e.ref .disposed).spe.work = s.spe.work)
    dsimp only
    split
    · exact hspe s rfl
    · exact hspe _ rfl

theorem State.endWait_kept (h : s.Kept b) : s.endWait.Kept b := by
  unfold State.endWait
  split
  · exact h.congr rfl rfl
  · exact h

theorem overfullFindingWriteStep_kept (h : s.Kept b) : (overfullFindingWriteStep s).Kept b := by
  unfold overfullFindingWriteStep
  split
  next d hd =>
    split
    · have hspe : ((s.setWork .idle).writeRecord (.finding d.finding)).spe = { s.spe with work := .idle } := by
        have : ((s.setWork .idle).writeRecord (.finding d.finding)).spe = (s.setWork .idle).spe := by simp
        exact this
      have hview : ((s.setWork .idle).writeRecord (.finding d.finding)).view = { s.view with work := .idle } :=
        State.writeRecord_view _ _
      generalize (s.setWork .idle).writeRecord (.finding d.finding) = u at hspe hview
      have hkept : u.Kept b := h.toIdle.congr (congrArg Spe.table hspe) hview
      have hidle : u.spe.work = .idle := congrArg Spe.work hspe
      have hdone := State.finishDisposal_handled hkept hidle d.slot
      have htable : (u.finishDisposal d.slot).spe.table = s.spe.table.filter (fun e => e.slot != d.slot) := by
        rw [u.finishDisposal_table, hspe]
      refine State.endWait_kept (State.goOn_kept hdone.kept ((u.finishDisposal_work d.slot).trans hidle) (fun r ref hr => ?_)
        (fun hb => ⟨fun y after hy => ?_, fun r ref hr => ?_⟩))
      · obtain ⟨hweight, htag, hroom⟩ := h.rest d hd r ref hr
        rw [htable]
        refine ⟨⟨hweight, fun e he => htag e (mem_freed.mp he).1⟩, ?_⟩
        obtain hroom | ⟨e, he, hslot⟩ := hroom
        · exact (List.length_filter_le _ _).trans_lt hroom
        · exact (h.table.filter _).length_lt (hslot ▸ (h.table.sound e he).1) (fun a ha => (mem_freed.mp ha).2)
      · have hrest := ((h.work hb).room d hd).2
        rw [hy] at hrest
        refine (hdone.within hb).rest ?_ (fun _ _ hc => by contradiction)
        rw [hview]
        exact ⟨fun y after hy => hrest.force y after hy, fun r ref hr => by contradiction⟩
      · obtain ⟨href, _, hopen⟩ := ((h.work hb).room d hd).2.fresh r ref hr
        rw [(hdone.within hb).refOf, (hdone.within hb).states, hview]
        exact ⟨href, hopen⟩
    · exact h
  · exact h
  · exact h

theorem sectionOpenAfterWaitStep_kept (h : s.Kept b) : (sectionOpenAfterWaitStep s).Kept b := by
  unfold sectionOpenAfterWaitStep
  split
  next r hr =>
    split
    · exact State.openSection_kept h.toIdle rfl r (fun hb => (h.work hb).place r hr)
    · exact h
  · exact h
  · exact h

theorem quietCloseStep_kept (h : s.Kept b) (x : SectionId) : (quietCloseStep x s).Kept b := by
  unfold quietCloseStep
  split
  · exact h
  · split
    · exact State.beginClose_kept h x
    · exact h

/-! ### The reporter (R114, R118, R119) -/

theorem State.reported_view (s : State) (x : SectionId) (f : OpenSection → OpenSection) (reporter : Option Reporter)
    (closing : List SectionId) (hsec : ∀ o, (f o).sec = o.sec) (hstage : ∀ o, (f o).stage.enter = o.stage.enter) :
    ((s.modOpen x f).setSru { (s.modOpen x f).sru with reporter := reporter, closing := closing }).view =
      { s.view with reported := (reporter.map Reporter.sec).toList ++ closing } := by
  have hopen := s.modOpen_view_same x hsec hstage
  have hstep : ((s.modOpen x f).setSru { (s.modOpen x f).sru with reporter := reporter, closing := closing }).view =
      { (s.modOpen x f).view with reported := (reporter.map Reporter.sec).toList ++ closing } := rfl
  rw [hstep, hopen]

theorem State.reportNext_view (s : State) (x : SectionId) : (s.reportNext x).view = s.view := by
  unfold State.reportNext
  dsimp only
  refine (s.reported_view x (fun o => { o with reportPosition := o.reportPosition.map (· + 1) }) _ s.sru.closing (fun _ => rfl)
    (fun _ => rfl)).trans ?_
  have hsec : ((s.sru.reporter.map (fun r => { r with waiting := false })).map Reporter.sec).toList =
      (s.sru.reporter.map Reporter.sec).toList := by rw [Option.map_map]; rfl
  exact congrArg (fun r => { s.view with reported := r ++ s.sru.closing }) hsec

theorem State.reportWait_view (s : State) : s.reportWait.view = s.view := by
  have hsec : ((s.sru.reporter.map (fun r => { r with waiting := true })).map Reporter.sec).toList =
      (s.sru.reporter.map Reporter.sec).toList := by rw [Option.map_map]; rfl
  exact congrArg (fun r => { s.view with reported := r ++ s.sru.closing }) hsec

theorem State.reportItem_view (s : State) (r : Reporter) (i : Item) (n : Nat) : (s.reportItem r i n).view = s.view := by
  unfold State.reportItem
  dsimp only
  generalize findingOf s.tst.holdings i.ref r.sec (r.flagged.contains n) = f
  have htallied : (if r.waiting = true then s else s.tallyFinding r.sec f.1).view = s.view := by
    split
    · rfl
    · exact s.tallyFinding_view _ _
  generalize (if r.waiting = true then s else s.tallyFinding r.sec f.1) = t at htallied
  split
  · exact (t.reportNext_view _).trans htallied
  · split
    · exact (State.reportNext_view _ _).trans ((t.writeRecord_view _).trans htallied)
    · exact t.reportWait_view.trans htallied

theorem findingWriteStep_view (s : State) : (findingWriteStep s).view = s.view := by
  unfold findingWriteStep
  split
  · rfl
  · dsimp only
    split
    · rfl
    · exact s.reportItem_view _ _ _

theorem State.beginReport_view (s : State) (flagged : List Nat) (hnone : s.sru.reporter = none) {rest : List SectionId}
    (hclosing : s.sru.closing = x :: rest) : (s.beginReport x flagged).view = s.view := by
  have hview := s.reported_view x (fun o => { o with reportPosition := some 1 }) (some ⟨x, flagged, false⟩) s.sru.closing.tail
    (fun _ => rfl) (fun _ => rfl)
  refine hview.trans ?_
  have hsame : ((some (⟨x, flagged, false⟩ : Reporter)).map Reporter.sec).toList ++ s.sru.closing.tail =
      (s.sru.reporter.map Reporter.sec).toList ++ s.sru.closing := by rw [hnone, hclosing]; rfl
  exact congrArg (fun r => { s.view with reported := r }) hsame

theorem reporterTakeSectionStep_view (s : State) : (reporterTakeSectionStep s).view = s.view := by
  unfold reporterTakeSectionStep
  split
  next x rest hnone hclosing =>
    split
    · rfl
    · unfold State.takeSection
      split
      · have hunchecked := s.modSection_view_same x (f := fun y => { y with orderUnchecked := true }) (fun _ => rfl) (fun _ => rfl)
        exact (State.beginReport_view (s := (s.modSection x (fun y => { y with orderUnchecked := true })).countSru _) _ hnone
          hclosing).trans hunchecked
      · exact s.beginReport_view _ hnone hclosing
  · rfl

theorem reporterTakeSectionStep_kept (h : s.Kept b) : (reporterTakeSectionStep s).Kept b :=
  h.congr (congrArg Spe.table (by
    unfold reporterTakeSectionStep
    split
    · split
      · rfl
      · unfold State.takeSection
        split
        · rfl
        · rfl
    · rfl : (reporterTakeSectionStep s).spe = s.spe)) (reporterTakeSectionStep_view s)

theorem State.reportItem_spe (s : State) (r : Reporter) (i : Item) (n : Nat) : (s.reportItem r i n).spe = s.spe := by simp

theorem findingWriteStep_kept (h : s.Kept b) : (findingWriteStep s).Kept b :=
  h.congr (congrArg Spe.table (by
    unfold findingWriteStep
    split
    · rfl
    · dsimp only
      split
      · rfl
      · exact s.reportItem_spe _ _ _ : (findingWriteStep s).spe = s.spe)) (findingWriteStep_view s)

/-- The reporter's section is CLOSED (R119). -/
theorem State.closeSection_kept (h : s.Kept b) {r : Reporter} (hr : s.sru.reporter = some r) : (s.closeSection r.sec).Kept b := by
  unfold State.closeSection
  dsimp only
  refine State.signalIfClosed_kept ?_
  generalize hu : (State.setSru _ _) = u
  have hview : u.view = { s.view with
      sect := fun z => if z = r.sec then (s.view.sect z).map (fun _ => (.closed, [])) else s.view.sect z
      grade := u.view.grade
      listed := u.view.listed
      reported := s.sru.closing } := by
    have hstep : u.view = { (s.modSection r.sec (fun y => { y with state := .closed, list := [] })).view with
        grade := u.view.grade, listed := u.view.listed, reported := s.sru.closing } := hu ▸ rfl
    rw [hstep, s.modSection_view r.sec (f := fun y => { y with state := .closed, list := [] }) (g := fun _ => (.closed, []))
      (fun _ => rfl) (fun _ => rfl)]
  have hspe : u.spe = s.spe := hu ▸ rfl
  refine ⟨hspe ▸ h.table, hspe ▸ h.rest, fun hb => ?_, fun hb => ?_⟩
  · have hl := h.law hb
    have hreported : s.view.reported = r.sec :: s.sru.closing := by
      show (s.sru.reporter.map Reporter.sec).toList ++ s.sru.closing = _
      rw [hr]
      rfl
    have hlist : u.sru.openList = s.sru.openList.filter (fun o => o.sec != r.sec) := hu ▸ rfl
    have hgrade (z : SectionId) : u.view.grade z = if z = r.sec then none else s.view.grade z := by
      show (findOpen u.sru.openList z).map _ = _
      rw [hlist, findOpen, List.find?_filter]
      by_cases hz : z = r.sec
      · rw [if_pos hz, Option.map_eq_none_iff, List.find?_eq_none]
        intro o _ ho
        rw [decide_eq_true_eq, bne_iff_ne, beq_iff_eq] at ho
        exact ho.1 (ho.2.trans hz)
      · rw [if_neg hz]
        show _ = (findOpen s.sru.openList z).map _
        refine congrArg (Option.map _) (congrArg (s.sru.openList.find? ·) (funext fun o => ?_))
        by_cases ho : o.sec = z
        · rw [ho, bne_iff_ne.mpr hz]
          simp
        · rw [beq_eq_false_iff_ne.mpr ho]
          simp
    have hgradeAt := (hl.reported r.sec).mp (hreported ▸ List.mem_cons_self)
    obtain ⟨l, hsect⟩ := View.exists_sect ((hl.closing r.sec).mpr hgradeAt)
    refine hl.closed (x := r.sec) ⟨by rw [hview], by rw [hview], by rw [hview], fun y hy => ?_, fun y hy => ?_⟩ ?_ ?_ ?_ ?_
      (by rw [hview])
    · rw [hview]
      exact if_neg hy
    · rw [hgrade, if_neg hy]
    · rw [hview]
      exact hreported
    · rw [hview]
      dsimp only
      rw [if_pos rfl, hsect]
      rfl
    · rw [hgrade, if_pos rfl]
    · show u.sru.openList.map OpenSection.sec = _
      rw [hlist]
      show _ = (s.sru.openList.map OpenSection.sec).filter (· != r.sec)
      rw [List.filter_map]
      rfl
  · have hl := h.law hb
    have hw := h.work hb
    have hclosing : s.view.stateOf r.sec = some .closing := by
      refine (hl.closing _).mpr ((hl.reported _).mp ?_)
      show r.sec ∈ (s.sru.reporter.map Reporter.sec).toList ++ s.sru.closing
      rw [hr]
      exact List.mem_cons_self
    have hother {z : SectionId} {g : SectionState} (hz : s.view.stateOf z = some g) (hg : g ≠ .closing) :
        u.view.stateOf z = some g := by
      have hne : z ≠ r.sec := fun hzr => by
        rw [hzr, hclosing] at hz
        exact hg (Option.some.inj hz).symm
      rw [View.stateOf, hview]
      dsimp only
      rw [if_neg hne]
      exact hz
    have hgrade {z : SectionId} (hz : s.view.grade z = some .requested) : u.view.grade z = some .requested := by
      have hne : z ≠ r.sec := fun hzr => by
        rw [hzr, (hl.closing _).mp hclosing] at hz
        exact absurd hz (by decide)
      have hlist : u.sru.openList = s.sru.openList.filter (fun o => o.sec != r.sec) := hu ▸ rfl
      obtain ⟨o, ho, rfl, hstage⟩ := State.exists_of_grade hz
      have hnodup : (u.sru.openList.map OpenSection.sec).Nodup := by
        rw [hlist]
        exact hl.nodup.sublist (List.filter_sublist.map _)
      have hin : o ∈ u.sru.openList := by
        rw [hlist]
        exact List.mem_filter.mpr ⟨ho, bne_iff_ne.mpr hne⟩
      rw [State.grade_of_mem hnodup hin, hstage]
    refine ⟨fun q hq => hother (hw.place q (by rw [hview] at hq; exact hq)) (by decide), fun d hd => ?_⟩
    obtain ⟨hopen, hrest⟩ := hw.room d (by rw [hview] at hd; exact hd)
    refine ⟨hother hopen (by decide), fun y after hy => ?_, fun q ref hq => ?_⟩
    · obtain ⟨hg, hnot, hafter⟩ := hrest.force y after hy
      exact ⟨hgrade hg, by rw [hview]; exact hnot, fun q hq => hother (hafter q hq) (by decide)⟩
    · obtain ⟨href, hmark, hopen⟩ := hrest.fresh q ref hq
      exact ⟨by rw [hview]; exact href, by rw [hview]; exact hmark, hother hopen (by decide)⟩

theorem sectionSummaryWriteStep_kept (h : s.Kept b) : (sectionSummaryWriteStep s).Kept b := by
  unfold sectionSummaryWriteStep
  split
  · exact h
  next r hr =>
    split
    next y o _ _ =>
      split
      · refine State.closeSection_kept (h.congr ?_ (s.writeRecord_view _)) (r := r) ?_
        · simp
        · have : (s.writeRecord (.summary (summaryOf y o.tallies))).sru = s.sru := by simp
          rw [this]
          exact hr
      · exact h
    · exact h

/-! ### The end of an activity window (R183 to R185) -/

/-- A step that changes nothing of sightings and sections that the laws read. -/
def State.Unread (s t : State) : Prop := t.view = s.view ∧ t.spe.table = s.spe.table

theorem State.Unread.refl (s : State) : s.Unread s := ⟨rfl, rfl⟩

theorem State.Unread.trans (h : s.Unread t) (k : t.Unread u) : s.Unread u := ⟨k.1.trans h.1, k.2.trans h.2⟩

theorem State.unread_of_blocks (htst : t.tst = s.tst) (hsru : t.sru = s.sru) (hspe : t.spe = s.spe) : s.Unread t :=
  ⟨State.view_congr htst hsru (congrArg _ hspe) (congrArg _ hspe) (congrArg _ hspe), congrArg _ hspe⟩

theorem State.loseFacing_unread (s : State) (p : Port) : s.Unread (s.loseFacing p) := by
  unfold State.loseFacing
  split
  · exact .refl s
  next x _ =>
    refine ⟨State.leaveSection_view _ x .unknown false, ?_⟩
    have hspe (u : State) : (u.leaveSection x .unknown false).spe = u.spe := by simp
    rw [hspe]
    rfl

theorem State.judgeWindow_unread (s : State) (p : Port) : s.Unread (s.judgeWindow p) := by
  unfold State.judgeWindow
  dsimp only
  split
  · exact .refl s
  · split
    · exact .refl s
    · split
      · refine State.Unread.trans ?_ (State.loseFacing_unread _ p)
        exact State.unread_of_blocks (by simp) (by simp) (by simp)
      · exact .refl s

theorem activityWindowEndStep_kept (h : s.Kept b) : (activityWindowEndStep s).Kept b := by
  unfold activityWindowEndStep
  split
  · exact h
  next w _ =>
    split
    · have hwritten : s.Unread s.writeActivities := State.unread_of_blocks (by simp) (by simp) (by simp)
      have hjudged : s.Unread (s.writeActivities.forPorts (fun p t => t.judgeWindow p)) :=
        foldl_preserves (s.Unread ·) _ (fun t p ht => ht.trans (t.judgeWindow_unread p)) _ _ hwritten
      have hwindow : s.Unread ((s.writeActivities.forPorts (fun p t => t.judgeWindow p)).startWindow w.stop) :=
        hjudged.trans (State.unread_of_blocks (by simp) (by simp) (by simp))
      exact h.congr hwindow.2 hwindow.1
    · exact h

end Sys2Proof.Machine
end

section
/-! SUPPORT. What sweep starts, arrivals, marks of HOLD, parameters and upstream frames leave of the work of a pass: SPE's table,
work and requests, and the position of the PREPARING walk. -/

namespace Sys2Proof.Machine

@[simp] theorem State.setStale_hand (s : State) (p : Port) (n : Nat) :
    (s.setStale p n).spe.table = s.spe.table ∧ (s.setStale p n).spe.work = s.spe.work ∧
    (s.setStale p n).spe.requests = s.spe.requests := by
  unfold State.setStale; simp

@[simp] theorem State.countSpe_hand (s : State) (f : SpeCounters → SpeCounters) :
    (s.countSpe f).spe.table = s.spe.table ∧ (s.countSpe f).spe.work = s.spe.work ∧
    (s.countSpe f).spe.requests = s.spe.requests := by
  unfold State.countSpe; simp

@[simp] theorem State.countPsc_hand (s : State) (f : PscCounters → PscCounters) :
    (s.countPsc f).psc.cleared = s.psc.cleared := by
  unfold State.countPsc; simp

@[simp] theorem State.wake_hand (s : State) (p : Port) :
    (s.wake p).spe.table = s.spe.table ∧ (s.wake p).spe.work = s.spe.work ∧
    (s.wake p).spe.requests = s.spe.requests := by
  unfold State.wake; split <;> simp

@[simp] theorem State.arrive_hand (s : State) (e : ReadEntry) :
    (s.arrive e).spe.table = s.spe.table ∧ (s.arrive e).spe.work = s.spe.work ∧
    (s.arrive e).spe.requests = s.spe.requests := by
  unfold State.arrive; (repeat' split) <;> simp

@[simp] theorem State.emptyPort_hand (s : State) (p : Port) :
    (s.emptyPort p).spe.table = s.spe.table ∧ (s.emptyPort p).spe.work = s.spe.work ∧
    (s.emptyPort p).spe.requests = s.spe.requests := by
  unfold State.emptyPort; dsimp only; split <;> simp

@[simp] theorem State.becomeHeld_hand (s : State) (p : Port) :
    (s.becomeHeld p).spe.table = s.spe.table ∧ (s.becomeHeld p).spe.work = s.spe.work ∧
    (s.becomeHeld p).spe.requests = s.spe.requests := by
  unfold State.becomeHeld; simp

@[simp] theorem State.enterSettling_hand (s : State) (r : EndReason) :
    (s.enterSettling r).psc.cleared = s.psc.cleared := by
  unfold State.enterSettling; simp

@[simp] theorem State.internalClose_hand (s : State) (r : EndReason) :
    (s.internalClose r).psc.cleared = s.psc.cleared := by
  unfold State.internalClose; split <;> simp

@[simp] theorem State.rhgTake_hand (s : State) (i : Nat) :
    (s.rhgTake i).psc.cleared = s.psc.cleared := by
  unfold State.rhgTake; split <;> simp

@[simp] theorem State.rhgPresent_hand (s : State) (y : Section) (n : Nat) :
    (s.rhgPresent y n).spe.table = s.spe.table ∧ (s.rhgPresent y n).spe.work = s.spe.work ∧
    (s.rhgPresent y n).spe.requests = s.spe.requests := by
  unfold State.rhgPresent; split <;> simp

@[simp] theorem State.rhgAdvance_hand (s : State) (l : List Side) (n : Nat) :
    (s.rhgAdvance l n).spe.table = s.spe.table ∧ (s.rhgAdvance l n).spe.work = s.spe.work ∧
    (s.rhgAdvance l n).spe.requests = s.spe.requests ∧ (s.rhgAdvance l n).psc.cleared = s.psc.cleared := by
  unfold State.rhgAdvance; dsimp only; (repeat' split) <;> simp

@[simp] theorem State.rhgStart_hand (s : State) (l : List Side) (n : Nat) (b : Bool) :
    (s.rhgStart l n b).spe.table = s.spe.table ∧ (s.rhgStart l n b).spe.work = s.spe.work ∧
    (s.rhgStart l n b).spe.requests = s.spe.requests ∧ (s.rhgStart l n b).psc.cleared = s.psc.cleared := by
  unfold State.rhgStart; (repeat' split) <;> simp

@[simp] theorem State.sweepStarted_hand (s : State) (l : List Side) (n : Nat) (b : Bool) :
    (s.sweepStarted l n b).spe.table = s.spe.table ∧ (s.sweepStarted l n b).spe.work = s.spe.work ∧
    (s.sweepStarted l n b).spe.requests = s.spe.requests ∧ (s.sweepStarted l n b).psc.cleared = s.psc.cleared := by
  unfold State.sweepStarted
  simp only [State.rhgStart_hand]
  exact ⟨forPorts_keeps (fun u : State => u.spe.table) _ (by intro p t; split <;> simp) _,
    forPorts_keeps (fun u : State => u.spe.work) _ (by intro p t; split <;> simp) _,
    forPorts_keeps (fun u : State => u.spe.requests) _ (by intro p t; split <;> simp) _,
    forPorts_keeps (fun u : State => u.psc.cleared) _ (by intro p t; split <;> simp) _⟩

@[simp] theorem State.freeStart_hand (s : State) (g : Generator) :
    (s.freeStart g).spe.table = s.spe.table ∧ (s.freeStart g).spe.work = s.spe.work ∧
    (s.freeStart g).spe.requests = s.spe.requests ∧ (s.freeStart g).psc.cleared = s.psc.cleared := by
  unfold State.freeStart; dsimp only; simp only [State.sweepStarted_hand, State.modGen_frame]
  exact ⟨foldl_keeps (fun u : State => u.spe.table) _ (by simp) _ _,
    foldl_keeps (fun u : State => u.spe.work) _ (by simp) _ _,
    foldl_keeps (fun u : State => u.spe.requests) _ (by simp) _ _,
    foldl_keeps (fun u : State => u.psc.cleared) _ (by simp) _ _⟩

@[simp] theorem State.interleavedStart_hand (s : State) :
    s.interleavedStart.spe.table = s.spe.table ∧ s.interleavedStart.spe.work = s.spe.work ∧
    s.interleavedStart.spe.requests = s.spe.requests ∧ s.interleavedStart.psc.cleared = s.psc.cleared := by
  unfold State.interleavedStart; dsimp only; simp only [State.sweepStarted_hand, State.setSwg_spe, State.setSwg_psc]
  exact ⟨foldl_keeps (fun u : State => u.spe.table) _ (by simp) _ _,
    foldl_keeps (fun u : State => u.spe.work) _ (by simp) _ _,
    foldl_keeps (fun u : State => u.spe.requests) _ (by simp) _ _,
    foldl_keeps (fun u : State => u.psc.cleared) _ (by simp) _ _⟩

@[simp] theorem State.attemptStart_hand (s : State) (g : Generator) :
    (s.attemptStart g).spe.table = s.spe.table ∧ (s.attemptStart g).spe.work = s.spe.work ∧
    (s.attemptStart g).spe.requests = s.spe.requests ∧ (s.attemptStart g).psc.cleared = s.psc.cleared := by
  unfold State.attemptStart; (repeat' split) <;> simp

@[simp] theorem State.startIfActive_hand (s : State) (g : Generator) :
    (s.startIfActive g).spe.table = s.spe.table ∧ (s.startIfActive g).spe.work = s.spe.work ∧
    (s.startIfActive g).spe.requests = s.spe.requests ∧ (s.startIfActive g).psc.cleared = s.psc.cleared := by
  unfold State.startIfActive; split <;> simp

@[simp] theorem State.startGenerators_hand (s : State) :
    s.startGenerators.spe.table = s.spe.table ∧ s.startGenerators.spe.work = s.spe.work ∧
    s.startGenerators.spe.requests = s.spe.requests ∧ s.startGenerators.psc.cleared = s.psc.cleared := by
  unfold State.startGenerators; simp

@[simp] theorem State.releaseStart_hand (s : State) (h : Bool) (g : Generator) :
    (s.releaseStart h g).spe.table = s.spe.table ∧ (s.releaseStart h g).spe.work = s.spe.work ∧
    (s.releaseStart h g).spe.requests = s.spe.requests ∧ (s.releaseStart h g).psc.cleared = s.psc.cleared := by
  unfold State.releaseStart; split <;> simp

@[simp] theorem State.releaseHold_hand (s : State) :
    s.releaseHold.spe.table = s.spe.table ∧ s.releaseHold.spe.work = s.spe.work ∧
    s.releaseHold.spe.requests = s.spe.requests ∧ s.releaseHold.psc.cleared = s.psc.cleared := by
  unfold State.releaseHold; simp

@[simp] theorem State.releaseIfLow_hand (s : State) :
    s.releaseIfLow.spe.table = s.spe.table ∧ s.releaseIfLow.spe.work = s.spe.work ∧
    s.releaseIfLow.spe.requests = s.spe.requests ∧ s.releaseIfLow.psc.cleared = s.psc.cleared := by
  unfold State.releaseIfLow; split <;> simp

@[simp] theorem State.retestHold_hand (s : State) :
    s.retestHold.spe.table = s.spe.table ∧ s.retestHold.spe.work = s.spe.work ∧
    s.retestHold.spe.requests = s.spe.requests ∧ s.retestHold.psc.cleared = s.psc.cleared := by
  unfold State.retestHold; split <;> simp

@[simp] theorem State.makeB_hand (s : State) (b : BStart) :
    (s.makeB b).spe.table = s.spe.table ∧ (s.makeB b).spe.work = s.spe.work ∧
    (s.makeB b).spe.requests = s.spe.requests ∧ (s.makeB b).psc.cleared = s.psc.cleared := by
  unfold State.makeB; split <;> simp

@[simp] theorem State.setFollows_hand (s : State) (b : Bool) (p : Port) :
    (s.setFollows b p).spe.table = s.spe.table ∧ (s.setFollows b p).spe.work = s.spe.work ∧
    (s.setFollows b p).spe.requests = s.spe.requests := by
  unfold State.setFollows; split <;> simp

@[simp] theorem State.setPortParam_hand (s : State) (i v : Nat) (p : Port) :
    (s.setPortParam i v p).spe.table = s.spe.table ∧ (s.setPortParam i v p).spe.work = s.spe.work ∧
    (s.setPortParam i v p).spe.requests = s.spe.requests := by
  unfold State.setPortParam; split <;> simp

@[simp] theorem State.resetPorts_hand (s : State) (f : MgmtFrame) (q : Port → Bool) :
    (s.resetPorts f q).spe.table = s.spe.table ∧ (s.resetPorts f q).spe.work = s.spe.work ∧
    (s.resetPorts f q).spe.requests = s.spe.requests := by
  unfold State.resetPorts; simp only [State.reply_frame]
  exact ⟨forPorts_keeps (fun u : State => u.spe.table) _ (by intro p t; split <;> simp) _,
    forPorts_keeps (fun u : State => u.spe.work) _ (by intro p t; split <;> simp) _,
    forPorts_keeps (fun u : State => u.spe.requests) _ (by intro p t; split <;> simp) _⟩

@[simp] theorem State.clearStale_hand (s : State) :
    s.clearStale.spe.table = s.spe.table ∧ s.clearStale.spe.work = s.spe.work ∧
    s.clearStale.spe.requests = s.spe.requests := by
  unfold State.clearStale; simp

@[simp] theorem State.startRhg_hand (s : State) :
    s.startRhg.psc.cleared = s.psc.cleared := by
  unfold State.startRhg; (repeat' split) <;> simp

@[simp] theorem State.enterScanning_hand (s : State) :
    s.enterScanning.spe.table = s.spe.table ∧ s.enterScanning.spe.work = s.spe.work ∧
    s.enterScanning.spe.requests = s.spe.requests ∧ s.enterScanning.psc.cleared = s.psc.cleared := by
  unfold State.enterScanning; dsimp only; split <;> simp

@[simp] theorem State.tallyNext_hand (s : State) :
    s.tallyNext.psc.cleared = s.psc.cleared := by
  unfold State.tallyNext; simp

@[simp] theorem State.sendReport_hand (s : State) :
    s.sendReport.spe.table = s.spe.table ∧ s.sendReport.spe.work = s.spe.work ∧
    s.sendReport.spe.requests = s.spe.requests ∧ s.sendReport.psc.cleared = s.psc.cleared := by
  unfold State.sendReport; simp

@[simp] theorem State.sendChoice_hand (s : State) (c : Choice) :
    (s.sendChoice c).spe.table = s.spe.table ∧ (s.sendChoice c).spe.work = s.spe.work ∧
    (s.sendChoice c).spe.requests = s.spe.requests ∧ (s.sendChoice c).psc.cleared = s.psc.cleared := by
  unfold State.sendChoice; split <;> simp

@[simp] theorem State.arbitrate_hand (s : State) :
    s.arbitrate.spe.table = s.spe.table ∧ s.arbitrate.spe.work = s.spe.work ∧
    s.arbitrate.spe.requests = s.spe.requests ∧ s.arbitrate.psc.cleared = s.psc.cleared := by
  unfold State.arbitrate; split <;> simp

@[simp] theorem State.applyParam_hand (s : State) (i j v : Nat) :
    (s.applyParam i j v).spe.table = s.spe.table ∧ (s.applyParam i j v).spe.work = s.spe.work ∧
    (s.applyParam i j v).spe.requests = s.spe.requests ∧ (s.applyParam i j v).psc.cleared = s.psc.cleared := by
  unfold State.applyParam; split
  · exact ⟨foldl_keeps (fun u : State => u.spe.table) _ (by simp) _ _,
    foldl_keeps (fun u : State => u.spe.work) _ (by simp) _ _,
    foldl_keeps (fun u : State => u.spe.requests) _ (by simp) _ _,
    foldl_keeps (fun u : State => u.psc.cleared) _ (by simp) _ _⟩
  · (repeat' split) <;> simp

@[simp] theorem State.judgeGood_hand (s : State) (l : Link) (f : ReadFrame) :
    (s.judgeGood l f).spe.table = s.spe.table ∧ (s.judgeGood l f).spe.work = s.spe.work ∧
    (s.judgeGood l f).spe.requests = s.spe.requests := by
  unfold State.judgeGood; split <;> simp

@[simp] theorem State.judgeFrame_hand (s : State) (l : Link) (g : List Byte) :
    (s.judgeFrame l g).spe.table = s.spe.table ∧ (s.judgeFrame l g).spe.work = s.spe.work ∧
    (s.judgeFrame l g).spe.requests = s.spe.requests := by
  unfold State.judgeFrame; split <;> simp

end Sys2Proof.Machine
end

section
/-! SUPPORT. The law of sightings and sections in every pass state: in SCANNING and SETTLING the law of the view, and outside them
nothing in hand (sections 4.4, 5.3, 6.1, 7.4). -/

namespace Sys2Proof.Machine

variable {s t u : State} {b : Prop}

/-- No sighting, no open section and no work is in hand. -/
structure State.Resting (s : State) : Prop where
  table : s.spe.table = []
  work : s.spe.work = .idle
  requests : s.spe.requests = []
  openList : s.sru.openList = []
  reporter : s.sru.reporter = none
  closing : s.sru.closing = []
  marks : ∀ h ∈ s.tst.holdings, h.mark ≠ .sighted ∧ h.mark ≠ .placed
  tallying : s.psc.state = .tallying → ∀ y ∈ s.tst.sections, y.state = .unvisited ∨ y.state = .closed
  preparing : s.psc.state = .preparing → ∀ y ∈ s.tst.sections.take s.psc.cleared, y.state = .unvisited ∧ y.list = []

/-- The sighting table is sound, and, where `b` holds, so is the law of marks and sightings with that of the sections. -/
structure State.Lawful (b : Prop) (s : State) : Prop where
  kept : s.Kept (b ∧ s.psc.state.Reads)
  resting : b → ¬s.psc.state.Reads → s.Resting

/-! ### The law and the invariants -/

theorem State.Kept.mono {c : Prop} (h : s.Kept b) (hc : c → b) : s.Kept c :=
  ⟨h.table, h.rest, fun hcc => h.law (hc hcc), fun hcc => h.work (hc hcc)⟩

theorem State.kept_false_iff (s : State) : s.Kept False ↔ s.SightingsInv := by
  rw [State.sightingsInv_iff]
  exact ⟨fun h => ⟨h.table, h.rest⟩, fun ⟨htable, hrest⟩ => ⟨htable, hrest, False.elim, False.elim⟩⟩

theorem State.lawful_false_iff (s : State) : s.Lawful False ↔ s.SightingsInv := by
  rw [← State.kept_false_iff]
  exact ⟨fun h => h.kept.mono False.elim, fun h => ⟨h.mono And.left, False.elim⟩⟩

theorem State.resting_of_inv (hnot : ¬s.psc.state.Reads) (hsections : s.SectionsInv) (hmarks : s.MarksInv) : s.Resting := by
  obtain ⟨_, hempty, htally, hprepare, _⟩ := hsections
  obtain ⟨hnone, _, hmark, _⟩ := hmarks
  obtain ⟨hlisted, hreported, hrequests, hwork⟩ := hempty hnot
  have htable := hnone (fun h => hnot (.inl h)) (fun h => hnot (.inr h))
  obtain ⟨hreporter, hclosing⟩ := List.append_eq_nil_iff.mp hreported
  refine ⟨htable, hwork, hrequests, List.map_eq_nil_iff.mp hlisted, ?_, hclosing, fun h hh => ?_, htally, hprepare⟩
  · exact Option.map_eq_none_iff.mp (Option.toList_eq_nil_iff.mp hreporter)
  · obtain ⟨n, hn⟩ := List.getElem?_of_mem hh
    obtain ⟨hs, hp⟩ := hmark n h hn
    rw [htable] at hs hp
    refine ⟨fun hm => ?_, fun hm => ?_⟩
    · obtain ⟨_, he, _⟩ := hs.mp hm
      exact List.not_mem_nil he
    · obtain ⟨_, he, _⟩ := hp.mp hm
      exact List.not_mem_nil he

theorem State.Resting.inv (h : s.Resting) (hnot : ¬s.psc.state.Reads) : s.SectionsInv ∧ s.MarksInv := by
  obtain ⟨htable, hwork, hrequests, hlist, hreporter, hclosing, hmarks, htally, hprepare⟩ := h
  refine ⟨⟨fun hr => absurd hr hnot, fun _ => ⟨by rw [hlist]; rfl, by rw [hreporter, hclosing]; rfl, hrequests, hwork⟩, htally,
      hprepare, fun r hr => ?_, fun d hd => ?_⟩,
    ⟨fun _ _ => htable, fun e he => ?_, fun n h hn => ?_, fun hr => absurd hr hnot, fun d _ _ hd => ?_⟩⟩
  · obtain hr | ⟨d, _, hd, _⟩ := hr
    · rw [hwork] at hr
      contradiction
    · rw [hwork] at hd
      contradiction
  · rw [hwork] at hd
    contradiction
  · rw [htable] at he
    exact absurd he List.not_mem_nil
  · obtain ⟨hs, hp⟩ := hmarks h (List.mem_of_getElem? hn)
    rw [htable]
    exact ⟨⟨fun hm => absurd hm hs, fun ⟨_, he, _⟩ => absurd he List.not_mem_nil⟩,
      ⟨fun hm => absurd hm hp, fun ⟨_, he, _⟩ => absurd he List.not_mem_nil⟩⟩
  · rw [hwork] at hd
    contradiction

theorem State.lawful_of_inv (hids : (s.tst.sections.map Section.id).Nodup) (hsightings : s.SightingsInv)
    (hsections : s.SectionsInv) (hmarks : s.MarksInv) : s.Lawful True := by
  obtain ⟨htable, hrest⟩ := s.sightingsInv_iff.mp hsightings
  exact ⟨⟨htable, hrest, fun hr => (State.law_of_inv hr.2 hids htable hsections hmarks).1,
    fun hr => (State.law_of_inv hr.2 hids htable hsections hmarks).2⟩, fun _ hnot => State.resting_of_inv hnot hsections hmarks⟩

theorem State.Lawful.inv (h : s.Lawful True) (hids : (s.tst.sections.map Section.id).Nodup) : s.SectionsInv ∧ s.MarksInv := by
  by_cases hr : s.psc.state.Reads
  · exact State.inv_of_law hr hids h.kept.table (h.kept.law ⟨trivial, hr⟩) (h.kept.work ⟨trivial, hr⟩)
  · exact (h.resting trivial hr).inv hr

/-! ### What changes nothing of sightings and sections -/

/-- The tables, the open sections and the work of SPE stand. -/
def State.Stands (s t : State) : Prop :=
  t.tst = s.tst ∧ t.spe.table = s.spe.table ∧ t.spe.work = s.spe.work ∧ t.spe.requests = s.spe.requests ∧
  t.sru.openList = s.sru.openList ∧ t.sru.reporter = s.sru.reporter ∧ t.sru.closing = s.sru.closing ∧
  t.psc.cleared = s.psc.cleared

theorem State.Stands.refl (s : State) : s.Stands s := ⟨rfl, rfl, rfl, rfl, rfl, rfl, rfl, rfl⟩

theorem State.Stands.trans (h : s.Stands t) (k : t.Stands u) : s.Stands u := by
  obtain ⟨h1, h2, h3, h4, h5, h6, h7, h8⟩ := h
  obtain ⟨k1, k2, k3, k4, k5, k6, k7, k8⟩ := k
  exact ⟨k1.trans h1, k2.trans h2, k3.trans h3, k4.trans h4, k5.trans h5, k6.trans h6, k7.trans h7, k8.trans h8⟩

theorem State.Stands.view (h : s.Stands t) : t.view = s.view := by
  obtain ⟨htst, htable, hwork, hrequests, hlist, hreporter, hclosing, _⟩ := h
  unfold State.view
  rw [htst, htable, hwork, hrequests, hlist, hreporter, hclosing]

/-- The two pass states ask the same of the law. -/
def PassState.Alike (p q : PassState) : Prop :=
  (q.Reads ↔ p.Reads) ∧ (q = .tallying → p = .tallying) ∧ (q = .preparing → p = .preparing)

theorem PassState.Alike.of_eq {p q : PassState} (h : q = p) : p.Alike q := by
  rw [h]
  exact ⟨Iff.rfl, id, id⟩

theorem State.Resting.congr (h : s.Resting) (hst : s.Stands t) (hstate : s.psc.state.Alike t.psc.state) : t.Resting := by
  obtain ⟨htst, htable, hwork, hrequests, hlist, hreporter, hclosing, hcleared⟩ := hst
  obtain ⟨_, htally, hprepare⟩ := hstate
  exact ⟨htable.trans h.table, hwork.trans h.work, hrequests.trans h.requests, hlist.trans h.openList, hreporter.trans h.reporter,
    hclosing.trans h.closing, htst ▸ h.marks, fun hs => htst ▸ h.tallying (htally hs),
    fun hs => by rw [htst, hcleared]; exact h.preparing (hprepare hs)⟩

theorem State.Lawful.stands (h : s.Lawful b) (hst : s.Stands t) (hstate : s.psc.state.Alike t.psc.state) : t.Lawful b := by
  have hreads := hstate.1
  have htable := hst.2.1
  refine ⟨(h.kept.congr htable hst.view).mono (fun hb => ⟨hb.1, hreads.mp hb.2⟩), fun hb hnot => ?_⟩
  exact (h.resting hb (fun hr => hnot (hreads.mpr hr))).congr hst hstate

/-- A state outside SCANNING and SETTLING with nothing in hand. -/
theorem State.lawful_of_resting (htable : s.spe.table = []) (hwork : s.spe.work = .idle) (hnot : ¬s.psc.state.Reads)
    (hr : b → s.Resting) : s.Lawful b :=
  ⟨State.kept_of_idle hwork (htable ▸ TableSound.nil) (fun hb => absurd hb.2 hnot), fun hb _ => hr hb⟩

/-! ### The end of settling (R119, R120, R136) -/

/-- Every opened section is CLOSED, and no opening waits. -/
def State.AllClosed (s : State) : Prop := s.sru.openList = [] ∧ ∀ r, s.spe.work ≠ .waitPlace r

theorem State.resting_of_law (hids : (s.tst.sections.map Section.id).Nodup) (hl : s.view.Law) (hw : s.view.WorkLaw)
    (hclosed : s.AllClosed) (hstate : s.psc.state ≠ .preparing) : s.Resting := by
  obtain ⟨hlist, hwait⟩ := hclosed
  have hgrade (x : SectionId) : s.view.grade x = none := by
    show (findOpen s.sru.openList x).map _ = none
    rw [hlist]
    rfl
  have hnotOpen (x : SectionId) : s.view.stateOf x ≠ some .opened := fun h => ((hl.opened x).mp h).1 (hgrade x)
  have hnotClosing (x : SectionId) : s.view.stateOf x ≠ some .closing := fun h => by
    have := (hl.closing x).mp h
    rw [hgrade] at this
    contradiction
  have htable : s.spe.table = [] := by
    refine List.eq_nil_iff_forall_not_mem.mpr (fun e he => ?_)
    obtain ⟨_, x, _, hopen, _⟩ := hl.entries e he
    exact hnotOpen x hopen
  have hreported : s.view.reported = [] := by
    refine List.eq_nil_iff_forall_not_mem.mpr (fun x hx => ?_)
    have := (hl.reported x).mp hx
    rw [hgrade] at this
    contradiction
  obtain ⟨hreporter, hclosing⟩ := List.append_eq_nil_iff.mp hreported
  refine ⟨htable, ?_, ?_, hlist, Option.map_eq_none_iff.mp (Option.toList_eq_nil_iff.mp hreporter), hclosing, fun h hh => ?_,
    fun _ y hy => ?_, fun hp => absurd hp hstate⟩
  · cases hwork : s.spe.work with
    | idle => rfl
    | waitPlace r => exact absurd hwork (hwait r)
    | waitRoom d => exact absurd (hw.room d hwork).1 (hnotOpen _)
  · refine List.eq_nil_iff_forall_not_mem.mpr (fun x hx => ?_)
    have := hl.requests x hx
    rw [hgrade] at this
    contradiction
  · obtain ⟨n, hn⟩ := List.getElem?_of_mem hh
    obtain ⟨hs, hp⟩ := hl.marks n h.mark (congrArg (Option.map Holding.mark) hn)
    have hnone (e : Sighting) (he : s.view.has e) : False := by
      have he : e ∈ s.spe.table := he
      rw [htable] at he
      exact List.not_mem_nil he
    exact ⟨fun hm => (hs.mp hm).elim (fun e he => hnone e he.1), fun hm => (hp.mp hm).elim (fun e he => hnone e he.1)⟩
  · have hy := State.stateOf_of_mem hids hy
    cases hstate : y.state with
    | unvisited => exact .inl rfl
    | closed => exact .inr rfl
    | opened => exact absurd (hy.trans (congrArg some hstate)) (hnotOpen _)
    | closing => exact absurd (hy.trans (congrArg some hstate)) (hnotClosing _)

/-- A row that keeps what it finds, in SCANNING and SETTLING, and does nothing that the law reads elsewhere. -/
theorem State.Lawful.row (h : s.Lawful b) (hids : b → (t.tst.sections.map Section.id).Nodup)
    (hkept : s.Kept (b ∧ s.psc.state.Reads) → t.Kept (b ∧ s.psc.state.Reads))
    (hstate : t.psc.state = s.psc.state ∨ s.psc.state = .settling ∧ t.psc.state = .tallying ∧ t.AllClosed)
    (hrest : b → ¬s.psc.state.Reads → s.Resting → s.Stands t) : t.Lawful b := by
  obtain hsame | ⟨hsettle, htally, hclosed⟩ := hstate
  · refine ⟨hsame ▸ hkept h.kept, fun hb hnot => ?_⟩
    rw [hsame] at hnot
    have hr := h.resting hb hnot
    exact hr.congr (hrest hb hnot hr) (.of_eq hsame)
  · have hreads : s.psc.state.Reads := .inr hsettle
    have hk := hkept h.kept
    refine ⟨hk.mono (fun hb => ⟨hb.1, hreads⟩), fun hb _ => ?_⟩
    refine State.resting_of_law (hids hb) (hk.law ⟨hb, hreads⟩) (hk.work ⟨hb, hreads⟩) hclosed ?_
    rw [htally]
    decide

/-- SRU's signal: TALLYING is entered with every section CLOSED and no opening that waits. -/
theorem State.signalIfClosed_state (s : State) : s.signalIfClosed.psc.state = s.psc.state ∨
    s.psc.state = .settling ∧ s.signalIfClosed.psc.state = .tallying ∧ s.signalIfClosed.AllClosed := by
  unfold State.signalIfClosed
  split
  next h =>
    obtain ⟨hsettle, _, hlist, hwait⟩ := h
    refine .inr ⟨hsettle, rfl, hlist, fun r hr => ?_⟩
    have hr : s.spe.work = .waitPlace r := hr
    unfold State.awaitsPlace at hwait
    rw [hr] at hwait
    contradiction
  · exact .inl rfl

theorem State.beginClose_state (s : State) (x : SectionId) : (s.beginClose x).psc.state = s.psc.state := by
  have hpsc : (s.beginClose x).psc = s.psc := by simp
  rw [hpsc]

theorem State.closeAllSections_state (s : State) : s.closeAllSections.psc.state = s.psc.state ∨
    s.psc.state = .settling ∧ s.closeAllSections.psc.state = .tallying ∧ s.closeAllSections.AllClosed := by
  unfold State.closeAllSections
  have hbegun : ((s.sru.openList.map OpenSection.sec).foldl (fun t x => t.beginClose x)
      (s.setSru { s.sru with closeAll := true })).psc.state = s.psc.state :=
    foldl_preserves (fun t : State => t.psc.state = s.psc.state) _ (fun t x ht => (t.beginClose_state x).trans ht) _ _ rfl
  rw [← hbegun]
  exact State.signalIfClosed_state _

theorem State.settleRun_state (s : State) : s.settleRun.psc.state = s.psc.state ∨
    s.psc.state = .settling ∧ s.settleRun.psc.state = .tallying ∧ s.settleRun.AllClosed := by
  have hpsc : (s.placeMany (openSlots s.spe.table (fun _ => true)) .settle .settle).psc = s.psc := by simp
  unfold State.settleRun
  dsimp only
  generalize s.placeMany (openSlots s.spe.table (fun _ => true)) .settle .settle = t at hpsc
  split
  · exact .inl (congrArg Psc.state hpsc)
  · have h := State.closeAllSections_state (s := (t.setSpe { t.spe with settleRequest := false }).setPsc
      { (t.setSpe { t.spe with settleRequest := false }).psc with stage := .closingAll })
    have hstate : t.psc.state = s.psc.state := congrArg Psc.state hpsc
    rw [← hstate]
    exact h

theorem State.goOn_state (s : State) (c : Continuation) : (s.goOn c).psc.state = s.psc.state ∨
    s.psc.state = .settling ∧ (s.goOn c).psc.state = .tallying ∧ (s.goOn c).AllClosed := by
  cases c with
  | done => exact .inl rfl
  | forcePlace x after =>
    have hpsc : (s.forcePlaceRun x after).psc = s.psc := by simp
    exact .inl (congrArg Psc.state hpsc)
  | settle => exact s.settleRun_state
  | newEntry r ref =>
    have hpsc : (s.makeEntry r ref).psc = s.psc := by simp
    exact .inl (congrArg Psc.state hpsc)

theorem State.endWait_closed (h : s.AllClosed) : s.endWait.AllClosed := by
  unfold State.endWait
  split
  · exact h
  · exact h

theorem settleStep_state (s : State) : (settleStep s).psc.state = s.psc.state ∨
    s.psc.state = .settling ∧ (settleStep s).psc.state = .tallying ∧ (settleStep s).AllClosed := by
  unfold settleStep
  split
  · exact s.settleRun_state
  · exact .inl rfl

theorem overfullFindingWriteStep_state (s : State) : (overfullFindingWriteStep s).psc.state = s.psc.state ∨
    s.psc.state = .settling ∧ (overfullFindingWriteStep s).psc.state = .tallying ∧ (overfullFindingWriteStep s).AllClosed := by
  unfold overfullFindingWriteStep
  split
  next d _ =>
    split
    · have hpsc : (((s.setWork .idle).writeRecord (.finding d.finding)).finishDisposal d.slot).psc = s.psc := by simp
      generalize ((s.setWork .idle).writeRecord (.finding d.finding)).finishDisposal d.slot = u at hpsc
      have hend : (u.goOn d.rest).endWait.psc = (u.goOn d.rest).psc := by simp
      rw [hend, ← hpsc]
      obtain h | ⟨hsettle, htally, hclosed⟩ := u.goOn_state d.rest
      · exact .inl h
      · exact .inr ⟨hsettle, htally, State.endWait_closed hclosed⟩
    · exact .inl rfl
  · exact .inl rfl
  · exact .inl rfl

theorem sectionSummaryWriteStep_state (s : State) : (sectionSummaryWriteStep s).psc.state = s.psc.state ∨
    s.psc.state = .settling ∧ (sectionSummaryWriteStep s).psc.state = .tallying ∧ (sectionSummaryWriteStep s).AllClosed := by
  unfold sectionSummaryWriteStep
  split
  · exact .inl rfl
  next r _ =>
    split
    next y o _ _ =>
      split
      · have hpsc : (s.writeRecord (.summary (summaryOf y o.tallies))).psc = s.psc := by simp
        have hsignal := ((s.writeRecord (.summary (summaryOf y o.tallies))).sectionClosed r.sec).signalIfClosed_state
        have hstate : ((s.writeRecord (.summary (summaryOf y o.tallies))).sectionClosed r.sec).psc.state = s.psc.state :=
          congrArg Psc.state hpsc
        rw [hstate] at hsignal
        exact hsignal
      · exact .inl rfl
    · exact .inl rfl

end Sys2Proof.Machine
end

section
/-! SUPPORT. The rows that change nothing of sightings, sections and SPE's work, and the pass states they move between. -/

namespace Sys2Proof.Machine

variable {s t u : State} {b : Prop} {c : Instr}

/-! ### Rows of the lines, the links and the generators -/

theorem forPorts_stands {f : Port → State → State} (h : ∀ (p : Port) (t : State), t.Stands (f p t)) (s : State) : s.Stands (s.forPorts f) :=
  foldl_preserves (s.Stands ·) _ (fun t p ht => ht.trans (h p t)) _ _ (.refl s)

theorem qholdAssertStep_stands (s : State) : s.Stands (qholdAssertStep s) := by
  unfold qholdAssertStep
  split
  · exact .refl s
  · have hlevel : s.Stands (s.setQhold true) := by simp [State.Stands]
    refine hlevel.trans (forPorts_stands (fun p t => ?_) _)
    split
    · simp [State.Stands]
    · exact .refl t

theorem State.frontEndByte_stands (l : Link) (s : State) (x : Byte) : s.Stands (s.frontEndByte l x) := by
  unfold State.frontEndByte
  dsimp only
  split
  · simp [State.Stands]
  · simp [State.Stands]
  · simp [State.Stands]

theorem frontEndFrameJudgedStep_stands (l : Link) (bytes : List Byte) (s : State) : s.Stands (frontEndFrameJudgedStep l bytes s) :=
  foldl_preserves (s.Stands ·) _ (fun t x ht => ht.trans (t.frontEndByte_stands l x)) _ _ (.refl s)

theorem sweepFrameSentStep_stands (l : Link) (s : State) : s.Stands (sweepFrameSentStep l s) := by
  unfold sweepFrameSentStep
  split
  · simp [State.Stands]
  · exact .refl s

theorem sweepStartStep_stands (g : Generator) (s : State) : s.Stands (sweepStartStep g s) := by
  unfold sweepStartStep
  split
  · simp [State.Stands]
  · exact .refl s

theorem aStartStep_stands (s : State) : s.Stands (aStartStep s) := by
  unfold aStartStep
  split
  · simp [State.Stands]
  · exact .refl s

theorem bStartStep_stands (s : State) : s.Stands (bStartStep s) := by
  unfold bStartStep
  split
  · exact .refl s
  · split
    · simp [State.Stands]
    · exact .refl s

theorem clockLimitStep_stands (s : State) : s.Stands (clockLimitStep s) := by
  unfold clockLimitStep
  split
  · simp [State.Stands]
  · exact .refl s

/-! ### Rows of the uplink -/

theorem State.arbitrate_stands (s : State) : s.Stands s.arbitrate := by simp [State.Stands]

theorem State.stands_of_arbitrate_or_eq (h : t = s.arbitrate ∨ t = s) : s.Stands t := by
  obtain rfl | rfl := h
  · exact s.arbitrate_stands
  · exact .refl _

theorem flushTimeExpiryStep_stands (s : State) : s.Stands (flushTimeExpiryStep s) := by
  unfold flushTimeExpiryStep
  split
  · exact s.arbitrate_stands
  · exact .refl s

theorem uplinkFrameEndStep_stands (s : State) : s.Stands (uplinkFrameEndStep s) := by
  unfold uplinkFrameEndStep
  split
  · exact .refl s
  · simp [State.Stands]

theorem resumeStep_stands (s : State) : s.Stands (resumeStep s) := by
  unfold resumeStep
  split
  · simp [State.Stands]
  · exact .refl s

theorem pauseStep_stands (s : State) : s.Stands (pauseStep s) := .refl s

/-! ### Rows of PSC and of the exchanges -/

theorem drainCompleteStep_stands (s : State) : s.Stands (drainCompleteStep s) := by
  unfold drainCompleteStep
  split
  · simp [State.Stands]
  · exact .refl s

theorem tallyFindingWriteStep_stands (s : State) : s.Stands (tallyFindingWriteStep s) := by
  unfold tallyFindingWriteStep
  split
  · exact .refl s
  · split
    · simp [State.Stands]
    · exact .refl s

theorem calibrationCompleteStep_stands (s : State) : s.Stands (calibrationCompleteStep s) := by
  unfold calibrationCompleteStep
  split
  · have houtcomes : s.Stands s.applyOutcomes := forPorts_stands (fun p t => by simp [State.Stands]) s
    generalize s.applyOutcomes = u at houtcomes ⊢
    exact houtcomes.trans (by simp [State.Stands])
  · exact .refl s

theorem State.dispatch_stands (s : State) (mine : MgmtFrame → Bool) {act : MgmtFrame → State → State}
    (h : ∀ (f : MgmtFrame) (t : State), t.Stands (act f t)) : s.Stands (s.dispatch mine act) := by
  obtain heq | ⟨f, _, _, heq⟩ := s.dispatch_cases mine act
  · rw [heq]
    exact .refl s
  · rw [heq]
    have hpopped : s.Stands s.popMgmt := .refl s
    exact hpopped.trans (h f s.popMgmt)

theorem State.reply_stands (s : State) (f : MgmtFrame) (r : ResultCode) (payload : List Byte) : s.Stands (s.reply f r payload) := by
  simp [State.Stands]

theorem State.refuse_stands (s : State) (f : MgmtFrame) (r : ResultCode) : s.Stands (s.refuse f r) := by simp [State.Stands]

theorem identifyAct_stands (f : MgmtFrame) (s : State) : s.Stands (identifyAct f s) := by
  unfold identifyAct
  split
  · simp [State.Stands]
  · simp [State.Stands]

theorem getParamAct_stands (f : MgmtFrame) (s : State) : s.Stands (getParamAct f s) := by
  unfold getParamAct
  split
  · exact s.refuse_stands _ _
  · split
    · exact s.reply_stands _ _ _
    · exact s.refuse_stands _ _

theorem readStatusAct_stands (f : MgmtFrame) (s : State) : s.Stands (readStatusAct f s) := by
  unfold readStatusAct
  split
  · exact s.refuse_stands _ _
  · exact s.reply_stands _ _ _

theorem resetPortQueuesAct_stands (f : MgmtFrame) (s : State) : s.Stands (resetPortQueuesAct f s) := by
  unfold resetPortQueuesAct
  split
  · exact s.refuse_stands _ _
  · simp [State.Stands]
  · simp [State.Stands]

theorem badKindAct_stands (f : MgmtFrame) (s : State) : s.Stands (badKindAct f s) := by
  unfold badKindAct
  exact s.reply_stands _ _ _

theorem setParamAct_stands (f : MgmtFrame) (s : State) : s.Stands (setParamAct f s) := by
  unfold setParamAct
  split
  · exact s.refuse_stands _ _
  · split
    · exact s.refuse_stands _ _
    · simp [State.Stands]

theorem calibrateAct_stands (f : MgmtFrame) (s : State) : s.Stands (calibrateAct f s) := by
  unfold calibrateAct
  split
  · exact s.refuse_stands _ _
  · split
    · exact s.refuse_stands _ _
    · simp [State.Stands]

theorem closePassAct_stands (f : MgmtFrame) (s : State) : s.Stands (closePassAct f s) := by
  unfold closePassAct
  split
  · exact s.refuse_stands _ _
  · split
    · simp [State.Stands]
    · exact s.refuse_stands _ _

theorem State.beginLoad_stands (s : State) (f : MgmtFrame) (size : Nat) (hold : List (List Byte) → Exchange) :
    s.Stands (s.beginLoad f size hold) := by
  unfold State.beginLoad
  split
  · exact s.refuse_stands _ _
  · split
    · exact s.refuse_stands _ _
    · split
      · exact s.refuse_stands _ _
      · simp [State.Stands]

/-! ### Pass states (R125) -/

/-- The commands after which the law may ask something else: those that empty the device, open a pass, end the walk, end settling
and end the tally. -/
def Turns : Instr → Prop
  | .powerOn => True
  | .resetLine => True
  | .abortPass _ => True
  | .restart _ => True
  | .uplinkFrameJudged _ => True
  | .openPass => True
  | .rehearse => True
  | .preparingWalkEnd => True
  | .settle => True
  | .overfullFindingWrite => True
  | .sectionSummaryWrite => True
  | .tallyWalkEnd => True
  | _ => False

theorem Phase.Sweeps.alike {p q : Phase} (h : p.Sweeps q) : p.state.Alike q.state := by
  obtain hsame | ⟨hscan, hsettle⟩ := h.edge
  · exact .of_eq hsame
  · rw [hscan, hsettle]
    exact ⟨⟨fun _ => .inl rfl, fun _ => .inr rfl⟩, fun hc => by contradiction, fun hc => by contradiction⟩

theorem Phase.Row.alike {p q : Phase} (h : Phase.Row c p q) (hc : ¬Turns c) : p.state.Alike q.state := by
  cases h with
  | sweeps h => exact h.alike
  | received hr =>
    obtain ⟨_, rfl⟩ | ⟨_, rfl⟩ | ⟨_, rfl⟩ := hr
    · exact absurd trivial hc
    · exact absurd trivial hc
    · exact absurd trivial hc
  | resets hr =>
    obtain rfl | rfl := hr
    · exact absurd trivial hc
    · exact absurd trivial hc
  | opens hr =>
    obtain rfl | rfl := hr
    · exact absurd trivial hc
    · exact absurd trivial hc
  | calibrates hp _ _ h =>
    have hidle : (p.state : PassState).Alike .calibrating := by
      rw [hp]
      exact ⟨⟨fun h => h.elim (fun h => by contradiction) (fun h => by contradiction),
        fun h => h.elim (fun h => by contradiction) (fun h => by contradiction)⟩, fun h => by contradiction,
        fun h => by contradiction⟩
    obtain hsame | ⟨hscan, _⟩ := h.edge
    · have hsame : q.state = .calibrating := hsame
      rw [hsame]
      exact hidle
    · have hscan : PassState.calibrating = .scanning := hscan
      contradiction
  | scans => exact absurd trivial hc
  | tallies hr =>
    obtain rfl | rfl | rfl := hr
    · exact absurd trivial hc
    · exact absurd trivial hc
    · exact absurd trivial hc
  | passEnds => exact absurd trivial hc
  | completes hp =>
    show p.state.Alike .idle
    rw [hp]
    exact ⟨⟨fun h => h.elim (fun h => by contradiction) (fun h => by contradiction),
      fun h => h.elim (fun h => by contradiction) (fun h => by contradiction)⟩, fun h => by contradiction,
      fun h => by contradiction⟩
  | loads => exact .of_eq rfl
  | stores => exact .of_eq rfl
  | clears => exact .of_eq rfl
  | sets _ _ _ h => exact h.alike

/-- A row that changes nothing of sightings and sections. -/
theorem State.Lawful.exec_stands (h : s.Lawful b) (hexec : exec c s = .next t) (hc : ¬Turns c) (hst : s.Stands t) : t.Lawful b :=
  h.stands hst ((exec_row c s t hexec).alike hc)

theorem live_stands {f : State → State} (hlive : live s f = .next t) (hf : s.Stands (f s)) : s.Stands t := by
  unfold live at hlive
  cases hlive
  split
  · exact .refl s
  · exact hf

theorem live_dispatch_stands {mine : MgmtFrame → Bool} {act : MgmtFrame → State → State}
    (hlive : live s (State.dispatch · mine act) = .next t) (hact : ∀ (f : MgmtFrame) (u : State), u.Stands (act f u)) : s.Stands t :=
  live_stands hlive (s.dispatch_stands mine hact)

end Sys2Proof.Machine
end

section
/-! SUPPORT. The law of sightings and sections where a pass opens, ends, is aborted or restarted, in the two walks of PSC, and where
tables are loaded and cleared (sections 4.3, 7.2, 7.5 to 7.7). -/

namespace Sys2Proof.Machine

variable {s t u : State} {b : Prop} {c : Instr}

/-! ### Outside SCANNING and SETTLING -/

theorem PassState.not_reads_idle : ¬PassState.idle.Reads := by rintro (h | h) <;> contradiction

theorem PassState.not_reads_preparing : ¬PassState.preparing.Reads := by rintro (h | h) <;> contradiction

theorem PassState.not_reads_tallying : ¬PassState.tallying.Reads := by rintro (h | h) <;> contradiction

/-- A row that ends outside SCANNING and SETTLING and leaves the sighting table and SPE's work. -/
theorem State.Lawful.outside (h : s.Lawful b) (htable : t.spe.table = s.spe.table) (hwork : t.spe.work = s.spe.work)
    (hnot : b → ¬t.psc.state.Reads) (hr : b → t.Resting) : t.Lawful b :=
  ⟨⟨htable ▸ h.kept.table, fun d hd => htable ▸ h.kept.rest d (hwork ▸ hd), fun hb => absurd hb.2 (hnot hb.1),
    fun hb => absurd hb.2 (hnot hb.1)⟩, fun hb _ => hr hb⟩

/-- No sighting is left and nothing is in hand in IDLE. -/
theorem State.lawful_of_idle (hidle : s.psc.state = .idle)
    (hspe : s.spe.table = [] ∧ s.spe.work = .idle ∧ s.spe.requests = [])
    (hsru : s.sru.openList = [] ∧ s.sru.reporter = none ∧ s.sru.closing = [])
    (hmarks : b → ∀ h ∈ s.tst.holdings, h.mark ≠ .sighted ∧ h.mark ≠ .placed) : s.Lawful b := by
  obtain ⟨htable, hwork, hrequests⟩ := hspe
  obtain ⟨hlist, hreporter, hclosing⟩ := hsru
  refine State.lawful_of_resting htable hwork (by rw [hidle]; exact PassState.not_reads_idle) (fun hb =>
    ⟨htable, hwork, hrequests, hlist, hreporter, hclosing, hmarks hb, fun h => ?_, fun h => ?_⟩)
  · rw [hidle] at h
    contradiction
  · rw [hidle] at h
    contradiction

/-! ### The work of a pass ended (R142, R143) -/

theorem Mark.dropped_ne (m : Mark) : m.dropped ≠ .sighted ∧ m.dropped ≠ .placed := by
  cases m with
  | unseen => exact ⟨by decide, by decide⟩
  | sighted => exact ⟨by decide, by decide⟩
  | placed => exact ⟨by decide, by decide⟩
  | disposed => exact ⟨by decide, by decide⟩

theorem State.endWork_spe (s : State) :
    s.endWork.spe.table = [] ∧ s.endWork.spe.work = .idle ∧ s.endWork.spe.requests = [] := ⟨rfl, rfl, rfl⟩

theorem State.endWork_sru (s : State) :
    s.endWork.sru.openList = [] ∧ s.endWork.sru.reporter = none ∧ s.endWork.sru.closing = [] := ⟨rfl, rfl, rfl⟩

theorem State.endWork_marks (s : State) : ∀ h ∈ s.endWork.tst.holdings, h.mark ≠ .sighted ∧ h.mark ≠ .placed := by
  have hmap : ∃ l : List Holding, s.endWork.tst.holdings = l.map (fun h => { h with mark := h.mark.dropped }) := ⟨_, rfl⟩
  obtain ⟨l, hl⟩ := hmap
  intro h hh
  rw [hl] at hh
  obtain ⟨a, _, rfl⟩ := List.mem_map.mp hh
  exact a.mark.dropped_ne

theorem State.abort_lawful (h : s.Lawful b) (tag : Byte) : (s.abort tag).Lawful b := by
  unfold State.abort
  split
  next hidle =>
    exact h.stands (by simp [State.Stands]) (.of_eq (by simp))
  · have hspe := s.endWork_spe
    have hsru := s.endWork_sru
    have hmarks := s.endWork_marks
    generalize s.endWork = u at hspe hsru hmarks ⊢
    refine State.lawful_of_idle ?_ ?_ ?_ (fun _ => ?_)
    · simp [State.enterIdle]
    · simpa [State.enterIdle] using hspe
    · simpa [State.enterIdle] using hsru
    · simpa [State.enterIdle] using hmarks

theorem State.restartBlocks_empty (s : State) : s.restartBlocks.psc.state = .idle ∧
    (s.restartBlocks.spe.table = [] ∧ s.restartBlocks.spe.work = .idle ∧ s.restartBlocks.spe.requests = []) ∧
    s.restartBlocks.sru.openList = [] ∧ s.restartBlocks.sru.reporter = none ∧ s.restartBlocks.sru.closing = [] :=
  ⟨rfl, ⟨rfl, rfl, rfl⟩, rfl, rfl, rfl⟩

theorem State.restart_lawful (h : s.Lawful b) (tag : Byte) : (s.restart tag).Lawful b := by
  have hmarks : b → ∀ a ∈ s.restartWork.tst.holdings, a.mark ≠ .sighted ∧ a.mark ≠ .placed := by
    intro hb
    unfold State.restartWork
    split
    next hidle => exact (h.resting hb (by rw [hidle]; exact PassState.not_reads_idle)).marks
    · have hmarks := s.endWork_marks
      generalize s.endWork = u at hmarks ⊢
      simpa using hmarks
  unfold State.restart
  generalize s.restartWork = u at hmarks ⊢
  have htst : u.restartQueues.restartUplink.clearPassCounters.restartBlocks.tst = u.tst := by simp
  have hempty := State.restartBlocks_empty u.restartQueues.restartUplink.clearPassCounters
  generalize u.restartQueues.restartUplink.clearPassCounters.restartBlocks = v at htst hempty ⊢
  obtain ⟨hidle, hspe, hsru⟩ := hempty
  refine State.lawful_of_idle ?_ ?_ ?_ (fun hb => ?_)
  · simpa using hidle
  · simpa using hspe
  · simpa using hsru
  · simpa [htst] using hmarks hb

/-! ### Bytes received on the uplink (R148) -/

theorem State.sortFrame_lawful (h : s.Lawful b) (f : MgmtFrame) : (s.sortFrame f).Lawful b := by
  unfold State.sortFrame
  split
  · exact State.abort_lawful h _
  · split
    · exact State.restart_lawful h _
    · split
      · exact h.stands (pauseStep_stands s) (.of_eq rfl)
      · split
        · exact h.stands (resumeStep_stands s) (resumeStep_sweeps s).alike
        · exact h.stands (by simp [State.Stands]) (.of_eq (by simp))

theorem State.Lawful.setUlp (h : s.Lawful b) (v : Ulp) : (s.setUlp v).Lawful b :=
  h.stands ⟨rfl, rfl, rfl, rfl, rfl, rfl, rfl, rfl⟩ (.of_eq rfl)

theorem State.Lawful.countUlp (h : s.Lawful b) (f : UlpCounters → UlpCounters) : (s.countUlp f).Lawful b := h.setUlp _

theorem State.judgeUplink_lawful (h : s.Lawful b) (got : List Byte) : (s.judgeUplink got).Lawful b := by
  unfold State.judgeUplink
  split
  · exact State.sortFrame_lawful (h.countUlp _) _
  · exact h.countUlp _

theorem State.uplinkByte_lawful (h : s.Lawful b) (x : Byte) : (s.uplinkByte x).Lawful b := by
  unfold State.uplinkByte
  dsimp only
  split
  · exact h.setUlp _
  · exact (h.setUlp _).countUlp _
  · exact State.judgeUplink_lawful (h.setUlp _) _

theorem uplinkFrameJudgedStep_lawful (h : s.Lawful b) (bytes : List Byte) : (uplinkFrameJudgedStep bytes s).Lawful b :=
  foldl_preserves (State.Lawful b) _ (fun _ x ht => State.uplinkByte_lawful ht x) _ _ h

/-! ### A pass opened (R129) -/

@[simp] theorem State.markStale_hand (s : State) : s.markStale.spe.table = s.spe.table ∧ s.markStale.spe.work = s.spe.work ∧
    s.markStale.spe.requests = s.spe.requests :=
  ⟨forPorts_keeps (fun u : State => u.spe.table) _ (by simp) _, forPorts_keeps (fun u : State => u.spe.work) _ (by simp) _,
    forPorts_keeps (fun u : State => u.spe.requests) _ (by simp) _⟩

theorem State.setUpPass_lawful (h : s.Lawful b) (hidle : s.psc.state = .idle) (source : PassSource) (verbose : Bool)
    (pace displacement : Option Nat) : (s.setUpPass source verbose pace displacement).Lawful b := by
  have htst : (s.setUpPass source verbose pace displacement).tst = s.tst := by simp
  have hspe : (s.setUpPass source verbose pace displacement).spe.table = [] ∧
      (s.setUpPass source verbose pace displacement).spe.work = .idle ∧
      (s.setUpPass source verbose pace displacement).spe.requests = [] := by simp [State.setUpPass, State.clearSpe]
  have hsru : (s.setUpPass source verbose pace displacement).sru.openList = [] ∧
      (s.setUpPass source verbose pace displacement).sru.reporter = none ∧
      (s.setUpPass source verbose pace displacement).sru.closing = [] := by simp [State.setUpPass, State.clearSru]
  have hstate : (s.setUpPass source verbose pace displacement).psc.state = .preparing ∧
      (s.setUpPass source verbose pace displacement).psc.cleared = 0 := by simp [State.setUpPass]
  generalize s.setUpPass source verbose pace displacement = u at htst hspe hsru hstate ⊢
  obtain ⟨hprep, hcleared⟩ := hstate
  obtain ⟨htable, hwork, hrequests⟩ := hspe
  obtain ⟨hlist, hreporter, hclosing⟩ := hsru
  refine State.lawful_of_resting htable hwork (by rw [hprep]; exact PassState.not_reads_preparing) (fun hb =>
    ⟨htable, hwork, hrequests, hlist, hreporter, hclosing, ?_, fun htally => ?_, fun _ y hy => ?_⟩)
  · rw [htst]
    exact (h.resting hb (by rw [hidle]; exact PassState.not_reads_idle)).marks
  · rw [hprep] at htally
    contradiction
  · rw [hcleared] at hy
    exact absurd hy List.not_mem_nil

theorem State.openBy_lawful (h : s.Lawful b) (hidle : s.psc.state = .idle) (f : MgmtFrame) (source : PassSource) (verbose : Bool)
    (pace displacement : Option Nat) : (s.openBy f source verbose pace displacement).Lawful b :=
  (State.setUpPass_lawful h hidle source verbose pace displacement).setUlp _

theorem openPassAct_lawful (h : s.Lawful b) (f : MgmtFrame) : (openPassAct f s).Lawful b := by
  have hrefused (r : ResultCode) : (s.refuse f r).Lawful b := h.stands (s.refuse_stands f r) (.of_eq (by simp))
  unfold openPassAct
  split
  · exact hrefused _
  · split
    · exact hrefused _
    next hfree =>
      split
      · exact hrefused _
      · exact State.openBy_lawful h (State.idle_of_not_taken hfree) _ _ _ _ _

theorem rehearseAct_lawful (h : s.Lawful b) (f : MgmtFrame) : (rehearseAct f s).Lawful b := by
  have hrefused (r : ResultCode) : (s.refuse f r).Lawful b := h.stands (s.refuse_stands f r) (.of_eq (by simp))
  unfold rehearseAct
  split
  · exact hrefused _
  · split
    · exact hrefused _
    next hfree =>
      split
      · exact hrefused _
      · split
        · exact hrefused _
        · exact State.openBy_lawful h (State.idle_of_not_taken hfree) _ _ _ _ _

/-- An exchange whose action keeps the law. -/
theorem State.dispatch_lawful (h : s.Lawful b) (mine : MgmtFrame → Bool) {act : MgmtFrame → State → State}
    (hact : ∀ (f : MgmtFrame) (u : State), u.Lawful b → (act f u).Lawful b) : (s.dispatch mine act).Lawful b := by
  obtain heq | ⟨f, _, _, heq⟩ := s.dispatch_cases mine act
  · rw [heq]
    exact h
  · rw [heq]
    exact hact f _ (h.stands (.refl s) (.of_eq rfl))

/-! ### The PREPARING walk (R129) -/

theorem mem_setMark {l : List Holding} {n : Nat} {m : Mark} {a : Holding} (h : a ∈ setMark l n m) : a ∈ l ∨ a.mark = m := by
  obtain ⟨i, hi⟩ := List.getElem?_of_mem h
  rw [setMark, List.getElem?_modify] at hi
  obtain ⟨c, hc, rfl⟩ := Option.map_eq_some_iff.mp hi
  split
  · exact .inr rfl
  · exact .inl (List.mem_of_getElem? hc)

theorem mem_take_modify {α : Type} {l : List α} {f : α → α} {n : Nat} {a : α} (h : a ∈ (l.modify n f).take (n + 1)) :
    a ∈ l.take n ∨ ∃ c ∈ l, a = f c := by
  obtain ⟨i, hi⟩ := List.getElem?_of_mem h
  rw [List.getElem?_take] at hi
  split at hi
  next hlt =>
    rw [List.getElem?_modify] at hi
    obtain ⟨c, hc, rfl⟩ := Option.map_eq_some_iff.mp hi
    split
    · exact .inr ⟨c, List.mem_of_getElem? hc, rfl⟩
    next hne =>
      refine .inl (List.mem_of_getElem? (i := i) ?_)
      rw [List.getElem?_take, if_pos (by omega), hc]
  · contradiction

theorem State.walkOne_state (s : State) : s.walkOne.psc.state = s.psc.state := congrArg Phase.state s.walkOne_phase

/-- One record of the walk visited with nothing in hand. -/
theorem State.walkOne_resting (h : s.Resting) (hstate : s.psc.state = .preparing) : s.walkOne.Resting := by
  have hspe : s.walkOne.spe = s.spe := by simp
  have hsru : s.walkOne.sru = s.sru := by simp
  refine ⟨hspe ▸ h.table, hspe ▸ h.work, hspe ▸ h.requests, hsru ▸ h.openList, hsru ▸ h.reporter, hsru ▸ h.closing, ?_,
    fun htally => ?_, fun _ => ?_⟩
  · unfold State.walkOne
    split
    · intro a ha
      obtain ha | ha := mem_setMark ha
      · exact h.marks a ha
      · rw [ha]
        exact ⟨by decide, by decide⟩
    · split
      · exact h.marks
      · unfold State.countNext State.countRecord
        (repeat' split) <;> exact h.marks
  · rw [s.walkOne_state, hstate] at htally
    contradiction
  · have hcleared := h.preparing hstate
    unfold State.walkOne
    split
    · exact hcleared
    · split
      · intro y hy
        obtain hy | ⟨z, _, rfl⟩ := mem_take_modify hy
        · exact hcleared y hy
        · exact ⟨rfl, rfl⟩
      · unfold State.countNext State.countRecord
        split
        · exact hcleared
        next a _ =>
          have hcounted : ∀ y ∈ ((s.modSection a.home (fun y => { y with expected := y.expected + 1 })).tst.sections).take
              s.psc.cleared, y.state = .unvisited ∧ y.list = [] := by
            intro y hy
            have hy : y ∈ (s.tst.sections.map (fun y => if y.id = a.home then { y with expected := y.expected + 1 } else y)).take
                s.psc.cleared := hy
            rw [← List.map_take] at hy
            obtain ⟨z, hz, rfl⟩ := List.mem_map.mp hy
            split
            · exact hcleared z hz
            · exact hcleared z hz
          split
          · exact hcleared
          · split
            · exact hcounted
            · exact hcleared

theorem State.walkOne_left (s : State) : s.walkOne.walkLeft = s.walkLeft - 1 := by
  have hholdings : s.walkOne.tst.holdings.length = s.tst.holdings.length := by
    have hloaded : s.walkOne.tst.holdings.map Holding.loaded = s.tst.holdings.map Holding.loaded :=
      congrArg Phase.holdings s.walkOne_phase
    simpa using congrArg List.length hloaded
  have hsections : s.walkOne.tst.sections.length = s.tst.sections.length := by
    have hloaded : s.walkOne.tst.sections.map Section.loaded = s.tst.sections.map Section.loaded :=
      congrArg Phase.sections s.walkOne_phase
    simpa using congrArg List.length hloaded
  have hpositions : s.walkOne.psc.marked + s.walkOne.psc.cleared + s.walkOne.psc.preparation =
      s.psc.marked + s.psc.cleared + s.psc.preparation + 1 ∧
      (s.walkOne.psc.marked = s.psc.marked + 1 ∧ s.psc.marked < s.tst.holdings.length ∧ s.walkOne.psc.cleared = s.psc.cleared ∨
        s.walkOne.psc.cleared = s.psc.cleared + 1 ∧ s.psc.cleared < s.tst.sections.length ∧ s.walkOne.psc.marked = s.psc.marked ∨
        s.walkOne.psc.preparation = s.psc.preparation + 1 ∧ s.psc.preparation < s.tst.holdings.length ∧
          s.walkOne.psc.marked = s.psc.marked ∧ s.walkOne.psc.cleared = s.psc.cleared) ∨
      s.walkLeft = 0 ∧ s.walkOne = s := by
    unfold State.walkOne
    split
    next hm => exact .inl ⟨by
      show s.psc.marked + 1 + s.psc.cleared + s.psc.preparation = _
      omega, .inl ⟨rfl, hm, rfl⟩⟩
    next hm =>
      split
      next hc => exact .inl ⟨by
        show s.psc.marked + (s.psc.cleared + 1) + s.psc.preparation = _
        omega, .inr (.inl ⟨rfl, hc, rfl⟩)⟩
      next hc =>
        unfold State.countNext
        split
        next hnone =>
          have hp := List.getElem?_eq_none_iff.mp hnone
          exact .inr ⟨by rw [State.walkLeft]; omega, rfl⟩
        next a ha =>
          obtain ⟨hp, _⟩ := List.getElem?_eq_some_iff.mp ha
          have hcounted : (s.countRecord a).psc.marked = s.psc.marked ∧ (s.countRecord a).psc.cleared = s.psc.cleared ∧
              (s.countRecord a).psc.preparation = s.psc.preparation := by
            unfold State.countRecord
            (repeat' split) <;> exact ⟨rfl, rfl, rfl⟩
          obtain ⟨hmarked, hcleared, hprep⟩ := hcounted
          refine .inl ⟨?_, .inr (.inr ⟨rfl, hp, hmarked, hcleared⟩)⟩
          show (s.countRecord a).psc.marked + (s.countRecord a).psc.cleared + (s.psc.preparation + 1) = _
          omega
  obtain ⟨hsum, hcases⟩ | ⟨hzero, hsame⟩ := hpositions
  · rw [State.walkLeft, State.walkLeft, hholdings, hsections]
    omega
  · rw [hsame, hzero]

/-- The rest of the walk leaves no record before it. -/
theorem State.walkRest_done (s : State) : s.walkRest.walkLeft = 0 := by
  have hrun (n : Nat) : ∀ t : State, t.walkLeft ≤ n → (repeated State.walkOne n t).walkLeft = 0 := by
    induction n with
    | zero => exact fun t ht => Nat.le_zero.mp ht
    | succ n ih =>
      intro t ht
      rw [repeated]
      refine ih _ ?_
      rw [t.walkOne_left]
      omega
  exact hrun _ s le_rfl

theorem State.walkRest_resting (h : s.Resting) (hstate : s.psc.state = .preparing) :
    s.walkRest.Resting ∧ s.walkRest.psc.state = .preparing :=
  repeated_preserves (fun t => t.Resting ∧ t.psc.state = .preparing) _
    (fun t ht => ⟨State.walkOne_resting ht.1 ht.2, t.walkOne_state.trans ht.2⟩) _ _ ⟨h, hstate⟩

/-- The law where every section is UNVISITED and nothing is in hand. -/
theorem State.law_of_fresh (h : s.Resting) (hfresh : ∀ y ∈ s.tst.sections, y.state = .unvisited ∧ y.list = []) :
    s.view.Law ∧ s.view.WorkLaw := by
  obtain ⟨htable, hwork, hrequests, hlist, hreporter, hclosing, hmarks, _⟩ := h
  have hgrade (x : SectionId) : s.view.grade x = none := by
    show (findOpen s.sru.openList x).map _ = none
    rw [hlist]
    rfl
  have hlisted : s.view.listed = [] := by
    show s.sru.openList.map _ = []
    rw [hlist]
    rfl
  have hreported : s.view.reported = [] := by
    show (s.sru.reporter.map Reporter.sec).toList ++ s.sru.closing = []
    rw [hreporter, hclosing]
    rfl
  have hrequested : s.view.requests = [] := hrequests
  have hnone (e : Sighting) : ¬s.view.has e := by
    show ¬e ∈ s.spe.table
    rw [htable]
    exact List.not_mem_nil
  have hstate {x : SectionId} {g : SectionState} {l : List (Option Nat)} (hx : s.view.sect x = some (g, l)) :
      g = .unvisited ∧ l = [] := by
    obtain ⟨y, hy, _, hkey⟩ := State.exists_of_sect hx
    obtain ⟨hg, hl⟩ := hfresh y hy
    refine ⟨(congrArg Prod.fst hkey).symm.trans hg, (congrArg Prod.snd hkey).symm.trans ?_⟩
    show y.list.map Item.slot = []
    rw [hl]
    rfl
  have hunvisited {x : SectionId} {g : SectionState} (hx : s.view.stateOf x = some g) : g = .unvisited := by
    obtain ⟨l, hl⟩ := View.exists_sect hx
    exact (hstate hl).1
  refine ⟨⟨hlisted ▸ List.nodup_nil, fun x => ?_, hreported ▸ List.nodup_nil, hrequested ▸ List.nodup_nil, fun x => ?_, fun x => ?_,
    fun x l hx => (hstate hx).2, fun x => ?_, fun x hx => ?_, fun e he => absurd he (hnone e), fun n m hm => ?_,
    fun x l hx => ?_⟩, View.WorkLaw.of_idle hwork⟩
  · rw [hlisted, hgrade]
    exact ⟨fun hx => absurd hx List.not_mem_nil, fun hx => absurd rfl hx⟩
  · rw [hgrade]
    exact ⟨fun hx => by have := hunvisited hx; contradiction, fun hx => absurd rfl hx.1⟩
  · rw [hgrade]
    exact ⟨fun hx => by have := hunvisited hx; contradiction, fun hx => by contradiction⟩
  · rw [hreported, hgrade]
    exact ⟨fun hx => absurd hx List.not_mem_nil, fun hx => by contradiction⟩
  · rw [hrequested] at hx
    exact absurd hx List.not_mem_nil
  · obtain ⟨a, ha, rfl⟩ := Option.map_eq_some_iff.mp hm
    obtain ⟨hs, hp⟩ := hmarks a (List.mem_of_getElem? ha)
    exact ⟨⟨fun h => absurd h hs, fun ⟨e, he, _⟩ => absurd he (hnone e)⟩,
      ⟨fun h => absurd h hp, fun ⟨e, he, _⟩ => absurd he (hnone e)⟩⟩
  · have := (hstate hx).1
    contradiction

theorem State.enterScanning_reads (s : State) : s.enterScanning.psc.state.Reads := by
  obtain ⟨_, _, hsweeps⟩ := s.enterScanning_sweeps
  obtain hsame | ⟨_, hsettle⟩ := hsweeps.edge
  · exact .inl hsame
  · exact .inr hsettle

/-- SCANNING is entered behind a walk with every section UNVISITED. -/
theorem preparingWalkEndStep_lawful (h : s.Lawful b) : (preparingWalkEndStep s).Lawful b := by
  unfold preparingWalkEndStep
  split
  next kind tag hstate _ =>
    dsimp only
    generalize hw : State.enterScanning _ = w
    have hreads : w.psc.state.Reads := hw ▸ State.enterScanning_reads _
    have hstands : s.walkRest.Stands w := by
      rw [← hw]
      simp [State.Stands]
    have hspe : s.walkRest.spe = s.spe := by simp
    have htable : w.spe.table = s.spe.table := hstands.2.1.trans (congrArg Spe.table hspe)
    have hwork : w.spe.work = s.spe.work := hstands.2.2.1.trans (congrArg Spe.work hspe)
    have hlaws (hb : b) : w.view.Law ∧ w.view.WorkLaw := by
      obtain ⟨hresting, hprep⟩ := State.walkRest_resting
        (h.resting hb (by rw [hstate]; exact PassState.not_reads_preparing)) hstate
      have hleft := s.walkRest_done
      rw [State.walkLeft] at hleft
      have hall := hresting.preparing hprep
      rw [List.take_of_length_le (by omega)] at hall
      rw [hstands.view]
      exact State.law_of_fresh hresting hall
    exact ⟨⟨htable ▸ h.kept.table, fun d hd => htable ▸ h.kept.rest d (hwork ▸ hd), fun hb => (hlaws hb.1).1,
      fun hb => (hlaws hb.1).2⟩, fun _ hnot => absurd hreads hnot⟩
  · exact h

/-! ### The tally walk (R137 to R139) -/

theorem State.tallyOne_state (s : State) : s.tallyOne.psc.state = s.psc.state := congrArg Phase.state s.tallyOne_phase

theorem State.judge_tst (s : State) (n : Nat) (o : TallyOutcome) : (s.judge n o).tst = (s.mark (some n) .disposed).tst := by
  cases o with
  | notCovered => rfl
  | uncertain => rfl
  | missing => rfl

/-- The tables after one record of the tally: as they were, or with one more record DISPOSED. -/
theorem State.tallyOne_tst (s : State) : s.tallyOne.tst = s.tst ∨ ∃ n, s.tallyOne.tst = (s.mark (some n) .disposed).tst := by
  unfold State.tallyOne
  split
  · exact .inl rfl
  next a _ =>
    split
    · exact .inl rfl
    · dsimp only
      have hjudged := s.judge_tst s.psc.tallyPosition (tallyOutcome s.tst.sections a.home)
      generalize s.judge s.psc.tallyPosition (tallyOutcome s.tst.sections a.home) = u at hjudged
      refine .inr ⟨s.psc.tallyPosition, Eq.trans ?_ hjudged⟩
      split
      · simp
      · split
        · simp
        · simp

theorem State.tallyOne_resting (h : s.Resting) (hstate : s.psc.state = .tallying) : s.tallyOne.Resting := by
  have hspe : s.tallyOne.spe = s.spe := by simp
  have hsru : s.tallyOne.sru = s.sru := by simp
  refine ⟨hspe ▸ h.table, hspe ▸ h.work, hspe ▸ h.requests, hsru ▸ h.openList, hsru ▸ h.reporter, hsru ▸ h.closing, ?_,
    fun _ => ?_, fun hp => ?_⟩
  · obtain hsame | ⟨n, hmarked⟩ := s.tallyOne_tst
    · rw [hsame]
      exact h.marks
    · rw [hmarked]
      intro a ha
      obtain ha | ha := mem_setMark ha
      · exact h.marks a ha
      · rw [ha]
        exact ⟨by decide, by decide⟩
  · obtain hsame | ⟨n, hmarked⟩ := s.tallyOne_tst
    · rw [hsame]
      exact h.tallying hstate
    · rw [hmarked]
      exact h.tallying hstate
  · rw [s.tallyOne_state, hstate] at hp
    contradiction

theorem State.tallyRest_resting (h : s.Resting) (hstate : s.psc.state = .tallying) : s.tallyRest.Resting :=
  (repeated_preserves (fun t => t.Resting ∧ t.psc.state = .tallying) _ (fun t ht => by
    split
    · exact ht
    · exact ⟨State.tallyOne_resting ht.1 ht.2, t.tallyOne_state.trans ht.2⟩) _ _ ⟨h, hstate⟩).1

theorem tallyWalkEndStep_lawful (h : s.Lawful b) : (tallyWalkEndStep s).Lawful b := by
  unfold tallyWalkEndStep
  split
  next hcond =>
    have hnot : ¬s.psc.state.Reads := by rw [hcond.1]; exact PassState.not_reads_tallying
    have hspe : s.tallyRest.spe = s.spe := by simp
    have hstate : s.tallyRest.psc.state = s.psc.state := congrArg Phase.state s.tallyRest_phase
    have hrest (hb : b) : s.tallyRest.Resting := State.tallyRest_resting (h.resting hb hnot) hcond.1
    generalize s.tallyRest = u at hspe hstate hrest
    dsimp only
    split
    · exact h.outside (congrArg _ hspe) (congrArg _ hspe) (fun _ => hstate ▸ hnot) hrest
    · generalize hw : State.enterIdle _ = w
      have hidle : w.psc.state = .idle := hw ▸ rfl
      have hwspe : w.spe = u.spe := by rw [← hw]; simp
      have hwsru : w.sru = u.sru := by rw [← hw]; simp
      have hwtst : w.tst = u.tst := by rw [← hw]; simp
      refine h.outside (congrArg Spe.table (hwspe.trans hspe)) (congrArg Spe.work (hwspe.trans hspe))
        (fun _ => by rw [hidle]; exact PassState.not_reads_idle) (fun hb => ?_)
      have hr := hrest hb
      refine ⟨hwspe ▸ hr.table, hwspe ▸ hr.work, hwspe ▸ hr.requests, hwsru ▸ hr.openList, hwsru ▸ hr.reporter,
        hwsru ▸ hr.closing, hwtst ▸ hr.marks, fun hs => ?_, fun hs => ?_⟩
      · rw [hidle] at hs
        contradiction
      · rw [hidle] at hs
        contradiction
  · exact h

/-- A walk of PSC that goes on in time that passes. -/
theorem State.walkStep_lawful (h : s.Lawful b) : s.walkStep.Lawful b := by
  unfold State.walkStep
  split
  next hstate =>
    have hspe : s.walkOne.spe = s.spe := by simp
    have hnot : ¬s.psc.state.Reads := by rw [hstate]; exact PassState.not_reads_preparing
    exact h.outside (congrArg _ hspe) (congrArg _ hspe) (fun _ => s.walkOne_state ▸ hnot)
      (fun hb => State.walkOne_resting (h.resting hb hnot) hstate)
  · split
    next hcond =>
      have hspe : s.tallyOne.spe = s.spe := by simp
      have hnot : ¬s.psc.state.Reads := by rw [hcond.1]; exact PassState.not_reads_tallying
      exact h.outside (congrArg _ hspe) (congrArg _ hspe) (fun _ => s.tallyOne_state ▸ hnot)
        (fun hb => State.tallyOne_resting (h.resting hb hnot) hcond.1)
    · exact h

/-! ### Tables loaded and cleared in IDLE (R63 to R67) -/

/-- Other tables in IDLE, without SIGHTED and PLACED marks. -/
theorem State.Lawful.retabled (h : s.Lawful b) (hspe : t.spe = s.spe) (hsru : t.sru = s.sru) (hstate : t.psc.state = s.psc.state)
    (hidle : b → s.psc.state = .idle) (hmarks : b → (∀ a ∈ s.tst.holdings, a.mark ≠ .sighted ∧ a.mark ≠ .placed) →
      ∀ a ∈ t.tst.holdings, a.mark ≠ .sighted ∧ a.mark ≠ .placed) : t.Lawful b := by
  have hnot (hb : b) : ¬s.psc.state.Reads := by rw [hidle hb]; exact PassState.not_reads_idle
  refine h.outside (congrArg _ hspe) (congrArg _ hspe) (fun hb => hstate ▸ hnot hb) (fun hb => ?_)
  have hr := h.resting hb (hnot hb)
  refine ⟨hspe ▸ hr.table, hspe ▸ hr.work, hspe ▸ hr.requests, hsru ▸ hr.openList, hsru ▸ hr.reporter, hsru ▸ hr.closing,
    hmarks hb hr.marks, fun hs => ?_, fun hs => ?_⟩
  · rw [hstate, hidle hb] at hs
    contradiction
  · rw [hstate, hidle hb] at hs
    contradiction

theorem testHolding_mark {q : Params} {table : List Holding} {r : RawHolding} {h : Holding} (hok : testHolding q table r = .ok h) :
    h.mark = .unseen := by
  unfold testHolding at hok
  (repeat' split at hok) <;> cases hok
  rfl

theorem loadCompleteStep_lawful (h : s.Lawful b) (hrun : b → s.RunningInv) : (loadCompleteStep s).Lawful b := by
  unfold loadCompleteStep
  split
  next tag block hhand =>
    refine h.retabled (by simp [State.endLoad]) (by simp [State.endLoad]) (by simp [State.endLoad])
      (fun hb => (hrun hb).2.2.2.2 tag (.inl ⟨block, hhand⟩)) (fun _ hmarks => ?_)
    have hstored := storeBlock_preserves (fun l => ∀ a ∈ l, a.mark ≠ Mark.sighted ∧ a.mark ≠ Mark.placed) (testHolding s.params)
      (fun l r x hl hok a ha => by
        obtain ha | ha := List.mem_append.mp ha
        · exact hl a ha
        · rw [List.mem_singleton.mp ha, testHolding_mark hok]
          exact ⟨by decide, by decide⟩) block s.tst.holdings 0 hmarks
    simpa [State.endLoad] using hstored
  next tag block hhand =>
    refine h.retabled (by simp [State.endLoad]) (by simp [State.endLoad]) (by simp [State.endLoad])
      (fun hb => (hrun hb).2.2.2.2 tag (.inr ⟨block, hhand⟩)) (fun _ hmarks => ?_)
    simpa [State.endLoad] using hmarks
  · exact h
  · exact h

theorem clearTablesAct_lawful (h : s.Lawful b) (f : MgmtFrame) : (clearTablesAct f s).Lawful b := by
  have hrefused (r : ResultCode) : (s.refuse f r).Lawful b := h.stands (s.refuse_stands f r) (.of_eq (by simp))
  unfold clearTablesAct
  split
  · exact hrefused _
  next holdings sections _ =>
    split
    · exact hrefused _
    next hidle =>
      refine h.retabled (by simp) (by simp) (by simp) (fun _ => not_not.mp hidle) (fun _ hmarks => ?_)
      have hcleared : ∀ a ∈ (if holdings then [] else s.tst.holdings), a.mark ≠ Mark.sighted ∧ a.mark ≠ Mark.placed := by
        split
        · exact fun a ha => absurd ha List.not_mem_nil
        · exact hmarks
      simpa using hcleared

end Sys2Proof.Machine
end

section
/-! SUPPORT. Every step keeps the sighting table and the law of marks and sightings. -/

namespace Sys2Proof.Machine

variable {s t u : State} {b : Prop} {c : Instr}

/-! ### The rows of SPE, SRU and PAM outside SCANNING and SETTLING -/

theorem intake_ne_classify {state : PassState} (h : ¬state.Reads) (stale driven : Bool) (e : ReadEntry) :
    intake state stale driven e ≠ .classify := by
  have htests (hd : Bool) (last : Intake) (hl : last ≠ .classify) : tagTests e hd last ≠ .classify := by
    unfold tagTests
    split
    · decide
    · split
      · decide
      · decide
      · split
        · exact hl
        · decide
  unfold intake
  split
  · decide
  · decide
  · decide
  · split
    · decide
    · exact htests _ _ (by decide)
  · exact absurd (.inl rfl) h
  · exact absurd (.inr rfl) h

theorem State.countOpen_stands (s : State) (f : SpeCounters → SpeCounters) : s.Stands (s.countOpen f) := by
  unfold State.countOpen
  split
  · simp [State.Stands]
  · exact .refl s

theorem State.takeIn_stands (s : State) (e : ReadEntry) (carried : Bool) {i : Intake} (hi : i ≠ .classify) :
    s.Stands (s.takeIn e carried i) := by
  cases i with
  | drop => exact .refl s
  | unswept => exact s.countOpen_stands _
  | errorTagged => exact s.countOpen_stands _
  | late => exact s.countOpen_stands _
  | settle => exact s.countOpen_stands _
  | toScu =>
    show s.Stands (s.scuRead carried e)
    unfold State.scuRead
    split
    · simp [State.Stands]
    · simp [State.Stands]
  | classify => exact absurd rfl hi

theorem State.dequeue_stands (s : State) (p : Port) : s.Stands (s.dequeue p) := by
  unfold State.dequeue
  dsimp only
  split
  · simp [State.Stands]
  · simp [State.Stands]

theorem readTakeStep_stands (hnot : ¬s.psc.state.Reads) : s.Stands (readTakeStep s) := by
  unfold readTakeStep
  split
  · split
    · exact .refl s
    next p _ =>
      split
      · exact .refl s
      next e _ _ =>
        unfold State.takeEntry
        dsimp only
        have hpam (t : State) (n : Nat) : t.Stands (t.pamReport p n) := by simp [State.Stands]
        exact (s.dequeue_stands p).trans ((State.countOpen_stands _ _).trans ((hpam _ _).trans
          (State.takeIn_stands _ _ _ (intake_ne_classify hnot _ _ _))))
  · exact .refl s

theorem quietExpiryStep_stands (h : s.Resting) : s.Stands (quietExpiryStep s) := by
  unfold quietExpiryStep
  split
  · have hnone : s.expiryIf (fun t now => decide (t ≤ now)) = none := by
      unfold State.expiryIf
      rw [h.table]
      exact ite_self _
    rw [hnone]
    exact .refl s
  · exact .refl s

theorem forcePlaceAndRetireStep_stands (h : s.Resting) : s.Stands (forcePlaceAndRetireStep s) := by
  unfold forcePlaceAndRetireStep
  rw [h.work, h.requests]
  exact .refl s

theorem overfullFindingWriteStep_stands (h : s.Resting) : s.Stands (overfullFindingWriteStep s) := by
  unfold overfullFindingWriteStep
  rw [h.work]
  exact .refl s

theorem sectionOpenAfterWaitStep_stands (h : s.Resting) : s.Stands (sectionOpenAfterWaitStep s) := by
  unfold sectionOpenAfterWaitStep
  rw [h.work]
  exact .refl s

theorem quietCloseStep_stands (h : s.Resting) (x : SectionId) : s.Stands (quietCloseStep x s) := by
  have hnone : findOpen s.sru.openList x = none := by rw [h.openList]; rfl
  unfold quietCloseStep
  rw [hnone]
  exact .refl s

theorem reporterTakeSectionStep_stands (h : s.Resting) : s.Stands (reporterTakeSectionStep s) := by
  unfold reporterTakeSectionStep
  rw [h.reporter, h.closing]
  exact .refl s

theorem findingWriteStep_stands (h : s.Resting) : s.Stands (findingWriteStep s) := by
  unfold findingWriteStep
  rw [h.reporter]
  exact .refl s

theorem sectionSummaryWriteStep_stands (h : s.Resting) : s.Stands (sectionSummaryWriteStep s) := by
  unfold sectionSummaryWriteStep
  rw [h.reporter]
  exact .refl s

theorem settleStep_stands (h : s.Resting) (hnot : ¬s.psc.state.Reads) : s.Stands (settleStep s) := by
  unfold settleStep
  split
  · have hsettle : s.psc.state ≠ .settling := fun hs => hnot (.inr hs)
    unfold State.settleRun State.closeAllSections
    rw [h.table]
    have hidle : ¬s.waiting = true := fun hw => s.waiting_iff.mp hw h.work
    have hnone : s.placeMany (openSlots [] (fun _ => true)) .settle .settle = s := rfl
    dsimp only
    rw [hnone, if_neg hidle]
    simp only [State.setPsc_sru, State.setSpe_sru, h.openList, List.map_nil, List.foldl_nil]
    unfold State.signalIfClosed
    rw [if_neg (fun hc => hsettle hc.1)]
    exact ⟨rfl, rfl, rfl, rfl, h.openList.symm, rfl, rfl, rfl⟩
  · exact .refl s

theorem activityWindowEndStep_stands (hrun : s.RunningInv) (hnot : ¬s.psc.state.Reads) : s.Stands (activityWindowEndStep s) := by
  obtain ⟨_, _, hquiet, _⟩ := hrun
  have hnone : s.pam.window = none := (hquiet (fun hs => hnot (.inl hs))).1
  unfold activityWindowEndStep
  rw [hnone]
  exact .refl s

/-! ### Every command -/

theorem live_lawful {f : State → State} (hlive : live s f = .next t) (h : s.Lawful b) (hf : (f s).Lawful b) : t.Lawful b := by
  unfold live at hlive
  cases hlive
  split
  · exact h
  · exact hf

/-- A row of SPE, SRU or PAM. -/
theorem live_row_lawful {f : State → State} (hlive : live s f = .next t) (h : s.Lawful b)
    (hids : b → (t.tst.sections.map Section.id).Nodup) (hkept : ∀ p : Prop, s.Kept p → (f s).Kept p)
    (hstate : (f s).psc.state = s.psc.state ∨ s.psc.state = .settling ∧ (f s).psc.state = .tallying ∧ (f s).AllClosed)
    (hrest : b → ¬s.psc.state.Reads → s.Resting → s.Stands (f s)) : t.Lawful b := by
  unfold live at hlive
  cases hlive
  split
  · exact h
  next hline =>
    rw [if_neg hline] at hids
    exact h.row hids (hkept _) hstate hrest

theorem reset_lawful (hspe : t.spe = State.reset.spe) (hsru : t.sru = State.reset.sru) (htst : t.tst = State.reset.tst)
    (hpsc : t.psc = State.reset.psc) : t.Lawful b := by
  refine State.lawful_of_idle (by rw [hpsc]; rfl) (by rw [hspe]; exact ⟨rfl, rfl, rfl⟩) (by rw [hsru]; exact ⟨rfl, rfl, rfl⟩)
    (fun _ a ha => ?_)
  rw [htst] at ha
  exact absurd ha List.not_mem_nil

/-- Every command keeps the law of sightings and sections, with sound tables and pass states behind it. -/
theorem exec_lawful (hexec : exec c s = .next t) (h : s.Lawful b) (htables : b → s.TablesInv) (hrun : b → s.RunningInv) :
    t.Lawful b := by
  have hids (hb : b) : (t.tst.sections.map Section.id).Nodup := (exec_tables c hexec (htables hb)).2.2.2.2.1
  have hplain (hc : ¬Turns c) (hst : s.Stands t) : t.Lawful b := h.exec_stands hexec hc hst
  cases c with
  | powerOn => cases hexec; exact reset_lawful rfl rfl rfl rfl
  | resetLine => cases hexec; exact reset_lawful rfl rfl rfl rfl
  | resetLineRelease => cases hexec; exact hplain id (.refl s)
  | qholdRelease => cases hexec; exact hplain id (.refl s)
  | qholdAssert =>
    refine hplain id ?_
    cases hexec
    split
    · exact .refl s
    · exact qholdAssertStep_stands s
  | frontEndFrameJudged link bytes => exact hplain id (live_stands hexec (frontEndFrameJudgedStep_stands link bytes s))
  | sweepFrameSent link => exact hplain id (live_stands hexec (sweepFrameSentStep_stands link s))
  | sweepStart g => exact hplain id (live_stands hexec (sweepStartStep_stands g s))
  | aStart => exact hplain id (live_stands hexec (aStartStep_stands s))
  | bStart => exact hplain id (live_stands hexec (bStartStep_stands s))
  | clockLimit => exact hplain id (live_stands hexec (clockLimitStep_stands s))
  | drainComplete => exact hplain id (live_stands hexec (drainCompleteStep_stands s))
  | tallyFindingWrite => exact hplain id (live_stands hexec (tallyFindingWriteStep_stands s))
  | calibrationComplete => exact hplain id (live_stands hexec (calibrationCompleteStep_stands s))
  | pause => exact hplain id (live_stands hexec (pauseStep_stands s))
  | resume => exact hplain id (live_stands hexec (resumeStep_stands s))
  | replyFrame => exact hplain id (live_stands hexec (State.stands_of_arbitrate_or_eq (replyFrameStep_eq s)))
  | alertFrame => exact hplain id (live_stands hexec (State.stands_of_arbitrate_or_eq (alertFrameStep_eq s)))
  | reportFrame => exact hplain id (live_stands hexec (State.stands_of_arbitrate_or_eq (reportFrameStep_eq s)))
  | flushTimeExpiry => exact hplain id (live_stands hexec (flushTimeExpiryStep_stands s))
  | uplinkFrameEnd => exact hplain id (live_stands hexec (uplinkFrameEndStep_stands s))
  | identify => exact hplain id (live_dispatch_stands hexec identifyAct_stands)
  | setParam => exact hplain id (live_dispatch_stands hexec setParamAct_stands)
  | getParam => exact hplain id (live_dispatch_stands hexec getParamAct_stands)
  | readStatusPass => exact hplain id (live_dispatch_stands hexec readStatusAct_stands)
  | readStatusPorts => exact hplain id (live_dispatch_stands hexec readStatusAct_stands)
  | readStatusCalibration => exact hplain id (live_dispatch_stands hexec readStatusAct_stands)
  | readStatusCounters => exact hplain id (live_dispatch_stands hexec readStatusAct_stands)
  | readStatusLinks => exact hplain id (live_dispatch_stands hexec readStatusAct_stands)
  | resetPortQueues => exact hplain id (live_dispatch_stands hexec resetPortQueuesAct_stands)
  | resetPortQueuesGlobal => exact hplain id (live_dispatch_stands hexec resetPortQueuesAct_stands)
  | loadHoldings => exact hplain id (live_dispatch_stands hexec (fun f u => u.beginLoad_stands f _ _))
  | loadSections => exact hplain id (live_dispatch_stands hexec (fun f u => u.beginLoad_stands f _ _))
  | calibrate => exact hplain id (live_dispatch_stands hexec calibrateAct_stands)
  | closePass => exact hplain id (live_dispatch_stands hexec closePassAct_stands)
  | badKind => exact hplain id (live_dispatch_stands hexec badKindAct_stands)
  | readTake =>
    exact live_row_lawful hexec h hids (fun _ hk => readTakeStep_kept hk) (.inl (congrArg Phase.state (readTakeStep_phase s)))
      (fun _ hnot _ => readTakeStep_stands hnot)
  | sectionOpenAfterWait =>
    exact live_row_lawful hexec h hids (fun _ hk => sectionOpenAfterWaitStep_kept hk)
      (.inl (congrArg Phase.state (sectionOpenAfterWaitStep_phase s))) (fun _ _ hr => sectionOpenAfterWaitStep_stands hr)
  | overfullFindingWrite =>
    exact live_row_lawful hexec h hids (fun _ hk => overfullFindingWriteStep_kept hk) (overfullFindingWriteStep_state s)
      (fun _ _ hr => overfullFindingWriteStep_stands hr)
  | quietExpiry =>
    exact live_row_lawful hexec h hids (fun _ hk => quietExpiryStep_kept hk) (.inl (congrArg Phase.state (quietExpiryStep_phase s)))
      (fun _ _ hr => quietExpiryStep_stands hr)
  | quietClose sec =>
    exact live_row_lawful hexec h hids (fun _ hk => quietCloseStep_kept hk sec)
      (.inl (congrArg Phase.state (quietCloseStep_phase sec s))) (fun _ _ hr => quietCloseStep_stands hr sec)
  | forcePlaceAndRetire =>
    exact live_row_lawful hexec h hids (fun _ hk => forcePlaceAndRetireStep_kept hk)
      (.inl (congrArg Phase.state (forcePlaceAndRetireStep_phase s))) (fun _ _ hr => forcePlaceAndRetireStep_stands hr)
  | reporterTakeSection =>
    exact live_row_lawful hexec h hids (fun _ hk => reporterTakeSectionStep_kept hk)
      (.inl (congrArg Phase.state (reporterTakeSectionStep_phase s))) (fun _ _ hr => reporterTakeSectionStep_stands hr)
  | findingWrite =>
    exact live_row_lawful hexec h hids (fun _ hk => findingWriteStep_kept hk) (.inl (congrArg Phase.state (findingWriteStep_phase s)))
      (fun _ _ hr => findingWriteStep_stands hr)
  | sectionSummaryWrite =>
    exact live_row_lawful hexec h hids (fun _ hk => sectionSummaryWriteStep_kept hk) (sectionSummaryWriteStep_state s)
      (fun _ _ hr => sectionSummaryWriteStep_stands hr)
  | settle =>
    exact live_row_lawful hexec h hids (fun _ hk => settleStep_kept hk) (settleStep_state s)
      (fun _ hnot hr => settleStep_stands hr hnot)
  | activityWindowEnd =>
    exact live_row_lawful hexec h hids (fun _ hk => activityWindowEndStep_kept hk)
      (.inl (congrArg Phase.state (activityWindowEndStep_phase s))) (fun hb hnot _ => activityWindowEndStep_stands (hrun hb) hnot)
  | tallyWalkEnd => exact live_lawful hexec h (tallyWalkEndStep_lawful h)
  | preparingWalkEnd => exact live_lawful hexec h (preparingWalkEndStep_lawful h)
  | uplinkFrameJudged bytes => exact live_lawful hexec h (uplinkFrameJudgedStep_lawful h bytes)
  | abortPass tag => exact live_lawful (f := (State.abort · tag)) hexec h (State.abort_lawful h tag)
  | restart tag => exact live_lawful (f := (State.restart · tag)) hexec h (State.restart_lawful h tag)
  | openPass => exact live_lawful hexec h (s.dispatch_lawful h _ (fun f _ hu => openPassAct_lawful hu f))
  | rehearse => exact live_lawful hexec h (s.dispatch_lawful h _ (fun f _ hu => rehearseAct_lawful hu f))
  | loadComplete => exact live_lawful hexec h (loadCompleteStep_lawful h hrun)
  | clearTables => exact live_lawful hexec h (s.dispatch_lawful h _ (fun f _ hu => clearTablesAct_lawful hu f))

/-! ### Every step -/

/-- A timed event that is due is the row of a command. -/
theorem State.dueEvent_exec {f : State → State} (hline : ¬s.resetLine = true) (hdue : s.dueEvent = some f) :
    ∃ c, exec c s = .next (f s) := by
  have hlive (g : State → State) : live s g = .next (g s) := congrArg _ (if_neg hline)
  obtain ⟨g, rfl⟩ | rfl | rfl | rfl | rfl | ⟨x, rfl⟩ | rfl | rfl := s.dueEvent_cases f hdue
  · exact ⟨.sweepStart g, hlive _⟩
  · exact ⟨.bStart, hlive _⟩
  · exact ⟨.aStart, hlive _⟩
  · exact ⟨.activityWindowEnd, hlive _⟩
  · exact ⟨.clockLimit, hlive _⟩
  · exact ⟨.quietClose x, hlive _⟩
  · exact ⟨.quietExpiry, hlive _⟩
  · exact ⟨.flushTimeExpiry, hlive _⟩

theorem State.advanceClocks_lawful (h : s.Lawful b) : s.advanceClocks.Lawful b := by
  unfold State.advanceClocks
  dsimp only
  split
  · exact h.stands ⟨rfl, rfl, rfl, rfl, rfl, rfl, rfl, rfl⟩ (.of_eq rfl)
  · exact h.setUlp _

theorem idle_lawful (h : s.Lawful b) (htables : b → s.TablesInv) (hrun : b → s.RunningInv) : (idle s).Lawful b := by
  unfold idle
  split
  · exact h
  next hline =>
    split
    next f hdue =>
      obtain ⟨c, hexec⟩ := State.dueEvent_exec hline hdue
      exact exec_lawful hexec h htables hrun
    · exact State.walkStep_lawful (State.advanceClocks_lawful h)

theorem step_lawful (hstep : step s = .next t) (h : s.Lawful b) (htables : b → s.TablesInv) (hrun : b → s.RunningInv) :
    t.Lawful b := by
  obtain ⟨_, rfl⟩ | ⟨c, rest, _, hexec⟩ := step_cases hstep
  · exact idle_lawful h htables hrun
  · exact exec_lawful (s := s.setPending rest) hexec (h.stands ⟨rfl, rfl, rfl, rfl, rfl, rfl, rfl, rfl⟩ (.of_eq rfl)) htables hrun

/-- Settles O53: the law of sightings and sections, kept by every operation on an entry, a mark and a section. -/
theorem stepsKeepTheSightingTable : Obligations.StepsKeepTheSightingTable := by
  refine ⟨fun s t hsightings hstep => ?_, fun s t hsightings htables hrun hsections hmarks hstep => ?_⟩
  · exact t.lawful_false_iff.mp (step_lawful hstep (s.lawful_false_iff.mpr hsightings) False.elim False.elim)
  · have hlawful := step_lawful hstep (State.lawful_of_inv htables.2.2.2.2.1 hsightings hsections hmarks) (fun _ => htables)
      (fun _ => hrun)
    exact hlawful.inv (stepsKeepTheTables s t htables hstep).2.2.2.2.1

end Sys2Proof.Machine
end
